-- ==== Sys2Proof/Word.lean ====
section
/-! DEFINITION. The word types of the register model (R3, R25, R26) and the one shape sparse data is kept in. -/
namespace Sys2Proof

/-- A 32-bit register word (R3). -/
abbrev Word := BitVec 32

/-- One byte of a memory or of a packet payload. -/
abbrev Byte := BitVec 8

/-- A 24-bit byte address (R25). -/
abbrev Addr := BitVec 24

/-- One 32-bit audio sample, two's complement. -/
abbrev Sample := BitVec 32

/-- A frame: one sample for each channel of a context. -/
abbrev Frame := List Sample

/-- Sparse data: key and value pairs, keys strictly rising, no pair holding what an unlisted key
reads as. -/
abbrev FMap (α : Type) := List (Nat × α)

end Sys2Proof
end

