-- ==== Sys2Proof/Syntax.lean ====
section
/-! DEFINITION. The commands of the block: one constructor of `Instr` for every row of the table of
operations and events, with the operands the outside supplies.  Before it, the shapes of those operands:
sources, packets, Rhizome frames and cells. -/
namespace Sys2Proof

/-- The command sources, in the order of the source codes of R58. -/
inductive Src where
  | ctl | usb | rz | eng
deriving DecidableEq, Repr

/-- The source code of R58. -/
def Src.code : Src → Nat
  | .ctl => 0
  | .usb => 1
  | .rz => 2
  | .eng => 3

/-- The PEC of a command on the control bus (R377, R382): CMD bit 7 clear, or the PEC byte received. -/
inductive Pec where
  | none
  | byte (b : Byte)
deriving DecidableEq, Repr

/-- The command packets of R33 and R378. -/
inductive Packet where
  | writeWord (addr : Addr) (data : Word)
  | readWord (addr : Addr)
  | writeBlock (addr : Addr) (data : List Byte)
  | readBlock (addr : Addr) (len : Nat)
  | commit (mask : BitVec 8)
  | readStatus
  | fifoWrite (addr : Addr) (data : List Byte)
  /-- `taken`: the bytes the controller acknowledges (R383); another source takes them all. -/
  | fifoRead (addr : Addr) (len taken : Nat)
  | ping
  /-- The enclosed packet as its bytes, from its command byte on (R379). -/
  | rzForward (dst : BitVec 16) (enclosed : List Byte)
  | fwdResult (off : BitVec 16) (len : Nat)
deriving DecidableEq, Repr

/-- A Rhizome cell beside its TYPE and link fields (R328). -/
structure Cell where
  bcast : Bool
  dst : BitVec 10
  src : BitVec 10
  srcdom : BitVec 16
  frag : BitVec 7
  last : Bool
  tag : Byte
  payload : List Byte
deriving DecidableEq, Repr

/-- What the kernel of a task leaves behind (R164, R165, R169, R185). -/
structure TaskOut where
  /-- The frames of its output ports, by port. -/
  ports : List (Byte × List (List Sample))
  /-- The frames of its output buffers with PORT 0, in the order of its output list. -/
  mids : List (List (List Sample))
  /-- The words of its write state bank. -/
  bank : List Word
  /-- The bytes of its DMEM scratch, and the two accumulators (R157). -/
  scratch : List Byte
  macs : BitVec 72 × BitVec 72
  /-- The single-bit errors corrected while it ran, in IMEM and DMEM, and in Thallus. -/
  sec : Nat
  thSec : Nat
deriving DecidableEq, Repr

/-- A cell as a link carries it (R328, R330). -/
structure LinkCell where
  typ : BitVec 4
  /-- OUT: the master has sent the cell outbound. -/
  out : Bool
  lseq : Byte
  /-- Its CRC passes. -/
  good : Bool
  cell : Cell
deriving DecidableEq, Repr

/-- A Rhizome frame as a receiver takes it (R315, R316, R327). -/
structure RzFrame where
  /-- The header is at its expected position with a correct HCRC. -/
  ok : Bool
  half : Bool
  acting : Bool
  /-- PASS: the return pass. -/
  ret : Bool
  domain : BitVec 16
  midx : BitVec 64
  muid : Word
  maddr : BitVec 10
  hops : BitVec 10
  accdly : Word
  presd : BitVec 16
  mapcrc : BitVec 16
  /-- The slots whose VALID bit is 1: slot, word, RELAY. -/
  slots : List (BitVec 9 × Sample × Bool)
  /-- ACKSEQ and the NAK bit of link-control byte 2. -/
  ackseq : Byte
  nak : Bool
  resync : Bool
  resyncAns : Bool
  credits : BitVec 5
  free : BitVec 5
  cells : List LinkCell
deriving DecidableEq, Repr

/-- What a START, a repeated START or a STOP on CTL cuts off (R383): the command byte of a command whose
last expected byte has not been acknowledged, and whether it is a write command. -/
structure CtlCut where
  cmd : Byte
  write : Bool
deriving DecidableEq, Repr

/-- The condition seen on CTL (R383, R384). -/
inductive CtlEdge where
  | start | restart | stop
deriving DecidableEq, Repr

/-- A control that a host request names (R299 to R301).  `unit21`: feature unit 0x21, else 0x11. -/
inductive UsbCtl where
  | samFreq
  | clockValid (k : Fin 8)
  | clockSelector
  | mute (unit21 : Bool) (ch : BitVec 6)
  | volume (unit21 : Bool) (ch : BitVec 6)
deriving DecidableEq, Repr

/-- The strap levels sampled at POR and PIN reset (R430). -/
structure Straps where
  addr1 : BitVec 2
  addr0 : BitVec 2
  role1 : Bool
  role0 : Bool
deriving DecidableEq, Repr

/-- The commands: one for each row of the table. DESIGN CHOICE, notes/assumptions/3.md. -/
inductive Instr where
  /-- One word is written (R33). -/
  | writeWord (src : Src) (pec : Pec) (addr : Addr) (data : Word)
  /-- One word is read (R33). -/
  | readWord (src : Src) (pec : Pec) (addr : Addr)
  /-- A run of bytes is written as one packet (R33). -/
  | writeBlock (src : Src) (pec : Pec) (addr : Addr) (data : List Byte)
  /-- A run of bytes is read (R33). -/
  | readBlock (src : Src) (pec : Pec) (addr : Addr) (len : Nat)
  /-- The staged values of the groups in the mask are taken (R42). -/
  | commit (src : Src) (pec : Pec) (mask : BitVec 8)
  /-- The eight status bytes (R380). -/
  | readStatus (src : Src) (pec : Pec)
  /-- Bytes go to one FIFO register (R33). -/
  | fifoWrite (src : Src) (pec : Pec) (addr : Addr) (data : List Byte)
  /-- Bytes come from one FIFO register; `taken`: those whose acknowledge clock completes (R33, R383). -/
  | fifoRead (src : Src) (pec : Pec) (addr : Addr) (len : Nat) (taken : Nat)
  /-- SYS.ID and the low word of the unique ID (R381). -/
  | ping (src : Src) (pec : Pec)
  /-- A packet is forwarded over Rhizome (R332). -/
  | rzForward (src : Src) (pec : Pec) (dst : BitVec 16) (enclosed : List Byte)
  /-- Returned data of the last forward is read (R379). -/
  | fwdResult (src : Src) (pec : Pec) (off : BitVec 16) (len : Nat)
  /-- A write of a register that has no row of its own (R44). -/
  | registerWrite (src : Src) (addr : Addr) (data : Word)
  /-- CTRL.SRST of a page is set (R30). -/
  | blkReset (src : Src) (page : Byte)
  /-- A block boundary (R15); the converters' measurements: context, ratio (8.24), trim. -/
  | blockBoundary (ratios : List (Byte × Word × Int))
  /-- STRM.CMD ARM (R102). -/
  | arm (src : Src) (ctx : Byte)
  /-- STRM.CMD START (R102). -/
  | start (src : Src) (ctx : Byte)
  /-- STRM.CMD STOP (R102). -/
  | stop (src : Src) (ctx : Byte)
  /-- STRM.CMD DRAIN (R102). -/
  | drain (src : Src) (ctx : Byte)
  /-- STRM.CMD RELEASE (R102). -/
  | release (src : Src) (ctx : Byte)
  /-- An endpoint or producer writes a frame (R117); `clip`: an analog input met its clip level (R233). -/
  | frameArrival (ctx : Byte) (frame : List Sample) (clip : Bool)
  /-- Frames are due to leave contexts (R117); `tick`: a sample period of SYSRATE begins. -/
  | frameDue (due : List Byte) (tick : Bool)
  /-- No zero crossing within ZCTO (R97). -/
  | zcTimeout (ctx : Byte) (ch : Byte)
  /-- TRAIL frames have passed (R96). -/
  | clockTrailEnd (port : Fin 6)
  /-- An FSYNC edge off period (R108). -/
  | framePeriodError (port : Fin 6)
  /-- The contexts of a slave port stall (R110); `loss`: BCLK was lost. -/
  | stallDetect (port : Fin 6) (loss : Bool)
  /-- A rate measurement ends, in 1/16 Hz (R113). -/
  | rateMeasureDone (port : Fin 6) (rate : Nat)
  /-- A converter locks at a ratio, 8.24 (R127). -/
  | asrcLock (ctx : Byte) (ratio : Word)
  /-- The measured ratio leaves its range (R130). -/
  | asrcRangeExit (ctx : Byte)
  /-- One half of STARTAT is written (R138). -/
  | grpStartatWrite (src : Src) (hi : Bool) (data : Word)
  /-- No edge within ACTWIN (R63). -/
  | activityLoss (ref : Fin 12)
  /-- A frequency gate ends with an offset, in units of REFMON.OFFSET (R64). -/
  | frequencyGateEnd (ref : Fin 12) (off : Int)
  /-- The wait-to-restore timer expires (R66). -/
  | wtrExpire (ref : Fin 12)
  /-- The evaluation of R70; `phase`: the phase step of a switch, in ps (R76). -/
  | selectionEvaluation (phase : Int)
  /-- The lock criterion is met (R72). -/
  | lockAchieved
  /-- An APLL locks (R72). -/
  | apllLock (b : Bool)
  /-- An APLL loses lock (R84). -/
  | apllUnlock (b : Bool)
  /-- Once per second in LOCKED (R79). -/
  | holdoverHistoryUpdate
  /-- Once per second in HOLDOVER (R80). -/
  | holdoverCorrection
  /-- No temperature result for 2 s (R81). -/
  | temperatureStale
  /-- CLKM.CTRL.TEST is set (R72). -/
  | testEnter (src : Src)
  /-- CLKM.CTRL.TEST is cleared (R72). -/
  | testExit (src : Src)
  /-- The nominal frequency of a reference changes (R62). -/
  | nominalChange (ref : Fin 12)
  /-- The refill of the inactive half completes (R149). -/
  | mxtRefillDone
  /-- A crosspoint finds no zero crossing (R151). -/
  | crosspointZcTimeout (entry : BitVec 14)
  /-- A crosspoint ramp ends (R151). -/
  | crosspointRampEnd (entry : BitVec 14)
  /-- SCHED.GLOAD is written (R170). -/
  | gload (src : Src) (data : Word)
  /-- The checker finishes (R173). -/
  | admissionDone
  /-- SCHED.GSWITCH is staged (R175). -/
  | gswitch (src : Src) (mask : BitVec 4)
  /-- An engine takes a task (R178). -/
  | taskDispatch (eng : Fin 16)
  /-- A task completes with its status and what its kernel has written (R179). -/
  | taskComplete (eng : Fin 16) (status : Nat) (out : TaskOut)
  /-- A kernel queues a packet (R166). -/
  | registerServiceCall (eng : Fin 16) (packet : Packet)
  /-- A sag comparator trips (R184); `inside`: the recommended conditions of R440 hold. -/
  | sagTrip (vdd33 : Bool) (inside : Bool)
  /-- 50 microseconds without a trip (R184). -/
  | droopStepUp
  /-- A read meets a double-bit error (R185); `slot`: the graph that read. -/
  | thallusDoubleBitError (addr : BitVec 22) (slot : Option (Fin 4))
  /-- The scrubber has read all of Thallus (R185). -/
  | scrubPass
  /-- ENGn.CTRL.EN is set (R186). -/
  | engineEnable (src : Src) (eng : Fin 16)
  /-- ENGn.CTRL.EN is cleared (R186). -/
  | engineDisable (src : Src) (eng : Fin 16)
  /-- A self-test and load end (R186). -/
  | selftestDone (eng : Fin 16) (pass : Bool)
  /-- A double-bit error in an engine's IMEM or DMEM (R187). -/
  | engineQuarantine (eng : Fin 16) (dmem : Bool)
  /-- A task has run so many engine cycles (R186). -/
  | taskWatchdog (eng : Fin 16) (cycles : Nat)
  /-- ENGn.CTRL.RELEASE is written (R194). -/
  | engRelease (src : Src) (eng : Fin 16)
  /-- ENG.CMD ROLL (R189). -/
  | roll (src : Src) (carry : Bool)
  /-- The check of the staged set ends (R189). -/
  | rollSetCheckDone
  /-- An updating engine's reload ends (R190). -/
  | reloadDone (eng : Fin 16) (ok : Bool)
  /-- MUTE_SW_N has held a new level for tDEB (R202). -/
  | hwmuteChange (high : Bool)
  /-- Peat has been overwritten with zeros (R204). -/
  | peatZeroed
  /-- The start sequence of the microphones begins (R201). -/
  | micStartSequence
  /-- The MICVDD wait ends (R201). -/
  | vddwaitEnd
  /-- The SETTLE time of clocks ends (R201). -/
  | settled (clocks : BitVec 4)
  /-- The MICVDD load is over 80 mA (R200). -/
  | micvddOvercurrent
  /-- A LIVE probe ends (R209). -/
  | liveProbeEnd
  /-- A new probe starts (R209). -/
  | reprobe
  /-- Peat writes one frame (R211). -/
  | peatFrame (xs : List Sample)
  /-- Spore's confidence of a hop, and the onset it marks (R213, R214). -/
  | sporeHop (conf : Byte) (onset : Option (BitVec 64))
  /-- Fiddlehead's confidence of a hop (R215). -/
  | fhdHop (conf : Byte)
  /-- FHDWIN ends (R215). -/
  | fhdwinExpire
  /-- VWIN elapses (R215). -/
  | vwinExpire
  /-- WAKE.VERDICT ACCEPT (R216). -/
  | verdictAccept (src : Src)
  /-- WAKE.VERDICT REJECT (R216). -/
  | verdictReject (src : Src)
  /-- WAKE.CTRL.EN is set (R215). -/
  | wakeEnable (src : Src)
  /-- WAKE.CTRL.EN is cleared (R215). -/
  | wakeDisable (src : Src)
  /-- The wake sequencer issues its next command (R218). -/
  | wakeSequencerStep
  /-- WAKE_DEFER elapses (R222). -/
  | wakeDeferExpire
  /-- The accepted START is no longer in Peat (R215). -/
  | candidateExpired
  /-- FHD.WCTRL.START is set (R225). -/
  | modelLoadStart (src : Src)
  /-- A catch-up context sends frames (R224). -/
  | catchupTransfer (ctx : Byte) (n : Nat)
  /-- A PGA change finds no zero crossing (R233). -/
  | pgaZcTimeout (input : Fin 4)
  /-- A MICBIAS output at its limit for 1 ms (R235). -/
  | micbiasOvercurrent (n : Fin 2)
  /-- A stage begins its start order (R239): 0 headphone, 1 and 2 the line outputs. -/
  | outputStart (out : Fin 3)
  /-- The charge-pump soft start ends (R239). -/
  | chargePumpReady
  /-- The DC servo has acquired the offsets (R239). -/
  | servoDone (out : Fin 3) (left : Nat) (right : Nat)
  /-- A stage runs its stop order (R240). -/
  | outputStop (out : Fin 3)
  /-- An output at its current limit (R238). -/
  | outputOvercurrent (out : Fin 3)
  /-- HP_DET changes to a level: it reaches or leaves its inserted level (R243). -/
  | hpDetChange (high : Bool)
  /-- DEB elapses (R243). -/
  | jackDebounceEnd
  /-- A PENDING jack enters DETECT (R243). -/
  | jackPendingResume
  /-- A type measurement's injected conversion ends with `uv` microvolts, and the pass is classed (R244). -/
  | typeMeasurementDone (uv : Nat)
  /-- The impedance measurement of a side ends with `uv` microvolts on it (R246). -/
  | impedanceMeasurementDone (uv : Nat)
  /-- The microphone pole has stayed below TH3 for BTNDEB, and the press is identified by its `uv` microvolts (R250). -/
  | buttonPress (uv : Nat)
  /-- The pole has stayed at or above TH3 for BTNDEB (R250). -/
  | buttonRelease
  /-- 20 ms after a release (R251). -/
  | btnmuteEnd
  /-- A press in LISTEN (R252). -/
  | listenButtonPress
  /-- A bridge begins its bootstrap charge (R266). -/
  | ampStart (ch : Fin 4)
  /-- tBOOT elapses (R278). -/
  | bootstrapDone (ch : Fin 4)
  /-- A bridge stops (R266). -/
  | ampStop (ch : Fin 4)
  /-- Output current at the threshold (R278). -/
  | ampOvercurrent (ch : Fin 4)
  /-- The retry timer expires (R278). -/
  | retryTimerExpire (ch : Fin 4)
  /-- A DC load test ends (R279): the voltages of the two terminals at the terminal check, the differential voltage that
  Lichen has measured, and the means of the sensed voltage and current, in microvolts and microamperes. -/
  | loadTestDone (ch : Fin 4) (termP termN lichUv senseUv senseUa : Int)
  /-- AMPn.CTRL.CLRFLT (R278). -/
  | clrflt (src : Src) (ch : Fin 4)
  /-- CLEAN seconds without a fault (R278). -/
  | triesClean (ch : Fin 4)
  /-- DC at the output for tDCDET (R282). -/
  | dcOffsetDetect (ch : Fin 4)
  /-- PVDD crosses a threshold, in 10 mV (R281). -/
  | pvddFault (level : Nat)
  /-- The power die crosses a threshold, in degrees (R283). -/
  | dieTemperatureThreshold (t : Int)
  /-- A millisecond of the thermal model (R268). -/
  | thermalModelStep
  /-- A Re window ends: voltage and current at the pilot tone (R270). -/
  | reWindowEnd (ch : Fin 4) (uv : Nat) (ua : Nat)
  /-- No NTC result for 2 s (R269). -/
  | ntcStale (k : Fin 2)
  /-- A voltage and current sample of each bridge (R267), PVDD in 10 mV. -/
  | senseSample (vi : List (BitVec 16 × BitVec 16)) (pvdd : Nat)
  /-- EXCUR.CMD.APPLY (R273). -/
  | apply (src : Src)
  /-- USB_VBUS appears or disappears (R290). -/
  | vbusChange (present : Bool)
  /-- A bus reset, ending at high or full speed (R295). -/
  | busReset (high : Bool)
  /-- SET_CONFIGURATION (R295). -/
  | setConfiguration (configured : Bool)
  /-- SET_INTERFACE (R295). -/
  | setInterface (isIn : Bool) (setting : Nat)
  /-- SET_CUR of the sample frequency (R300). -/
  | setCurSampleFrequency (hz : Word)
  /-- SET_CUR of the clock selector (R299). -/
  | setCurClockSelector (pin : Nat)
  /-- SET_CUR of Mute or Volume (R301, R302). -/
  | setCurFeatureUnit (unit21 : Bool) (ch : BitVec 6) (mute : Bool) (value : BitVec 16)
  /-- GET CUR (R301). -/
  | getCur (ctl : UsbCtl)
  /-- GET RANGE (R301). -/
  | getRange (ctl : UsbCtl)
  /-- An isochronous OUT packet: received without error, and its bytes (R292, R296). -/
  | usbOutPacket (good : Bool) (data : List Byte)
  /-- An isochronous IN packet is sent; `more`: the sample clock produced the greater of the two counts (R296). -/
  | usbInPacket (more : Bool)
  /-- M of R297. -/
  | feedbackUpdate (m : Nat)
  /-- A clock source's validity changes (R299). -/
  | clockValidityChange (k : Fin 8)
  /-- 3 ms of idle bus (R306). -/
  | suspend
  /-- The host's resume signalling (R306). -/
  | resume
  /-- An LPM transaction, with its bRemoteWake bit (R307). -/
  | lpmTransaction (rwake : Bool)
  /-- The device leaves L1 (R307). -/
  | l1Exit
  /-- A remote-wakeup cause (R308). -/
  | rwake
  /-- The button state changes (R305). -/
  | hidInputReport (phoneMute : Bool)
  /-- SET_REPORT (R305). -/
  | hidOutputReport (report : Byte)
  /-- An unknown bRequest (R304). -/
  | unknownRequest
  /-- A Rhizome frame is received (R317). -/
  | frameReceive (portB : Bool) (frame : RzFrame)
  /-- The master emits (R314). -/
  | masterFrameEmit
  /-- The outbound pass moves to the other receiver (R313). -/
  | portSwap
  /-- The cable delay of a link, in 50 ps (R319). -/
  | echoMeasurement (portB : Bool) (trip : BitVec 24)
  /-- The master takes the circulation delay (R321). -/
  | circMeasured
  /-- RZ.CMD REPRES (R321). -/
  | repres (src : Src)
  /-- RZ.CMD RRESET (R333). -/
  | rreset (src : Src) (dst : BitVec 10)
  /-- RZ.CMD CRESYNC (R330). -/
  | cresync (src : Src)
  /-- A slot REQ CLAIM (R326). -/
  | claim (src : Src) (slot : BitVec 9)
  /-- A slot REQ RELEASE (R326). -/
  | slotRelease (src : Src) (slot : BitVec 9)
  /-- A claim has waited tCLAIM (R326). -/
  | claimTimeout
  /-- A CLAIM cell at the master (R326). -/
  | claimCell (cell : Cell)
  /-- A GRANT cell (R326). -/
  | grantCell (cell : Cell)
  /-- A REFUSE cell (R326). -/
  | refuseCell (cell : Cell)
  /-- A RELEASE cell at the master (R326). -/
  | releaseCell (cell : Cell)
  /-- A MAPREQ cell at the master (R327). -/
  | mapreqCell (cell : Cell)
  /-- A CMD cell at its target (R331). -/
  | cmdCell (cell : Cell)
  /-- A RESULT cell (R332). -/
  | resultCell (cell : Cell)
  /-- An ERROR cell (R332). -/
  | errorCell (cell : Cell)
  /-- An EVENT cell at the master (R333). -/
  | eventCell (cell : Cell)
  /-- A RESET cell (R333). -/
  | resetCell (cell : Cell)
  /-- A BKANN cell at the master (R336). -/
  | bkannCell (cell : Cell)
  /-- 1,024 frames have passed (R337). -/
  | bkannRepeat
  /-- No BKANN for 4,096 frames (R337). -/
  | backupRecordTimeout
  /-- tREASM has passed (R331). -/
  | reassemblyTimeout (from' : BitVec 10) (tag : Byte)
  /-- 100 ms without an answer (R332). -/
  | forwardNoAnswer (of : Src)
  /-- A cell is resent (R330). -/
  | cellResend (portB : Bool) (lseq : Byte)
  /-- Two headers missing on both receivers (R336). -/
  | masterLossFailover
  /-- tRZLISTEN elapses (R338). -/
  | masterListenEnd
  /-- Frame lock missing for tRZSTALL, or ALIGN cleared (R324). -/
  | rhizomeStall
  /-- A pass of a regular sequence starts (R345). -/
  | regularPassStart (onB : Bool)
  /-- A regular entry ends with the sum of its samples (R343). -/
  | regularEntryEnd (onB : Bool) (sum : Nat)
  /-- The amplifier or the jack, or both in one cycle, queue a conversion (R346). -/
  | injectedRequest (amp : Bool) (jack : Bool)
  /-- The INJTMR period elapses (R346). -/
  | injectedTimerTick
  /-- LICH.INJSW.GO is set (R346). -/
  | injswGo (src : Src)
  /-- The injected entry of a converter ends (R347). -/
  | injectedEntryEnd (onB : Bool) (sum : Nat)
  /-- PERIOD ms have passed (R348). -/
  | plausibilityDue
  /-- The paired samples end (R349). -/
  | plausibilityCheckEnd (sumA : Nat) (sumB : Nat)
  /-- LICH.CTRL.CAL is set (R350). -/
  | cal (src : Src)
  /-- The calibration starts (R350). -/
  | calibrationStart
  /-- tCAL has passed (R350). -/
  | calibrationDone
  /-- CDAC.INn is written (R357). -/
  | cdacInputWrite (src : Src) (n : Fin 8) (data : Word)
  /-- CDAC.LOAD is written (R357). -/
  | load (src : Src) (mask : Byte)
  /-- A falling edge of LOAD_N (R357). -/
  | loadNEdge
  /-- PTCTL.ARM is written (R358). -/
  | ptArm (src : Src)
  /-- PTCTL.DISARM is written (R359). -/
  | disarm (src : Src)
  /-- The sample period PTIDX starts (R358). -/
  | presentationTimeLoad
  /-- A tick of a channel's slew limiter (R360). -/
  | slewTick (n : Fin 8)
  /-- Sub-sample j of the current frame is loaded (R362). -/
  | streamSubsampleLoad (ctx : Byte) (j : Nat)
  /-- A fault cause is asserted or ends (R365). -/
  | safeCauseChange
  /-- CDAC.CTRL.SAFECLR (R365). -/
  | safeclr (src : Src)
  /-- The supervision condition of a channel has stood, or been absent, for tSUP (R366). -/
  | supervisionFault (n : Fin 8) (stands : Bool)
  /-- A START, repeated START or STOP on CTL (R383). -/
  | ctlStart (edge : CtlEdge) (cut : Option CtlCut)
  /-- CTL_SCL low for tTOUT (R386). -/
  | ctlTimeout (cut : Option CtlCut)
  /-- The address probe ends (R373). -/
  | addressProbeEnd
  /-- A probe begins at the first STOP after an ADDRCFG write (R373). -/
  | addressProbeStart
  /-- A read of 0x0C (R387). -/
  | alertResponse
  /-- AUXB.CTRL.GO is set (R388). -/
  | auxGo (src : Src)
  /-- An AUX transfer ends (R388); `pulses`: its last try began with a pulse run (R390). -/
  | auxTransferEnd (result : BitVec 3) (nackPos : Byte) (pulses : Bool) (rx : List Byte)
  /-- AUX arbitration is lost (R389); `pulses`: the try began with a pulse run (R390). -/
  | arbitrationLost (pulses : Bool)
  /-- The bus-free time and backoff elapse (R389). -/
  | auxBackoffEnd
  /-- A target holds AUX_SCL low for tTOUT (R391); `pulses`: the try began with a pulse run
  (R390). -/
  | auxTimeout (pulses : Bool) (rx : List Byte)
  /-- AUXB.CTRL.ABORT is set (R391). -/
  | abort (src : Src)
  /-- PWR.MODEREQ is written (R397). -/
  | modeRequest (src : Src) (mode : BitVec 3)
  /-- A held request is taken (R397). -/
  | heldRequestTaken
  /-- The move into STANDBY or LISTEN completes (R398). -/
  | moveToLowPower
  /-- DRAINTO elapses (R398). -/
  | draintoExpire
  /-- The return to IDLE completes (R399). -/
  | moveToIdle
  /-- A move between STANDBY and LISTEN completes (R399). -/
  | islandMove
  /-- The path is ready (R396). -/
  | pathPrepared
  /-- PWRDN_N goes low (R400). -/
  | pwrdn
  /-- The supplies rise, or OFF is left (R403). -/
  | por (straps : Straps)
  /-- A supply falls below its POR threshold (R455). -/
  | supplyLoss
  /-- RESET_N low for tRSTW (R403). -/
  | pinReset (straps : Straps)
  /-- SYS.CTRL.FULLRST is set (R404). -/
  | fullrst (src : Src)
  /-- No progress for tWDG (R404). -/
  | arbiterStall
  /-- The NVM load completes (R407). -/
  | bootDone
  /-- A GRAPH section is loaded (R414). -/
  | graphSectionLoad
  /-- NVM.CMD ERASE (R416). -/
  | erase (src : Src)
  /-- NVM.CMD FLUSH (R416). -/
  | flush (src : Src)
  /-- NVM.CMD VERIFY (R416). -/
  | verify (src : Src)
  /-- NVM.CMD COPY (R416). -/
  | copy (src : Src)
  /-- An NVM operation ends; `ok`: the flash reported no error (R416). -/
  | nvmOperationDone (ok : Bool)
  /-- A 16-byte line of the FIFO is programmed (R415). -/
  | lineProgram
  /-- The input level of a pin, after the debounce, is new (R432). -/
  | gpioEdge (pin : Fin 8) (high : Bool)
  /-- GPIO.SET (R434). -/
  | set (src : Src) (mask : Byte)
  /-- GPIO.CLR (R434). -/
  | clr (src : Src) (mask : Byte)
  /-- The AO timebase fraction advances (R419). -/
  | timebaseTick
  /-- tHEAL elapses (R313). -/
  | ref10HoldExpire
  /-- LPCLK moves to the crystal (R407). -/
  | lowPowerCrystalStartup
  /-- Another target acknowledges the probed address (R373). -/
  | addressConflict (sdaLow : Bool)
  /-- The USB address (R309). -/
  | setAddress (address : BitVec 7)
  /-- Remote wakeup is enabled or disabled (R308). -/
  | setFeature (enable : Bool)
deriving DecidableEq, Repr

end Sys2Proof
end

