-- ==== Sys2Proof/Config.lean ====
section
/-! DEFINITION. The values the spec leaves open, as constants without a body: nothing can be proved of
them but what holds for every value.  Each is named in the assumption log. -/
namespace Sys2Proof.Config
open Sys2Proof

/-- The sample a 1-block ramp passes: step `n` of `len`, of sample `x` (R97 and R102 name the ramp and
its length and give no shape). DESIGN CHOICE, notes/assumptions/22.md. -/
opaque ramp (n len : Nat) (x : Sample) : Sample

/-- The sample a 1-block ramp between two gains passes: step `n` of `len`, from `a` to `b`, the sample under the old
and the new gain (R98 names the ramp and gives no shape). DESIGN CHOICE, notes/assumptions/22.md. -/
opaque blend (n len : Nat) (a b : Sample) : Sample

/-- Where the DPLL offset goes in the next millisecond of LOCKED, from `cur` towards the offset of the reference, both in
0.01 ppb, with the loop bandwidth code `bw` (R77 names the bandwidth and gives no law of following).
DESIGN CHOICE, notes/assumptions/91.md. -/
opaque dpllFollow (bw : Nat) (cur target : Int) : Int

/-- The delay of a device in 50 ps: of its pass-through, or where it turns a frame round, of its turnaround; its fixed
part is trimmed at the factory (R319). DESIGN CHOICE, notes/assumptions/103.md. -/
opaque passDelay (turn : Bool) : Nat

/-- The sample of channel `ch` that a rate converter produces from the frames it holds, at a position of
`2^-32` frame (R126 to R130 name the converter and give no filter). DESIGN CHOICE, notes/assumptions/23.md. -/
opaque asrcSample (ch frac : Nat) (frames : List Frame) : Sample

/-- The bytes of state that a task of a catalogue kernel keeps in one bank, by KID and the first word of its parameter
block (R169 names the state size; R161 gives none for the catalogue). DESIGN CHOICE, notes/assumptions/94.md. -/
opaque catalogueState (kid head : Nat) : Nat

/-- The next value of a limiter gain (in 2^-30) on its way from `g` to `target`: R274 and R277 name ATTACK
and RELEASE and give no law of motion. DESIGN CHOICE, notes/assumptions/24.md. -/
opaque gainTowards (g target attack release : Nat) : Nat

/-- The pilot sine of R270 as a sample, at PILOTF (0.1 Hz), PILOTLVL (mV rms) and a full scale in mV, at sample index
`i` of SYSRATE: its phase is not stated. DESIGN CHOICE, notes/assumptions/100.md. -/
opaque pilot (freq level full rate i : Nat) : Int

/-- The rate list of alternate setting `k` of a direction and speed that a USBDESC body supplies: R291 says that the
section supplies it, and no record of R413 is said to hold it.  DESIGN CHOICE, notes/assumptions/25.md. -/
opaque usbRates (body : List Byte) (isIn high : Bool) (k : Nat) : List Nat

/-- A value the spec leaves open, fresh for every index. DESIGN CHOICE, notes/assumptions/26.md. -/
opaque freeValue : Nat → BitVec 64

end Sys2Proof.Config
end

