-- ==== Sys2Proof/Machine/Map.lean ====
section
/-! DEFINITION. Reading and writing sparse data (registers, memories, tables) in its one canonical form. -/
namespace Sys2Proof.Machine
open Sys2Proof

namespace Map

variable {α : Type}

/-- The value under a key; `d` where the key is not listed. -/
def get (d : α) : FMap α → Nat → α
  | [], _ => d
  | (k, v) :: m, i => if k = i then v else get d m i

/-- Put a pair in its place in the rising order of keys. -/
def insert (i : Nat) (v : α) : FMap α → FMap α
  | [] => [(i, v)]
  | (k, w) :: m =>
    if i < k then (i, v) :: (k, w) :: m
    else if i = k then (i, v) :: m
    else (k, w) :: insert i v m

/-- Drop every pair of a key. -/
def erase (i : Nat) : FMap α → FMap α
  | [] => []
  | (k, w) :: m => if k = i then erase i m else (k, w) :: erase i m

/-- Write a value: a key that is to read as the default is not listed. -/
def set [DecidableEq α] (d : α) (m : FMap α) (i : Nat) (v : α) : FMap α :=
  if v = d then erase i m else insert i v (erase i m)

/-- Keep the pairs whose key satisfies `p`. -/
def keep (p : Nat → Bool) (m : FMap α) : FMap α := m.filter (fun e => p e.1)

/-- The keys are strictly rising. -/
def sorted : FMap α → Bool
  | [] => true
  | (k, _) :: m => m.all (fun e => decide (k < e.1)) && sorted m

/-- Canonical form: keys strictly rising, and no pair equal to what its key reads as unlisted. -/
def wf [DecidableEq α] (d : Nat → α) (m : FMap α) : Bool :=
  sorted m && m.all (fun e => !decide (e.2 = d e.1))

end Map

end Sys2Proof.Machine
end

