-- ==== Sys2Proof/Machine/Operands.lean ====
section
/-! DEFINITION. Operand forms: the bit fields of a written word, signed and unsigned readings of a field,
little-endian words and bytes (R3), and the arithmetic helpers the chapters share. -/
namespace Sys2Proof.Machine
open Sys2Proof

/-- Bits `[hi:lo]` of a word, as a number. -/
def bits (d hi lo : Nat) : Nat := d / 2 ^ lo % 2 ^ (hi + 1 - lo)

/-- Bit `n` of a word. -/
def bit (d n : Nat) : Bool := d / 2 ^ n % 2 == 1

/-- 1 for true, 0 for false. -/
def b2n (b : Bool) : Nat := if b then 1 else 0

/-- The two's complement reading of a `w`-bit number. -/
def toSigned (w v : Nat) : Int := if 2 * (v % 2 ^ w) < 2 ^ w then (v % 2 ^ w : Nat) else (v % 2 ^ w : Nat) - (2 ^ w : Nat)

/-- The `w`-bit pattern of an integer. -/
def ofSigned (w : Nat) (i : Int) : Nat := (i % (2 ^ w : Nat)).toNat

/-- Confine an integer to a range. -/
def clampInt (lo hi i : Int) : Int := if i < lo then lo else if hi < i then hi else i

/-- Move `a` towards `b` by at most `step`. -/
def approach (a b : Int) (step : Nat) : Int :=
  if a < b then min b (a + step) else max b (a - step)

/-- Round the quotient of two integers to the nearest integer, halves upward (`d` positive). -/
def roundDiv (n : Int) (d : Nat) : Int := (2 * n + d) / (2 * d)

/-- Set bit `n` of a number to `b`. -/
def putBit (v n : Nat) (b : Bool) : Nat :=
  v - b2n (bit v n) * 2 ^ n + b2n b * 2 ^ n

/-- The number whose bit `i` is `p i`, for `i < n`. -/
def maskOf (n : Nat) (p : Nat → Bool) : Nat :=
  (List.range n).foldl (fun a i => a + b2n (p i) * 2 ^ i) 0

/-- The bytes of a 32-bit word, lowest first. -/
def wordBytes (w : Nat) : List Byte :=
  [BitVec.ofNat 8 w, BitVec.ofNat 8 (w / 256), BitVec.ofNat 8 (w / 65536), BitVec.ofNat 8 (w / 16777216)]

/-- A little-endian number from bytes, lowest first. -/
def leNat : List Byte → Nat
  | [] => 0
  | b :: bs => b.toNat + 256 * leNat bs

/-- Cut bytes into 32-bit words, lowest first; a short tail is dropped. -/
def toWords : List Byte → List Nat
  | a :: b :: c :: d :: r => leNat [a, b, c, d] :: toWords r
  | _ => []

/-- The audio sample of an integer, saturated to 32 bits. -/
def satSample (i : Int) : Sample := BitVec.ofInt 32 (clampInt (-2147483648) 2147483647 i)

/-- The bits of a byte, most significant first. -/
def byteBits (b : Byte) : List Bool := (List.range 8).map (fun i => b.getLsbD (7 - i))

/-- CRC-8 of R382: polynomial 0x07, initial value 0, most significant bit first. -/
def crc8Bit (c : Nat) (b : Bool) : Nat :=
  let c2 := c * 2 % 256
  if (bit c 7) != b then Nat.xor c2 7 else c2

/-- The packet error code over a run of bytes (R382). -/
def pec (bs : List Byte) : Nat := bs.foldl (fun c b => (byteBits b).foldl crc8Bit c) 0

/-- One bit of the reflected CRC-32. -/
def crc32Step (c : Nat) : Nat → Nat
  | 0 => c
  | k + 1 => crc32Step (if c % 2 = 1 then Nat.xor (c / 2) 0xEDB88320 else c / 2) k

/-- The CRC-32 of R162 over a run of bytes. -/
def crc32 (bs : List Byte) : Nat :=
  Nat.xor (bs.foldl (fun c b => crc32Step (Nat.xor c b.toNat) 8) 0xFFFFFFFF) 0xFFFFFFFF

end Sys2Proof.Machine
end

