-- ==== Sys2Proof/Machine/Fields.lean ====
section
/-! DEFINITION. The register fields the spec's register tables name (R30 and the register
table rule of each page), one constant per field: its byte address, lowest bit, width and reset
value.  A field that repeats (per page instance, per register of an array) is a function of the
instance `p` and the index `k`.  The value of a field that hardware composes from other state is not
kept here but read through `Machine/View.lean`. -/
namespace Sys2Proof.Machine

/-- One field of one register: storage address (byte address, plus `2^24` times a window number for a
register seen through a SEL register), lowest bit, width, reset value (0 where the spec gives none). -/
structure Fld where
  addr : Nat
  lo : Nat
  w : Nat
  rst : Nat
deriving DecidableEq, Repr

/-- The key a field's value is stored under. -/
def Fld.key (f : Fld) : Nat := f.addr * 32 + f.lo

/-- The same field seen through window `n` (0: the plain register). -/
def Fld.win (f : Fld) (n : Nat) : Fld := ⟨f.addr + 16777216 * n, f.lo, f.w, f.rst⟩

namespace R

/-! Page SYS. -/
def SYS_ID_TYPE : Fld := ⟨0x0, 24, 8, 0⟩
def SYS_ID_INST : Fld := ⟨0x0, 16, 8, 0⟩
def SYS_ID_MAJOR : Fld := ⟨0x0, 8, 8, 1⟩
def SYS_ID_MINOR : Fld := ⟨0x0, 0, 8, 0⟩
def SYS_CTRL_FULLRST : Fld := ⟨0x4, 4, 1, 0⟩
def SYS_CTRL_AUTOWAKE : Fld := ⟨0x4, 3, 1, 0⟩
def SYS_CTRL_SRST : Fld := ⟨0x4, 1, 1, 0⟩
def SYS_CTRL_EN : Fld := ⟨0x4, 0, 1, 1⟩
def SYS_STAT_OTPBAD : Fld := ⟨0x8, 13, 1, 0⟩
def SYS_STAT_ROMDEF : Fld := ⟨0x8, 12, 1, 0⟩
def SYS_STAT_BOOTBANK : Fld := ⟨0x8, 11, 1, 0⟩
def SYS_STAT_BOOTDONE : Fld := ⟨0x8, 10, 1, 0⟩
def SYS_STAT_MOVING : Fld := ⟨0x8, 7, 1, 0⟩
def SYS_STAT_MODE : Fld := ⟨0x8, 0, 3, 3⟩
def SYS_IFLG_BOOT : Fld := ⟨0xC, 2, 1, 0⟩
def SYS_IFLG_AUTOWAKE : Fld := ⟨0xC, 1, 1, 0⟩
def SYS_IFLG_MODECHG : Fld := ⟨0xC, 0, 1, 0⟩
def SYS_IEN_BOOT : Fld := ⟨0x10, 2, 1, 0⟩
def SYS_IEN_AUTOWAKE : Fld := ⟨0x10, 1, 1, 0⟩
def SYS_IEN_MODECHG : Fld := ⟨0x10, 0, 1, 0⟩
def SYS_OWNER_ENG : Fld := ⟨0x14, 3, 1, 1⟩
def SYS_OWNER_RZ : Fld := ⟨0x14, 2, 1, 1⟩
def SYS_OWNER_USB : Fld := ⟨0x14, 1, 1, 1⟩
def SYS_OWNER_CTL : Fld := ⟨0x14, 0, 1, 1⟩
def SYS_ERRCNT_BLKERR : Fld := ⟨0x18, 16, 16, 0⟩
def SYS_ERRCNT_REJ : Fld := ⟨0x18, 0, 16, 0⟩
def SYS_CGRP_GRP : Fld := ⟨0x1C, 0, 4, 0xF⟩
def SYS_SYSCFG_BLKLEN : Fld := ⟨0x20, 4, 3, 2⟩
def SYS_SYSCFG_SYSRATE : Fld := ⟨0x20, 0, 2, 1⟩
def SYS_SAMPIDX_IDX (k : Nat) : Fld := ⟨0x24 + 4 * k, 0, 32, 0⟩
def SYS_RSTCAUSE_PREV3 : Fld := ⟨0x2C, 12, 4, 0⟩
def SYS_RSTCAUSE_PREV2 : Fld := ⟨0x2C, 8, 4, 0⟩
def SYS_RSTCAUSE_PREV1 : Fld := ⟨0x2C, 4, 4, 0⟩
def SYS_RSTCAUSE_LAST : Fld := ⟨0x2C, 0, 4, 1⟩
def SYS_KEEP_DATA (k : Nat) : Fld := ⟨0x30 + 4 * k, 0, 32, 0⟩
def SYS_TBFRAC_FRAC : Fld := ⟨0x40, 0, 16, 0⟩
def SYS_TBDAY_DAY : Fld := ⟨0x44, 0, 32, 0⟩
def SYS_ISUMTOP_WORD : Fld := ⟨0xDC, 0, 8, 0⟩
def SYS_ISUM_PEND (k : Nat) : Fld := ⟨0xE0 + 4 * k, 0, 32, 0⟩

/-! Page PWR. -/
def PWR_ID_TYPE : Fld := ⟨0x100, 24, 8, 0⟩
def PWR_ID_INST : Fld := ⟨0x100, 16, 8, 0⟩
def PWR_ID_MAJOR : Fld := ⟨0x100, 8, 8, 1⟩
def PWR_ID_MINOR : Fld := ⟨0x100, 0, 8, 0⟩
def PWR_CTRL_SRST : Fld := ⟨0x104, 1, 1, 0⟩
def PWR_CTRL_EN : Fld := ⟨0x104, 0, 1, 1⟩
def PWR_STAT_HELD : Fld := ⟨0x108, 8, 1, 0⟩
def PWR_STAT_SAG33 : Fld := ⟨0x108, 5, 1, 0⟩
def PWR_STAT_SAGC : Fld := ⟨0x108, 4, 1, 0⟩
def PWR_STAT_REQ : Fld := ⟨0x108, 0, 3, 3⟩
def PWR_IFLG_DRAINTO : Fld := ⟨0x10C, 2, 1, 0⟩
def PWR_IFLG_SAG : Fld := ⟨0x10C, 1, 1, 0⟩
def PWR_IFLG_WAKEUP : Fld := ⟨0x10C, 0, 1, 0⟩
def PWR_IEN_DRAINTO : Fld := ⟨0x110, 2, 1, 0⟩
def PWR_IEN_SAG : Fld := ⟨0x110, 1, 1, 0⟩
def PWR_IEN_WAKEUP : Fld := ⟨0x110, 0, 1, 0⟩
def PWR_OWNER_ENG : Fld := ⟨0x114, 3, 1, 1⟩
def PWR_OWNER_RZ : Fld := ⟨0x114, 2, 1, 1⟩
def PWR_OWNER_USB : Fld := ⟨0x114, 1, 1, 1⟩
def PWR_OWNER_CTL : Fld := ⟨0x114, 0, 1, 1⟩
def PWR_ERRCNT_BLKERR : Fld := ⟨0x118, 16, 16, 0⟩
def PWR_ERRCNT_REJ : Fld := ⟨0x118, 0, 16, 0⟩
def PWR_CGRP_GRP : Fld := ⟨0x11C, 0, 4, 0xF⟩
def PWR_MODEREQ_MODE : Fld := ⟨0x120, 0, 3, 3⟩
def PWR_DROOPCFG_LVL33 : Fld := ⟨0x124, 8, 2, 1⟩
def PWR_DROOPCFG_LVLC : Fld := ⟨0x124, 0, 2, 1⟩
def PWR_DRAINTO_MS : Fld := ⟨0x128, 0, 10, 0x64⟩
def PWR_WAKESRC_AUTO : Fld := ⟨0x12C, 4, 1, 0⟩
def PWR_WAKESRC_JACK : Fld := ⟨0x12C, 3, 1, 0⟩
def PWR_WAKESRC_WAKESEQ : Fld := ⟨0x12C, 2, 1, 0⟩
def PWR_WAKESRC_USB : Fld := ⟨0x12C, 1, 1, 0⟩
def PWR_WAKESRC_MODEREQ : Fld := ⟨0x12C, 0, 1, 0⟩

/-! Page CLKM. -/
def CLKM_ID_TYPE : Fld := ⟨0x400, 24, 8, 0⟩
def CLKM_ID_INST : Fld := ⟨0x400, 16, 8, 0⟩
def CLKM_ID_MAJOR : Fld := ⟨0x400, 8, 8, 1⟩
def CLKM_ID_MINOR : Fld := ⟨0x400, 0, 8, 0⟩
def CLKM_CTRL_TEST : Fld := ⟨0x404, 2, 1, 0⟩
def CLKM_CTRL_SRST : Fld := ⟨0x404, 1, 1, 0⟩
def CLKM_CTRL_EN : Fld := ⟨0x404, 0, 1, 0⟩
def CLKM_STAT_RANKDIS : Fld := ⟨0x408, 14, 1, 0⟩
def CLKM_STAT_TSTALE : Fld := ⟨0x408, 13, 1, 0⟩
def CLKM_STAT_HOLDVALID : Fld := ⟨0x408, 12, 1, 0⟩
def CLKM_STAT_TARGET : Fld := ⟨0x408, 8, 4, 0xF⟩
def CLKM_STAT_SELREF : Fld := ⟨0x408, 4, 4, 0xF⟩
def CLKM_STAT_STATE : Fld := ⟨0x408, 0, 3, 1⟩
def CLKM_IFLG_REFQUAL : Fld := ⟨0x40C, 5, 1, 0⟩
def CLKM_IFLG_TSTALE : Fld := ⟨0x40C, 4, 1, 0⟩
def CLKM_IFLG_HOLD : Fld := ⟨0x40C, 3, 1, 0⟩
def CLKM_IFLG_RANKDIS : Fld := ⟨0x40C, 2, 1, 0⟩
def CLKM_IFLG_REFFAIL : Fld := ⟨0x40C, 1, 1, 0⟩
def CLKM_IFLG_STATECHG : Fld := ⟨0x40C, 0, 1, 0⟩
def CLKM_IEN_REFQUAL : Fld := ⟨0x410, 5, 1, 0⟩
def CLKM_IEN_TSTALE : Fld := ⟨0x410, 4, 1, 0⟩
def CLKM_IEN_HOLD : Fld := ⟨0x410, 3, 1, 0⟩
def CLKM_IEN_RANKDIS : Fld := ⟨0x410, 2, 1, 0⟩
def CLKM_IEN_REFFAIL : Fld := ⟨0x410, 1, 1, 0⟩
def CLKM_IEN_STATECHG : Fld := ⟨0x410, 0, 1, 0⟩
def CLKM_OWNER_ENG : Fld := ⟨0x414, 3, 1, 1⟩
def CLKM_OWNER_RZ : Fld := ⟨0x414, 2, 1, 1⟩
def CLKM_OWNER_USB : Fld := ⟨0x414, 1, 1, 1⟩
def CLKM_OWNER_CTL : Fld := ⟨0x414, 0, 1, 1⟩
def CLKM_ERRCNT_BLKERR : Fld := ⟨0x418, 16, 16, 0⟩
def CLKM_ERRCNT_REJ : Fld := ⟨0x418, 0, 16, 0⟩
def CLKM_CGRP_GRP : Fld := ⟨0x41C, 0, 4, 0xF⟩
def CLKM_SELCFG_DISAGREE : Fld := ⟨0x420, 16, 16, 0x14⟩
def CLKM_SELCFG_MANREF : Fld := ⟨0x420, 8, 4, 0⟩
def CLKM_SELCFG_MODE : Fld := ⟨0x420, 0, 3, 0⟩
def CLKM_DPLLCFG_SLEW : Fld := ⟨0x424, 16, 10, 0x14⟩
def CLKM_DPLLCFG_BW : Fld := ⟨0x424, 8, 2, 1⟩
def CLKM_DPLLCFG_HOLDAVG : Fld := ⟨0x424, 0, 7, 0x10⟩
def CLKM_REFNOM_NOM (k : Nat) : Fld := ⟨0x428 + 4 * k, 0, 32, 0x17700000⟩
def CLKM_DPLLOFF_OFF : Fld := ⟨0x430, 0, 32, 0⟩
def CLKM_HOLDOFF_OFF : Fld := ⟨0x434, 0, 32, 0⟩
def CLKM_TC_C (k : Nat) : Fld := ⟨0x438 + 4 * k, 0, 32, 0⟩
def CLKM_TREF_T0 : Fld := ⟨0x444, 16, 16, 0x9C4⟩
def CLKM_TREF_TSRC : Fld := ⟨0x444, 0, 2, 0⟩
def CLKM_NTCLIN_NTCA : Fld := ⟨0x448, 16, 16, 0⟩
def CLKM_NTCLIN_NTCB : Fld := ⟨0x448, 0, 16, 0⟩
def CLKM_AGE_AGE : Fld := ⟨0x44C, 0, 32, 0⟩
def CLKM_AGEEPOCH_DAY : Fld := ⟨0x450, 0, 32, 0⟩
def CLKM_TEMP_THOLD : Fld := ⟨0x454, 16, 16, 0⟩
def CLKM_TEMP_TNOW : Fld := ⟨0x454, 0, 16, 0⟩
def CLKM_REFSTAT_ST : Fld := ⟨0x458, 0, 24, 3⟩
def CLKM_TESTWORD_OFF : Fld := ⟨0x45C, 0, 32, 0⟩
def CLKM_EVCNT_HOLDENT : Fld := ⟨0x460, 16, 16, 0⟩
def CLKM_EVCNT_SWITCHES : Fld := ⟨0x460, 0, 16, 0⟩
/-- The three registers of REF0, read only (R86). -/
def CLKM_REF0_CFG : Fld := ⟨0x470, 0, 32, 0x80000000⟩
def CLKM_REF0_LIM : Fld := ⟨0x474, 0, 32, 0⟩
def CLKM_REF0_MON : Fld := ⟨0x478, 0, 32, 0⟩
def CLKM_REFCFG_EN (k : Nat) : Fld := ⟨0x470 + 12 * k, 31, 1, 0⟩
def CLKM_REFCFG_RANK (k : Nat) : Fld := ⟨0x470 + 12 * k, 24, 3, 7⟩
def CLKM_REFCFG_ACTWIN (k : Nat) : Fld := ⟨0x470 + 12 * k, 16, 8, 8⟩
def CLKM_REFCFG_FGATE (k : Nat) : Fld := ⟨0x470 + 12 * k, 0, 10, 0x64⟩
def CLKM_REFLIM_REJECT (k : Nat) : Fld := ⟨0x474 + 12 * k, 16, 16, 0x3E8⟩
def CLKM_REFLIM_ACCEPT (k : Nat) : Fld := ⟨0x474 + 12 * k, 0, 16, 0x1F4⟩
def CLKM_REFMON_OFFSET (k : Nat) : Fld := ⟨0x478 + 12 * k, 16, 16, 0x8000⟩
def CLKM_REFMON_WTR (k : Nat) : Fld := ⟨0x478 + 12 * k, 0, 16, 0x32⟩

/-! Page PLL. -/
def PLL_ID_TYPE : Fld := ⟨0x500, 24, 8, 0⟩
def PLL_ID_INST : Fld := ⟨0x500, 16, 8, 0⟩
def PLL_ID_MAJOR : Fld := ⟨0x500, 8, 8, 1⟩
def PLL_ID_MINOR : Fld := ⟨0x500, 0, 8, 0⟩
def PLL_CTRL_SRST : Fld := ⟨0x504, 1, 1, 0⟩
def PLL_CTRL_EN : Fld := ⟨0x504, 0, 1, 0⟩
def PLL_STAT_ACTIVE : Fld := ⟨0x508, 2, 1, 0⟩
def PLL_STAT_LOCKB : Fld := ⟨0x508, 1, 1, 0⟩
def PLL_STAT_LOCKA : Fld := ⟨0x508, 0, 1, 0⟩
def PLL_IFLG_UNLOCKB : Fld := ⟨0x50C, 1, 1, 0⟩
def PLL_IFLG_UNLOCKA : Fld := ⟨0x50C, 0, 1, 0⟩
def PLL_IEN_UNLOCKB : Fld := ⟨0x510, 1, 1, 0⟩
def PLL_IEN_UNLOCKA : Fld := ⟨0x510, 0, 1, 0⟩
def PLL_OWNER_ENG : Fld := ⟨0x514, 3, 1, 1⟩
def PLL_OWNER_RZ : Fld := ⟨0x514, 2, 1, 1⟩
def PLL_OWNER_USB : Fld := ⟨0x514, 1, 1, 1⟩
def PLL_OWNER_CTL : Fld := ⟨0x514, 0, 1, 1⟩
def PLL_ERRCNT_BLKERR : Fld := ⟨0x518, 16, 16, 0⟩
def PLL_ERRCNT_REJ : Fld := ⟨0x518, 0, 16, 0⟩
def PLL_CGRP_GRP : Fld := ⟨0x51C, 0, 4, 0xF⟩
def PLL_UNLCNT_B : Fld := ⟨0x520, 16, 16, 0⟩
def PLL_UNLCNT_A : Fld := ⟨0x520, 0, 16, 0⟩

/-! Page SAP. -/
def SAP_ID_TYPE (p : Nat) : Fld := ⟨0x800 + 256 * p, 24, 8, 0⟩
def SAP_ID_INST (p : Nat) : Fld := ⟨0x800 + 256 * p, 16, 8, 0⟩
def SAP_ID_MAJOR (p : Nat) : Fld := ⟨0x800 + 256 * p, 8, 8, 1⟩
def SAP_ID_MINOR (p : Nat) : Fld := ⟨0x800 + 256 * p, 0, 8, 0⟩
def SAP_CTRL_TRI (p : Nat) : Fld := ⟨0x804 + 256 * p, 3, 1, 0⟩
def SAP_CTRL_MASTER (p : Nat) : Fld := ⟨0x804 + 256 * p, 2, 1, 0⟩
def SAP_CTRL_SRST (p : Nat) : Fld := ⟨0x804 + 256 * p, 1, 1, 0⟩
def SAP_CTRL_EN (p : Nat) : Fld := ⟨0x804 + 256 * p, 0, 1, 0⟩
def SAP_STAT_CLKRUN (p : Nat) : Fld := ⟨0x808 + 256 * p, 3, 1, 0⟩
def SAP_STAT_LEADTRAIL (p : Nat) : Fld := ⟨0x808 + 256 * p, 2, 1, 0⟩
def SAP_STAT_FRAMELOCK (p : Nat) : Fld := ⟨0x808 + 256 * p, 1, 1, 0⟩
def SAP_STAT_BCLKACT (p : Nat) : Fld := ⟨0x808 + 256 * p, 0, 1, 0⟩
def SAP_IFLG_ZCTO (p : Nat) : Fld := ⟨0x80C + 256 * p, 4, 1, 0⟩
def SAP_IFLG_RESUME (p : Nat) : Fld := ⟨0x80C + 256 * p, 3, 1, 0⟩
def SAP_IFLG_RATECHG (p : Nat) : Fld := ⟨0x80C + 256 * p, 2, 1, 0⟩
def SAP_IFLG_FRAMEERR (p : Nat) : Fld := ⟨0x80C + 256 * p, 1, 1, 0⟩
def SAP_IFLG_STALL (p : Nat) : Fld := ⟨0x80C + 256 * p, 0, 1, 0⟩
def SAP_IEN_ZCTO (p : Nat) : Fld := ⟨0x810 + 256 * p, 4, 1, 0⟩
def SAP_IEN_RESUME (p : Nat) : Fld := ⟨0x810 + 256 * p, 3, 1, 0⟩
def SAP_IEN_RATECHG (p : Nat) : Fld := ⟨0x810 + 256 * p, 2, 1, 0⟩
def SAP_IEN_FRAMEERR (p : Nat) : Fld := ⟨0x810 + 256 * p, 1, 1, 0⟩
def SAP_IEN_STALL (p : Nat) : Fld := ⟨0x810 + 256 * p, 0, 1, 0⟩
def SAP_OWNER_ENG (p : Nat) : Fld := ⟨0x814 + 256 * p, 3, 1, 1⟩
def SAP_OWNER_RZ (p : Nat) : Fld := ⟨0x814 + 256 * p, 2, 1, 1⟩
def SAP_OWNER_USB (p : Nat) : Fld := ⟨0x814 + 256 * p, 1, 1, 1⟩
def SAP_OWNER_CTL (p : Nat) : Fld := ⟨0x814 + 256 * p, 0, 1, 1⟩
def SAP_ERRCNT_BLKERR (p : Nat) : Fld := ⟨0x818 + 256 * p, 16, 16, 0⟩
def SAP_ERRCNT_REJ (p : Nat) : Fld := ⟨0x818 + 256 * p, 0, 16, 0⟩
def SAP_CGRP_GRP (p : Nat) : Fld := ⟨0x81C + 256 * p, 0, 4, 0xF⟩
def SAP_FMT_MODE (p : Nat) : Fld := ⟨0x820 + 256 * p, 30, 2, 1⟩
def SAP_FMT_FSW (p : Nat) : Fld := ⟨0x820 + 256 * p, 29, 1, 0⟩
def SAP_FMT_FSPOL (p : Nat) : Fld := ⟨0x820 + 256 * p, 28, 1, 0⟩
def SAP_FMT_BCLKPOL (p : Nat) : Fld := ⟨0x820 + 256 * p, 27, 1, 0⟩
def SAP_FMT_DWIDTH (p : Nat) : Fld := ⟨0x820 + 256 * p, 25, 2, 2⟩
def SAP_FMT_SWIDTH (p : Nat) : Fld := ⟨0x820 + 256 * p, 23, 2, 3⟩
def SAP_FMT_SLOTS (p : Nat) : Fld := ⟨0x820 + 256 * p, 18, 5, 1⟩
def SAP_FMT_OFFSET (p : Nat) : Fld := ⟨0x820 + 256 * p, 0, 9, 0⟩
def SAP_CLKDIV_SRC (p : Nat) : Fld := ⟨0x824 + 256 * p, 31, 1, 0⟩
def SAP_CLKDIV_N (p : Nat) : Fld := ⟨0x824 + 256 * p, 0, 10, 0x40⟩
def SAP_DIVF_F (p : Nat) : Fld := ⟨0x828 + 256 * p, 0, 24, 0⟩
def SAP_FRATE_RATE (p : Nat) : Fld := ⟨0x82C + 256 * p, 0, 32, 0xBB800⟩
def SAP_SEQ_LEAD (p : Nat) : Fld := ⟨0x830 + 256 * p, 24, 8, 0x40⟩
def SAP_SEQ_TRAIL (p : Nat) : Fld := ⟨0x830 + 256 * p, 16, 8, 0x40⟩
def SAP_SEQ_ZCTO (p : Nat) : Fld := ⟨0x830 + 256 * p, 8, 8, 0x32⟩
def SAP_SEQ_FASTRAMP (p : Nat) : Fld := ⟨0x830 + 256 * p, 0, 8, 0x14⟩
def SAP_PGAIN_OMUTE (p : Nat) : Fld := ⟨0x834 + 256 * p, 31, 1, 0⟩
def SAP_PGAIN_OGAIN (p : Nat) : Fld := ⟨0x834 + 256 * p, 16, 12, 0xD00⟩
def SAP_PGAIN_IMUTE (p : Nat) : Fld := ⟨0x834 + 256 * p, 15, 1, 0⟩
def SAP_PGAIN_IGAIN (p : Nat) : Fld := ⟨0x834 + 256 * p, 0, 12, 0xD00⟩
def SAP_MEASRATE_RATE (p : Nat) : Fld := ⟨0x838 + 256 * p, 0, 32, 0⟩
def SAP_STALLCNT_COUNT (p : Nat) : Fld := ⟨0x83C + 256 * p, 0, 16, 0⟩
def SAP_MCLKCFG_EN (p : Nat) : Fld := ⟨0x840 + 256 * p, 31, 1, 0⟩
def SAP_MCLKCFG_SRC (p : Nat) : Fld := ⟨0x840 + 256 * p, 30, 1, 0⟩
def SAP_MCLKCFG_N (p : Nat) : Fld := ⟨0x840 + 256 * p, 0, 8, 8⟩

/-! Page STRM. -/
def STRM_ID_TYPE : Fld := ⟨0x1000, 24, 8, 0⟩
def STRM_ID_INST : Fld := ⟨0x1000, 16, 8, 0⟩
def STRM_ID_MAJOR : Fld := ⟨0x1000, 8, 8, 1⟩
def STRM_ID_MINOR : Fld := ⟨0x1000, 0, 8, 0⟩
def STRM_CTRL_SRST : Fld := ⟨0x1004, 1, 1, 0⟩
def STRM_CTRL_EN : Fld := ⟨0x1004, 0, 1, 0⟩
def STRM_STAT_NSTALL : Fld := ⟨0x1008, 16, 9, 0⟩
def STRM_STAT_NRUN : Fld := ⟨0x1008, 0, 9, 0⟩
def STRM_IFLG_DRAINED : Fld := ⟨0x100C, 3, 1, 0⟩
def STRM_IFLG_RATECHG : Fld := ⟨0x100C, 2, 1, 0⟩
def STRM_IFLG_RESUME : Fld := ⟨0x100C, 1, 1, 0⟩
def STRM_IFLG_STALL : Fld := ⟨0x100C, 0, 1, 0⟩
def STRM_IEN_DRAINED : Fld := ⟨0x1010, 3, 1, 0⟩
def STRM_IEN_RATECHG : Fld := ⟨0x1010, 2, 1, 0⟩
def STRM_IEN_RESUME : Fld := ⟨0x1010, 1, 1, 0⟩
def STRM_IEN_STALL : Fld := ⟨0x1010, 0, 1, 0⟩
def STRM_OWNER_ENG : Fld := ⟨0x1014, 3, 1, 1⟩
def STRM_OWNER_RZ : Fld := ⟨0x1014, 2, 1, 1⟩
def STRM_OWNER_USB : Fld := ⟨0x1014, 1, 1, 1⟩
def STRM_OWNER_CTL : Fld := ⟨0x1014, 0, 1, 1⟩
def STRM_ERRCNT_BLKERR : Fld := ⟨0x1018, 16, 16, 0⟩
def STRM_ERRCNT_REJ : Fld := ⟨0x1018, 0, 16, 0⟩
def STRM_CGRP_GRP : Fld := ⟨0x101C, 0, 4, 0xF⟩
def STRM_CMD_ACTION : Fld := ⟨0x1020, 8, 3, 0⟩
def STRM_CMD_CTX : Fld := ⟨0x1020, 0, 8, 0⟩
def STRM_STALLMAP_MAP (k : Nat) : Fld := ⟨0x1040 + 4 * k, 0, 32, 0⟩
def STRM_ACTMAP_MAP (k : Nat) : Fld := ⟨0x1060 + 4 * k, 0, 32, 0⟩

/-! Page ASRC. -/
def ASRC_ID_TYPE : Fld := ⟨0x1100, 24, 8, 0⟩
def ASRC_ID_INST : Fld := ⟨0x1100, 16, 8, 0⟩
def ASRC_ID_MAJOR : Fld := ⟨0x1100, 8, 8, 1⟩
def ASRC_ID_MINOR : Fld := ⟨0x1100, 0, 8, 0⟩
def ASRC_CTRL_SRST : Fld := ⟨0x1104, 1, 1, 0⟩
def ASRC_CTRL_EN : Fld := ⟨0x1104, 0, 1, 0⟩
def ASRC_STAT_USED : Fld := ⟨0x1108, 0, 7, 0⟩
def ASRC_IFLG_RANGE : Fld := ⟨0x110C, 2, 1, 0⟩
def ASRC_IFLG_HOLD : Fld := ⟨0x110C, 1, 1, 0⟩
def ASRC_IFLG_LOCK : Fld := ⟨0x110C, 0, 1, 0⟩
def ASRC_IEN_RANGE : Fld := ⟨0x1110, 2, 1, 0⟩
def ASRC_IEN_HOLD : Fld := ⟨0x1110, 1, 1, 0⟩
def ASRC_IEN_LOCK : Fld := ⟨0x1110, 0, 1, 0⟩
def ASRC_OWNER_ENG : Fld := ⟨0x1114, 3, 1, 1⟩
def ASRC_OWNER_RZ : Fld := ⟨0x1114, 2, 1, 1⟩
def ASRC_OWNER_USB : Fld := ⟨0x1114, 1, 1, 1⟩
def ASRC_OWNER_CTL : Fld := ⟨0x1114, 0, 1, 1⟩
def ASRC_ERRCNT_BLKERR : Fld := ⟨0x1118, 16, 16, 0⟩
def ASRC_ERRCNT_REJ : Fld := ⟨0x1118, 0, 16, 0⟩
def ASRC_CGRP_GRP : Fld := ⟨0x111C, 0, 4, 0xF⟩
def ASRC_SEL_CTX : Fld := ⟨0x1120, 0, 8, 0⟩
def ASRC_WSTAT_HOLD : Fld := ⟨0x1124, 2, 1, 0⟩
def ASRC_WSTAT_LOCKED : Fld := ⟨0x1124, 1, 1, 0⟩
def ASRC_WSTAT_BOUND : Fld := ⟨0x1124, 0, 1, 0⟩
def ASRC_RATIO_RATIO : Fld := ⟨0x1128, 0, 32, 0⟩
def ASRC_FRAC_FRAC : Fld := ⟨0x112C, 0, 32, 0⟩
def ASRC_POSIDX_IDX : Fld := ⟨0x1130, 0, 32, 0⟩
def ASRC_STEERCFG_KP : Fld := ⟨0x1134, 16, 16, 0x7D0⟩
def ASRC_STEERCFG_KI : Fld := ⟨0x1134, 0, 16, 0x64⟩
def ASRC_STEERLIM_LIM : Fld := ⟨0x1138, 0, 12, 0x3E8⟩
def ASRC_STEERSTAT_ACTIVE : Fld := ⟨0x113C, 31, 1, 0⟩
def ASRC_STEERSTAT_FROZEN : Fld := ⟨0x113C, 30, 1, 0⟩
def ASRC_STEERSTAT_CTX : Fld := ⟨0x113C, 0, 8, 0⟩
def ASRC_STEEROUT_U : Fld := ⟨0x1140, 0, 32, 0⟩
def ASRC_STEERERR_E : Fld := ⟨0x1144, 0, 32, 0⟩

/-! Page GRP. -/
def GRP_ID_TYPE : Fld := ⟨0x1200, 24, 8, 0⟩
def GRP_ID_INST : Fld := ⟨0x1200, 16, 8, 0⟩
def GRP_ID_MAJOR : Fld := ⟨0x1200, 8, 8, 1⟩
def GRP_ID_MINOR : Fld := ⟨0x1200, 0, 8, 0⟩
def GRP_CTRL_SRST : Fld := ⟨0x1204, 1, 1, 0⟩
def GRP_CTRL_EN : Fld := ⟨0x1204, 0, 1, 0⟩
def GRP_STAT_NRUN : Fld := ⟨0x1208, 0, 7, 0⟩
def GRP_IFLG_RESUME : Fld := ⟨0x120C, 3, 1, 0⟩
def GRP_IFLG_SLIP : Fld := ⟨0x120C, 2, 1, 0⟩
def GRP_IFLG_MEMBERPAD : Fld := ⟨0x120C, 1, 1, 0⟩
def GRP_IFLG_START : Fld := ⟨0x120C, 0, 1, 0⟩
def GRP_IEN_RESUME : Fld := ⟨0x1210, 3, 1, 0⟩
def GRP_IEN_SLIP : Fld := ⟨0x1210, 2, 1, 0⟩
def GRP_IEN_MEMBERPAD : Fld := ⟨0x1210, 1, 1, 0⟩
def GRP_IEN_START : Fld := ⟨0x1210, 0, 1, 0⟩
def GRP_OWNER_ENG : Fld := ⟨0x1214, 3, 1, 1⟩
def GRP_OWNER_RZ : Fld := ⟨0x1214, 2, 1, 1⟩
def GRP_OWNER_USB : Fld := ⟨0x1214, 1, 1, 1⟩
def GRP_OWNER_CTL : Fld := ⟨0x1214, 0, 1, 1⟩
def GRP_ERRCNT_BLKERR : Fld := ⟨0x1218, 16, 16, 0⟩
def GRP_ERRCNT_REJ : Fld := ⟨0x1218, 0, 16, 0⟩
def GRP_CGRP_GRP : Fld := ⟨0x121C, 0, 4, 0xF⟩
def GRP_MODE_SLIP (k : Nat) : Fld := ⟨0x1220 + 4 * k, 0, 32, 0⟩
def GRP_RUN_MAP (k : Nat) : Fld := ⟨0x1228 + 4 * k, 0, 32, 0⟩
def GRP_SLIPPING_MAP (k : Nat) : Fld := ⟨0x1230 + 4 * k, 0, 32, 0⟩
def GRP_SEL_GRP : Fld := ⟨0x1238, 0, 6, 0⟩
def GRP_GSTAT_MEMBERS : Fld := ⟨0x123C, 16, 9, 0⟩
def GRP_GSTAT_SLIPPING : Fld := ⟨0x123C, 1, 1, 0⟩
def GRP_GSTAT_RUNNING : Fld := ⟨0x123C, 0, 1, 0⟩
def GRP_STARTAT_IDX (k : Nat) : Fld := ⟨0x1240 + 4 * k, 0, 32, 0⟩
def GRP_STARTIDX_IDX (k : Nat) : Fld := ⟨0x1248 + 4 * k, 0, 32, 0⟩
def GRP_SLIP_SAMPLES : Fld := ⟨0x1250, 0, 32, 0⟩
def GRP_PADEV_COUNT : Fld := ⟨0x1254, 0, 16, 0⟩

/-! Page MTX. -/
def MTX_ID_TYPE : Fld := ⟨0x1400, 24, 8, 0⟩
def MTX_ID_INST : Fld := ⟨0x1400, 16, 8, 0⟩
def MTX_ID_MAJOR : Fld := ⟨0x1400, 8, 8, 1⟩
def MTX_ID_MINOR : Fld := ⟨0x1400, 0, 8, 0⟩
def MTX_CTRL_SRST : Fld := ⟨0x1404, 1, 1, 0⟩
def MTX_CTRL_EN : Fld := ⟨0x1404, 0, 1, 0⟩
def MTX_STAT_HALF : Fld := ⟨0x1408, 4, 1, 0⟩
def MTX_STAT_REDUCED : Fld := ⟨0x1408, 3, 1, 0⟩
def MTX_STAT_ZCPEND : Fld := ⟨0x1408, 2, 1, 0⟩
def MTX_STAT_RAMP : Fld := ⟨0x1408, 1, 1, 0⟩
def MTX_STAT_REFILL : Fld := ⟨0x1408, 0, 1, 0⟩
def MTX_IFLG_SWAP : Fld := ⟨0x140C, 3, 1, 0⟩
def MTX_IFLG_ZCTO : Fld := ⟨0x140C, 2, 1, 0⟩
def MTX_IFLG_SAT : Fld := ⟨0x140C, 1, 1, 0⟩
def MTX_IFLG_METER : Fld := ⟨0x140C, 0, 1, 0⟩
def MTX_IEN_SWAP : Fld := ⟨0x1410, 3, 1, 0⟩
def MTX_IEN_ZCTO : Fld := ⟨0x1410, 2, 1, 0⟩
def MTX_IEN_SAT : Fld := ⟨0x1410, 1, 1, 0⟩
def MTX_IEN_METER : Fld := ⟨0x1410, 0, 1, 0⟩
def MTX_OWNER_ENG : Fld := ⟨0x1414, 3, 1, 1⟩
def MTX_OWNER_RZ : Fld := ⟨0x1414, 2, 1, 1⟩
def MTX_OWNER_USB : Fld := ⟨0x1414, 1, 1, 1⟩
def MTX_OWNER_CTL : Fld := ⟨0x1414, 0, 1, 1⟩
def MTX_ERRCNT_BLKERR : Fld := ⟨0x1418, 16, 16, 0⟩
def MTX_ERRCNT_REJ : Fld := ⟨0x1418, 0, 16, 0⟩
def MTX_CGRP_GRP : Fld := ⟨0x141C, 0, 4, 0xF⟩
def MTX_CFG_METWIN : Fld := ⟨0x1420, 16, 11, 0x60⟩
def MTX_CFG_ZCTO : Fld := ⟨0x1420, 0, 8, 0x32⟩
def MTX_SAT_SAT (k : Nat) : Fld := ⟨0x1424 + 4 * k, 0, 32, 0⟩
def MTX_MAPSEL_SIDE : Fld := ⟨0x1434, 8, 1, 0⟩
def MTX_MAPSEL_INDEX : Fld := ⟨0x1434, 0, 7, 0⟩
def MTX_MAP_EN : Fld := ⟨0x1438, 31, 1, 0⟩
def MTX_MAP_CTX : Fld := ⟨0x1438, 8, 8, 0⟩
def MTX_MAP_CH : Fld := ⟨0x1438, 0, 5, 0⟩
def MTX_METSEL_MO : Fld := ⟨0x143C, 0, 7, 0⟩
def MTX_PEAK_PEAK : Fld := ⟨0x1440, 0, 32, 0⟩
def MTX_RMS_RMS : Fld := ⟨0x1444, 0, 32, 0⟩
def MTX_METIDX_IDX : Fld := ⟨0x1448, 0, 32, 0⟩
def MTX_TAP_EN (k : Nat) : Fld := ⟨0x1450 + 4 * k, 31, 1, 0⟩
def MTX_TAP_MO (k : Nat) : Fld := ⟨0x1450 + 4 * k, 24, 7, 0⟩
def MTX_TAP_CTX (k : Nat) : Fld := ⟨0x1450 + 4 * k, 8, 8, 0⟩
def MTX_TAP_CH (k : Nat) : Fld := ⟨0x1450 + 4 * k, 0, 5, 0⟩

/-! Page ENG. -/
def ENG_ID_TYPE : Fld := ⟨0x1800, 24, 8, 0⟩
def ENG_ID_INST : Fld := ⟨0x1800, 16, 8, 0⟩
def ENG_ID_MAJOR : Fld := ⟨0x1800, 8, 8, 1⟩
def ENG_ID_MINOR : Fld := ⟨0x1800, 0, 8, 0⟩
def ENG_CTRL_SRST : Fld := ⟨0x1804, 1, 1, 0⟩
def ENG_CTRL_EN : Fld := ⟨0x1804, 0, 1, 0⟩
def ENG_STAT_ROLL : Fld := ⟨0x1808, 24, 3, 0⟩
def ENG_STAT_NACTIVE : Fld := ⟨0x1808, 16, 5, 0⟩
def ENG_STAT_CLKSTEP : Fld := ⟨0x1808, 8, 2, 0⟩
def ENG_STAT_ROLLENG : Fld := ⟨0x1808, 0, 4, 0⟩
def ENG_IFLG_ROLLDONE : Fld := ⟨0x180C, 3, 1, 0⟩
def ENG_IFLG_ROLLFAIL : Fld := ⟨0x180C, 2, 1, 0⟩
def ENG_IFLG_TDED : Fld := ⟨0x180C, 1, 1, 0⟩
def ENG_IFLG_QUAR : Fld := ⟨0x180C, 0, 1, 0⟩
def ENG_IEN_ROLLDONE : Fld := ⟨0x1810, 3, 1, 0⟩
def ENG_IEN_ROLLFAIL : Fld := ⟨0x1810, 2, 1, 0⟩
def ENG_IEN_TDED : Fld := ⟨0x1810, 1, 1, 0⟩
def ENG_IEN_QUAR : Fld := ⟨0x1810, 0, 1, 0⟩
def ENG_OWNER_ENG : Fld := ⟨0x1814, 3, 1, 1⟩
def ENG_OWNER_RZ : Fld := ⟨0x1814, 2, 1, 1⟩
def ENG_OWNER_USB : Fld := ⟨0x1814, 1, 1, 1⟩
def ENG_OWNER_CTL : Fld := ⟨0x1814, 0, 1, 1⟩
def ENG_ERRCNT_BLKERR : Fld := ⟨0x1818, 16, 16, 0⟩
def ENG_ERRCNT_REJ : Fld := ⟨0x1818, 0, 16, 0⟩
def ENG_CGRP_GRP : Fld := ⟨0x181C, 0, 4, 0xF⟩
def ENG_KSETBASE_OFF : Fld := ⟨0x1820, 0, 22, 0⟩
def ENG_CMD_ACTION : Fld := ⟨0x1824, 8, 3, 0⟩
def ENG_CMD_CARRY : Fld := ⟨0x1824, 0, 1, 0⟩
def ENG_KSETVER_VER : Fld := ⟨0x1828, 0, 32, 0⟩
def ENG_TDED_COUNT : Fld := ⟨0x182C, 0, 16, 0⟩
def ENG_TDEDADDR_ADDR : Fld := ⟨0x1830, 0, 24, 0⟩
def ENG_DROOPCNT_VDD33 : Fld := ⟨0x1834, 16, 16, 0⟩
def ENG_DROOPCNT_VDDC : Fld := ⟨0x1834, 0, 16, 0⟩
def ENG_QMAP_MAP : Fld := ⟨0x1838, 0, 16, 0⟩
def ENG_SCRUBPASS_COUNT : Fld := ⟨0x183C, 0, 32, 0⟩

/-! Page SCHED. -/
def SCHED_ID_TYPE : Fld := ⟨0x1900, 24, 8, 0⟩
def SCHED_ID_INST : Fld := ⟨0x1900, 16, 8, 0⟩
def SCHED_ID_MAJOR : Fld := ⟨0x1900, 8, 8, 1⟩
def SCHED_ID_MINOR : Fld := ⟨0x1900, 0, 8, 0⟩
def SCHED_CTRL_SRST : Fld := ⟨0x1904, 1, 1, 0⟩
def SCHED_CTRL_EN : Fld := ⟨0x1904, 0, 1, 0⟩
def SCHED_STAT_CANDSLOT : Fld := ⟨0x1908, 4, 2, 0⟩
def SCHED_STAT_RUNMAP : Fld := ⟨0x1908, 0, 4, 0⟩
def SCHED_IFLG_DROOP : Fld := ⟨0x190C, 7, 1, 0⟩
def SCHED_IFLG_OVERLOAD : Fld := ⟨0x190C, 6, 1, 0⟩
def SCHED_IFLG_SHED : Fld := ⟨0x190C, 5, 1, 0⟩
def SCHED_IFLG_GRAPHFAULT : Fld := ⟨0x190C, 4, 1, 0⟩
def SCHED_IFLG_MISS : Fld := ⟨0x190C, 3, 1, 0⟩
def SCHED_IFLG_SWITCH : Fld := ⟨0x190C, 2, 1, 0⟩
def SCHED_IFLG_ADMREJ : Fld := ⟨0x190C, 1, 1, 0⟩
def SCHED_IFLG_ADMOK : Fld := ⟨0x190C, 0, 1, 0⟩
def SCHED_IEN_DROOP : Fld := ⟨0x1910, 7, 1, 0⟩
def SCHED_IEN_OVERLOAD : Fld := ⟨0x1910, 6, 1, 0⟩
def SCHED_IEN_SHED : Fld := ⟨0x1910, 5, 1, 0⟩
def SCHED_IEN_GRAPHFAULT : Fld := ⟨0x1910, 4, 1, 0⟩
def SCHED_IEN_MISS : Fld := ⟨0x1910, 3, 1, 0⟩
def SCHED_IEN_SWITCH : Fld := ⟨0x1910, 2, 1, 0⟩
def SCHED_IEN_ADMREJ : Fld := ⟨0x1910, 1, 1, 0⟩
def SCHED_IEN_ADMOK : Fld := ⟨0x1910, 0, 1, 0⟩
def SCHED_OWNER_ENG : Fld := ⟨0x1914, 3, 1, 1⟩
def SCHED_OWNER_RZ : Fld := ⟨0x1914, 2, 1, 1⟩
def SCHED_OWNER_USB : Fld := ⟨0x1914, 1, 1, 1⟩
def SCHED_OWNER_CTL : Fld := ⟨0x1914, 0, 1, 1⟩
def SCHED_ERRCNT_BLKERR : Fld := ⟨0x1918, 16, 16, 0⟩
def SCHED_ERRCNT_REJ : Fld := ⟨0x1918, 0, 16, 0⟩
def SCHED_CGRP_GRP : Fld := ⟨0x191C, 0, 4, 0xF⟩
def SCHED_ADMCFG_DROOPFLOOR : Fld := ⟨0x1920, 16, 5, 0xC⟩
def SCHED_ADMCFG_UTILCAP : Fld := ⟨0x1920, 0, 7, 0x55⟩
def SCHED_GLOAD_SLOT : Fld := ⟨0x1924, 30, 2, 0⟩
def SCHED_GLOAD_NEWSET : Fld := ⟨0x1924, 29, 1, 0⟩
def SCHED_GLOAD_EMPTY : Fld := ⟨0x1924, 28, 1, 0⟩
def SCHED_GLOAD_HDR : Fld := ⟨0x1924, 0, 22, 0⟩
def SCHED_ADMSTAT_STATUS : Fld := ⟨0x1928, 30, 2, 0⟩
def SCHED_ADMSTAT_SLOT : Fld := ⟨0x1928, 28, 2, 0⟩
def SCHED_ADMSTAT_REASON : Fld := ⟨0x1928, 24, 4, 0⟩
def SCHED_ADMSTAT_TASK : Fld := ⟨0x1928, 0, 10, 0⟩
def SCHED_ADMCP_CP : Fld := ⟨0x192C, 0, 32, 0⟩
def SCHED_ADMW_W : Fld := ⟨0x1930, 0, 32, 0⟩
def SCHED_GSWITCH_SLOT : Fld := ⟨0x1934, 0, 4, 0⟩
def SCHED_GSEL_SLOT : Fld := ⟨0x1938, 0, 2, 0⟩
def SCHED_GHDR_VALID : Fld := ⟨0x193C, 31, 1, 0⟩
def SCHED_GHDR_HDR : Fld := ⟨0x193C, 0, 22, 0⟩
def SCHED_GINFO_PERIOD : Fld := ⟨0x1940, 16, 4, 0⟩
def SCHED_GINFO_NTASK : Fld := ⟨0x1940, 0, 11, 0⟩
def SCHED_MISSED_BLOCKS : Fld := ⟨0x1944, 0, 32, 0⟩
def SCHED_FAULTS_COUNT : Fld := ⟨0x1948, 0, 32, 0⟩
def SCHED_SHED_COUNT : Fld := ⟨0x194C, 0, 32, 0⟩
def SCHED_STEALS_COUNT : Fld := ⟨0x1950, 0, 32, 0⟩
def SCHED_SHEDNOW_COUNT : Fld := ⟨0x1954, 0, 11, 0⟩

/-! Page ENGN. -/
def ENGN_ID_TYPE (p : Nat) : Fld := ⟨0x2000 + 256 * p, 24, 8, 0⟩
def ENGN_ID_INST (p : Nat) : Fld := ⟨0x2000 + 256 * p, 16, 8, 0⟩
def ENGN_ID_MAJOR (p : Nat) : Fld := ⟨0x2000 + 256 * p, 8, 8, 1⟩
def ENGN_ID_MINOR (p : Nat) : Fld := ⟨0x2000 + 256 * p, 0, 8, 0⟩
def ENGN_CTRL_RELEASE (p : Nat) : Fld := ⟨0x2004 + 256 * p, 2, 1, 0⟩
def ENGN_CTRL_SRST (p : Nat) : Fld := ⟨0x2004 + 256 * p, 1, 1, 0⟩
def ENGN_CTRL_EN (p : Nat) : Fld := ⟨0x2004 + 256 * p, 0, 1, 0⟩
def ENGN_STAT_DEPTH (p : Nat) : Fld := ⟨0x2008 + 256 * p, 16, 7, 0⟩
def ENGN_STAT_GATED (p : Nat) : Fld := ⟨0x2008 + 256 * p, 8, 1, 0⟩
def ENGN_STAT_QCAUSE (p : Nat) : Fld := ⟨0x2008 + 256 * p, 4, 3, 0⟩
def ENGN_STAT_STATE (p : Nat) : Fld := ⟨0x2008 + 256 * p, 0, 3, 0⟩
def ENGN_IFLG_WDOG (p : Nat) : Fld := ⟨0x200C + 256 * p, 2, 1, 0⟩
def ENGN_IFLG_DED (p : Nat) : Fld := ⟨0x200C + 256 * p, 1, 1, 0⟩
def ENGN_IFLG_SEC (p : Nat) : Fld := ⟨0x200C + 256 * p, 0, 1, 0⟩
def ENGN_IEN_WDOG (p : Nat) : Fld := ⟨0x2010 + 256 * p, 2, 1, 0⟩
def ENGN_IEN_DED (p : Nat) : Fld := ⟨0x2010 + 256 * p, 1, 1, 0⟩
def ENGN_IEN_SEC (p : Nat) : Fld := ⟨0x2010 + 256 * p, 0, 1, 0⟩
def ENGN_OWNER_ENG (p : Nat) : Fld := ⟨0x2014 + 256 * p, 3, 1, 1⟩
def ENGN_OWNER_RZ (p : Nat) : Fld := ⟨0x2014 + 256 * p, 2, 1, 1⟩
def ENGN_OWNER_USB (p : Nat) : Fld := ⟨0x2014 + 256 * p, 1, 1, 1⟩
def ENGN_OWNER_CTL (p : Nat) : Fld := ⟨0x2014 + 256 * p, 0, 1, 1⟩
def ENGN_ERRCNT_BLKERR (p : Nat) : Fld := ⟨0x2018 + 256 * p, 16, 16, 0⟩
def ENGN_ERRCNT_REJ (p : Nat) : Fld := ⟨0x2018 + 256 * p, 0, 16, 0⟩
def ENGN_CGRP_GRP (p : Nat) : Fld := ⟨0x201C + 256 * p, 0, 4, 0xF⟩
def ENGN_TASKS_COUNT (p : Nat) : Fld := ⟨0x2020 + 256 * p, 0, 32, 0⟩
def ENGN_TASKERR_COUNT (p : Nat) : Fld := ⟨0x2024 + 256 * p, 0, 32, 0⟩
def ENGN_STEALS_COUNT (p : Nat) : Fld := ⟨0x2028 + 256 * p, 0, 32, 0⟩
def ENGN_RESTARTS_COUNT (p : Nat) : Fld := ⟨0x202C + 256 * p, 0, 32, 0⟩
def ENGN_LASTFAULT_SLOT (p : Nat) : Fld := ⟨0x2030 + 256 * p, 30, 2, 0⟩
def ENGN_LASTFAULT_TASK (p : Nat) : Fld := ⟨0x2030 + 256 * p, 16, 10, 0⟩
def ENGN_LASTFAULT_KID (p : Nat) : Fld := ⟨0x2030 + 256 * p, 0, 16, 0⟩

/-! Page PDM. -/
def PDM_ID_TYPE : Fld := ⟨0x3000, 24, 8, 0⟩
def PDM_ID_INST : Fld := ⟨0x3000, 16, 8, 0⟩
def PDM_ID_MAJOR : Fld := ⟨0x3000, 8, 8, 1⟩
def PDM_ID_MINOR : Fld := ⟨0x3000, 0, 8, 0⟩
def PDM_CTRL_SRST : Fld := ⟨0x3004, 1, 1, 0⟩
def PDM_CTRL_EN : Fld := ⟨0x3004, 0, 1, 0⟩
def PDM_STAT_CLKRUN : Fld := ⟨0x3008, 8, 4, 0⟩
def PDM_STAT_MICVDDOC : Fld := ⟨0x3008, 2, 1, 0⟩
def PDM_STAT_MICVDDON : Fld := ⟨0x3008, 1, 1, 0⟩
def PDM_STAT_REFSRC : Fld := ⟨0x3008, 0, 1, 0⟩
def PDM_IFLG_CLKLOSS : Fld := ⟨0x300C, 2, 1, 0⟩
def PDM_IFLG_MICVDDOC : Fld := ⟨0x300C, 1, 1, 0⟩
def PDM_IFLG_SETTLED : Fld := ⟨0x300C, 0, 1, 0⟩
def PDM_IEN_CLKLOSS : Fld := ⟨0x3010, 2, 1, 0⟩
def PDM_IEN_MICVDDOC : Fld := ⟨0x3010, 1, 1, 0⟩
def PDM_IEN_SETTLED : Fld := ⟨0x3010, 0, 1, 0⟩
def PDM_OWNER_ENG : Fld := ⟨0x3014, 3, 1, 1⟩
def PDM_OWNER_RZ : Fld := ⟨0x3014, 2, 1, 1⟩
def PDM_OWNER_USB : Fld := ⟨0x3014, 1, 1, 1⟩
def PDM_OWNER_CTL : Fld := ⟨0x3014, 0, 1, 1⟩
def PDM_ERRCNT_BLKERR : Fld := ⟨0x3018, 16, 16, 0⟩
def PDM_ERRCNT_REJ : Fld := ⟨0x3018, 0, 16, 0⟩
def PDM_CGRP_GRP : Fld := ⟨0x301C, 0, 4, 0xF⟩
def PDM_CFG_SETTLE : Fld := ⟨0x3020, 24, 8, 0x14⟩
def PDM_CFG_VDDWAIT : Fld := ⟨0x3020, 16, 8, 0xA⟩
def PDM_CLKCFG_RATE (k : Nat) : Fld := ⟨0x3024 + 4 * k, 0, 3, 3⟩
def PDM_GRPCFG_DCBLK (k : Nat) : Fld := ⟨0x3034 + 4 * k, 4, 2, 2⟩
def PDM_GRPCFG_RATE (k : Nat) : Fld := ⟨0x3034 + 4 * k, 0, 4, 4⟩
def PDM_MICCFG_EN (k : Nat) : Fld := ⟨0x3044 + 4 * k, 31, 1, 0⟩
def PDM_MICCFG_GRP (k : Nat) : Fld := ⟨0x3044 + 4 * k, 28, 2, 0⟩
def PDM_MICCFG_GAIN (k : Nat) : Fld := ⟨0x3044 + 4 * k, 16, 12, 0xD00⟩
def PDM_MICCFG_TRIM (k : Nat) : Fld := ⟨0x3044 + 4 * k, 0, 10, 0⟩

/-! Page PRIV. -/
def PRIV_ID_TYPE : Fld := ⟨0x3100, 24, 8, 0⟩
def PRIV_ID_INST : Fld := ⟨0x3100, 16, 8, 0⟩
def PRIV_ID_MAJOR : Fld := ⟨0x3100, 8, 8, 1⟩
def PRIV_ID_MINOR : Fld := ⟨0x3100, 0, 8, 0⟩
def PRIV_CTRL_SWMUTE : Fld := ⟨0x3104, 2, 1, 0⟩
def PRIV_CTRL_SRST : Fld := ⟨0x3104, 1, 1, 0⟩
def PRIV_CTRL_EN : Fld := ⟨0x3104, 0, 1, 1⟩
def PRIV_STAT_SWLEVEL : Fld := ⟨0x3108, 7, 1, 0⟩
def PRIV_STAT_PROBE : Fld := ⟨0x3108, 6, 1, 0⟩
def PRIV_STAT_LIVEFLT : Fld := ⟨0x3108, 5, 1, 0⟩
def PRIV_STAT_LIVE : Fld := ⟨0x3108, 4, 1, 0⟩
def PRIV_STAT_SWMUTE : Fld := ⟨0x3108, 2, 1, 0⟩
def PRIV_STAT_HWMUTE : Fld := ⟨0x3108, 1, 1, 0⟩
def PRIV_STAT_MUTED : Fld := ⟨0x3108, 0, 1, 0⟩
def PRIV_IFLG_PEATZERO : Fld := ⟨0x310C, 3, 1, 0⟩
def PRIV_IFLG_LIVEFLT : Fld := ⟨0x310C, 2, 1, 0⟩
def PRIV_IFLG_UNMUTE : Fld := ⟨0x310C, 1, 1, 0⟩
def PRIV_IFLG_MUTE : Fld := ⟨0x310C, 0, 1, 0⟩
def PRIV_IEN_PEATZERO : Fld := ⟨0x3110, 3, 1, 0⟩
def PRIV_IEN_LIVEFLT : Fld := ⟨0x3110, 2, 1, 0⟩
def PRIV_IEN_UNMUTE : Fld := ⟨0x3110, 1, 1, 0⟩
def PRIV_IEN_MUTE : Fld := ⟨0x3110, 0, 1, 0⟩
def PRIV_OWNER_ENG : Fld := ⟨0x3114, 3, 1, 1⟩
def PRIV_OWNER_RZ : Fld := ⟨0x3114, 2, 1, 1⟩
def PRIV_OWNER_USB : Fld := ⟨0x3114, 1, 1, 1⟩
def PRIV_OWNER_CTL : Fld := ⟨0x3114, 0, 1, 1⟩
def PRIV_ERRCNT_BLKERR : Fld := ⟨0x3118, 16, 16, 0⟩
def PRIV_ERRCNT_REJ : Fld := ⟨0x3118, 0, 16, 0⟩
def PRIV_CGRP_GRP : Fld := ⟨0x311C, 0, 4, 0xF⟩
def PRIV_POLICY_MUTEI : Fld := ⟨0x3120, 24, 8, 0x14⟩
def PRIV_POLICY_LIVEI : Fld := ⟨0x3120, 16, 8, 0x14⟩
def PRIV_POLICY_MICAIN : Fld := ⟨0x3120, 8, 4, 0⟩
def PRIV_POLICY_IND7 : Fld := ⟨0x3120, 2, 1, 0⟩
def PRIV_POLICY_IND6 : Fld := ⟨0x3120, 1, 1, 0⟩
def PRIV_POLICY_LIVEREQ : Fld := ⟨0x3120, 0, 1, 0⟩
def PRIV_EVCNT_LIVEFLT : Fld := ⟨0x3124, 16, 16, 0⟩
def PRIV_EVCNT_MUTES : Fld := ⟨0x3124, 0, 16, 0⟩

/-! Page WAKE. -/
def WAKE_ID_TYPE : Fld := ⟨0x3200, 24, 8, 0⟩
def WAKE_ID_INST : Fld := ⟨0x3200, 16, 8, 0⟩
def WAKE_ID_MAJOR : Fld := ⟨0x3200, 8, 8, 1⟩
def WAKE_ID_MINOR : Fld := ⟨0x3200, 0, 8, 0⟩
def WAKE_CTRL_FRONDEN : Fld := ⟨0x3204, 2, 1, 1⟩
def WAKE_CTRL_SRST : Fld := ⟨0x3204, 1, 1, 0⟩
def WAKE_CTRL_EN : Fld := ⟨0x3204, 0, 1, 0⟩
def WAKE_STAT_CUDONE : Fld := ⟨0x3208, 6, 1, 0⟩
def WAKE_STAT_CLAMPED : Fld := ⟨0x3208, 5, 1, 0⟩
def WAKE_STAT_ACCPEND : Fld := ⟨0x3208, 4, 1, 0⟩
def WAKE_STAT_DEFER : Fld := ⟨0x3208, 3, 1, 0⟩
def WAKE_STAT_STAGE : Fld := ⟨0x3208, 0, 3, 0⟩
def WAKE_IFLG_SEQFAIL : Fld := ⟨0x320C, 5, 1, 0⟩
def WAKE_IFLG_DEFERDISC : Fld := ⟨0x320C, 4, 1, 0⟩
def WAKE_IFLG_REJECT : Fld := ⟨0x320C, 3, 1, 0⟩
def WAKE_IFLG_ACCEPT : Fld := ⟨0x320C, 2, 1, 0⟩
def WAKE_IFLG_T2 : Fld := ⟨0x320C, 1, 1, 0⟩
def WAKE_IFLG_T1 : Fld := ⟨0x320C, 0, 1, 0⟩
def WAKE_IEN_SEQFAIL : Fld := ⟨0x3210, 5, 1, 0⟩
def WAKE_IEN_DEFERDISC : Fld := ⟨0x3210, 4, 1, 0⟩
def WAKE_IEN_REJECT : Fld := ⟨0x3210, 3, 1, 0⟩
def WAKE_IEN_ACCEPT : Fld := ⟨0x3210, 2, 1, 0⟩
def WAKE_IEN_T2 : Fld := ⟨0x3210, 1, 1, 0⟩
def WAKE_IEN_T1 : Fld := ⟨0x3210, 0, 1, 0⟩
def WAKE_OWNER_ENG : Fld := ⟨0x3214, 3, 1, 1⟩
def WAKE_OWNER_RZ : Fld := ⟨0x3214, 2, 1, 1⟩
def WAKE_OWNER_USB : Fld := ⟨0x3214, 1, 1, 1⟩
def WAKE_OWNER_CTL : Fld := ⟨0x3214, 0, 1, 1⟩
def WAKE_ERRCNT_BLKERR : Fld := ⟨0x3218, 16, 16, 0⟩
def WAKE_ERRCNT_REJ : Fld := ⟨0x3218, 0, 16, 0⟩
def WAKE_CGRP_GRP : Fld := ⟨0x321C, 0, 4, 0xF⟩
def WAKE_THR_T2 : Fld := ⟨0x3220, 8, 8, 0xA0⟩
def WAKE_THR_T1 : Fld := ⟨0x3220, 0, 8, 0x80⟩
def WAKE_TIMING_DEFER : Fld := ⟨0x3224, 16, 16, 0x5DC⟩
def WAKE_TIMING_PREROLL : Fld := ⟨0x3224, 0, 16, 0x1F4⟩
def WAKE_WIN_VWIN : Fld := ⟨0x3228, 16, 16, 0x7D0⟩
def WAKE_WIN_FHDWIN : Fld := ⟨0x3228, 0, 16, 0x3E8⟩
def WAKE_HOSTWAKE_RZ : Fld := ⟨0x322C, 2, 1, 0⟩
def WAKE_HOSTWAKE_USB : Fld := ⟨0x322C, 1, 1, 0⟩
def WAKE_HOSTWAKE_IRQ : Fld := ⟨0x322C, 0, 1, 1⟩
def WAKE_VSEQ_AUTO : Fld := ⟨0x3230, 31, 1, 0⟩
def WAKE_VSEQ_VSLOT : Fld := ⟨0x3230, 28, 2, 0⟩
def WAKE_VSEQ_VHDR : Fld := ⟨0x3230, 0, 22, 0⟩
def WAKE_VCTX_VEN : Fld := ⟨0x3234, 31, 1, 0⟩
def WAKE_VCTX_CTX : Fld := ⟨0x3234, 16, 8, 0⟩
def WAKE_VCTX_DEN : Fld := ⟨0x3234, 15, 1, 0⟩
def WAKE_VCTX_DCTX : Fld := ⟨0x3234, 0, 8, 0⟩
def WAKE_VERDICT_V : Fld := ⟨0x3238, 0, 2, 0⟩
def WAKE_ONSETLO_IDX : Fld := ⟨0x323C, 0, 32, 0⟩
def WAKE_ONSETHI_IDX : Fld := ⟨0x3240, 0, 32, 0⟩
def WAKE_STARTLO_IDX : Fld := ⟨0x3244, 0, 32, 0⟩
def WAKE_STARTHI_IDX : Fld := ⟨0x3248, 0, 32, 0⟩
def WAKE_CONF_FHD : Fld := ⟨0x324C, 8, 8, 0⟩
def WAKE_CONF_SPORE : Fld := ⟨0x324C, 0, 8, 0⟩
def WAKE_REJCNT_DEFERDISC : Fld := ⟨0x3250, 24, 8, 0⟩
def WAKE_REJCNT_FROND : Fld := ⟨0x3250, 16, 8, 0⟩
def WAKE_REJCNT_FHD : Fld := ⟨0x3250, 8, 8, 0⟩
def WAKE_REJCNT_SPORE : Fld := ⟨0x3250, 0, 8, 0⟩
def WAKE_EVCNT_MUTEDISC : Fld := ⟨0x3254, 24, 8, 0⟩
def WAKE_EVCNT_EXPIRED : Fld := ⟨0x3254, 16, 8, 0⟩
def WAKE_EVCNT_ACCEPTS : Fld := ⟨0x3254, 0, 16, 0⟩
def WAKE_CUCFG_CATCHUP : Fld := ⟨0x3258, 31, 1, 0⟩
def WAKE_CUCFG_TGT : Fld := ⟨0x3258, 30, 1, 0⟩
def WAKE_CUCFG_PORT : Fld := ⟨0x3258, 24, 3, 0⟩
def WAKE_CUCFG_FIRST : Fld := ⟨0x3258, 16, 5, 0⟩
def WAKE_CUCFG_RATE : Fld := ⟨0x3258, 8, 2, 2⟩

/-! Page PEAT. -/
def PEAT_ID_TYPE : Fld := ⟨0x3300, 24, 8, 0⟩
def PEAT_ID_INST : Fld := ⟨0x3300, 16, 8, 0⟩
def PEAT_ID_MAJOR : Fld := ⟨0x3300, 8, 8, 1⟩
def PEAT_ID_MINOR : Fld := ⟨0x3300, 0, 8, 0⟩
def PEAT_CTRL_SRST : Fld := ⟨0x3304, 1, 1, 0⟩
def PEAT_CTRL_EN : Fld := ⟨0x3304, 0, 1, 0⟩
def PEAT_IFLG_FLAGS : Fld := ⟨0x330C, 0, 32, 0⟩
def PEAT_IEN_EN : Fld := ⟨0x3310, 0, 32, 0⟩
def PEAT_OWNER_ENG : Fld := ⟨0x3314, 3, 1, 1⟩
def PEAT_OWNER_RZ : Fld := ⟨0x3314, 2, 1, 1⟩
def PEAT_OWNER_USB : Fld := ⟨0x3314, 1, 1, 1⟩
def PEAT_OWNER_CTL : Fld := ⟨0x3314, 0, 1, 1⟩
def PEAT_ERRCNT_BLKERR : Fld := ⟨0x3318, 16, 16, 0⟩
def PEAT_ERRCNT_REJ : Fld := ⟨0x3318, 0, 16, 0⟩
def PEAT_CGRP_GRP : Fld := ⟨0x331C, 0, 4, 0xF⟩
def PEAT_CFG_NCH : Fld := ⟨0x3320, 16, 2, 1⟩
def PEAT_CFG_WIDTH : Fld := ⟨0x3320, 9, 1, 0⟩
def PEAT_CFG_RATE : Fld := ⟨0x3320, 8, 1, 1⟩
def PEAT_CHSRC_CH3 : Fld := ⟨0x3324, 24, 5, 3⟩
def PEAT_CHSRC_CH2 : Fld := ⟨0x3324, 16, 5, 2⟩
def PEAT_CHSRC_CH1 : Fld := ⟨0x3324, 8, 5, 1⟩
def PEAT_CHSRC_CH0 : Fld := ⟨0x3324, 0, 5, 0⟩
def PEAT_CAP_CAP : Fld := ⟨0x3328, 0, 18, 0x18000⟩
def PEAT_RSEL_CTX : Fld := ⟨0x332C, 0, 8, 0⟩
def PEAT_WIDXLO_V : Fld := ⟨0x3330, 0, 32, 0⟩
def PEAT_WIDXHI_V : Fld := ⟨0x3334, 0, 32, 0⟩
def PEAT_RIDXLO_V : Fld := ⟨0x3338, 0, 32, 0⟩
def PEAT_RIDXHI_V : Fld := ⟨0x333C, 0, 32, 0⟩
def PEAT_LAG_V : Fld := ⟨0x3340, 0, 32, 0⟩

/-! Page FHD. -/
def FHD_ID_TYPE : Fld := ⟨0x3400, 24, 8, 0⟩
def FHD_ID_INST : Fld := ⟨0x3400, 16, 8, 0⟩
def FHD_ID_MAJOR : Fld := ⟨0x3400, 8, 8, 1⟩
def FHD_ID_MINOR : Fld := ⟨0x3400, 0, 8, 0⟩
def FHD_CTRL_SRST : Fld := ⟨0x3404, 1, 1, 0⟩
def FHD_CTRL_EN : Fld := ⟨0x3404, 0, 1, 0⟩
def FHD_STAT_ENGAGED : Fld := ⟨0x3408, 1, 1, 0⟩
def FHD_STAT_MODELOK : Fld := ⟨0x3408, 0, 1, 0⟩
def FHD_IFLG_MODELBAD : Fld := ⟨0x340C, 1, 1, 0⟩
def FHD_IFLG_MODELOK : Fld := ⟨0x340C, 0, 1, 0⟩
def FHD_IEN_MODELBAD : Fld := ⟨0x3410, 1, 1, 0⟩
def FHD_IEN_MODELOK : Fld := ⟨0x3410, 0, 1, 0⟩
def FHD_OWNER_ENG : Fld := ⟨0x3414, 3, 1, 1⟩
def FHD_OWNER_RZ : Fld := ⟨0x3414, 2, 1, 1⟩
def FHD_OWNER_USB : Fld := ⟨0x3414, 1, 1, 1⟩
def FHD_OWNER_CTL : Fld := ⟨0x3414, 0, 1, 1⟩
def FHD_ERRCNT_BLKERR : Fld := ⟨0x3418, 16, 16, 0⟩
def FHD_ERRCNT_REJ : Fld := ⟨0x3418, 0, 16, 0⟩
def FHD_CGRP_GRP : Fld := ⟨0x341C, 0, 4, 0xF⟩
def FHD_WCTRL_START : Fld := ⟨0x3420, 0, 1, 0⟩
def FHD_WFIFO_DATA : Fld := ⟨0x3424, 0, 32, 0⟩
def FHD_BEAM_DELAY : Fld := ⟨0x3428, 0, 11, 0⟩
def FHD_MINFO_VERSION : Fld := ⟨0x342C, 0, 32, 0⟩

/-! Page AIN. -/
def AIN_ID_TYPE : Fld := ⟨0x3800, 24, 8, 0⟩
def AIN_ID_INST : Fld := ⟨0x3800, 16, 8, 0⟩
def AIN_ID_MAJOR : Fld := ⟨0x3800, 8, 8, 1⟩
def AIN_ID_MINOR : Fld := ⟨0x3800, 0, 8, 0⟩
def AIN_CTRL_SRST : Fld := ⟨0x3804, 1, 1, 0⟩
def AIN_CTRL_EN : Fld := ⟨0x3804, 0, 1, 0⟩
def AIN_STAT_MBOC : Fld := ⟨0x3808, 8, 2, 0⟩
def AIN_STAT_CUT : Fld := ⟨0x3808, 4, 4, 0⟩
def AIN_STAT_ON : Fld := ⟨0x3808, 0, 4, 0⟩
def AIN_IFLG_MBOC : Fld := ⟨0x380C, 1, 1, 0⟩
def AIN_IFLG_CLIP : Fld := ⟨0x380C, 0, 1, 0⟩
def AIN_IEN_MBOC : Fld := ⟨0x3810, 1, 1, 0⟩
def AIN_IEN_CLIP : Fld := ⟨0x3810, 0, 1, 0⟩
def AIN_OWNER_ENG : Fld := ⟨0x3814, 3, 1, 1⟩
def AIN_OWNER_RZ : Fld := ⟨0x3814, 2, 1, 1⟩
def AIN_OWNER_USB : Fld := ⟨0x3814, 1, 1, 1⟩
def AIN_OWNER_CTL : Fld := ⟨0x3814, 0, 1, 1⟩
def AIN_ERRCNT_BLKERR : Fld := ⟨0x3818, 16, 16, 0⟩
def AIN_ERRCNT_REJ : Fld := ⟨0x3818, 0, 16, 0⟩
def AIN_CGRP_GRP : Fld := ⟨0x381C, 0, 4, 0xF⟩
def AIN_INCFG_EN (k : Nat) : Fld := ⟨0x3820 + 4 * k, 31, 1, 0⟩
def AIN_INCFG_SE (k : Nat) : Fld := ⟨0x3820 + 4 * k, 30, 1, 0⟩
def AIN_INCFG_HPF (k : Nat) : Fld := ⟨0x3820 + 4 * k, 28, 2, 1⟩
def AIN_INCFG_PGA (k : Nat) : Fld := ⟨0x3820 + 4 * k, 16, 6, 0⟩
def AIN_INCFG_DGAIN (k : Nat) : Fld := ⟨0x3820 + 4 * k, 0, 12, 0xD00⟩
def AIN_BIAS_MB1V : Fld := ⟨0x3830, 5, 1, 0⟩
def AIN_BIAS_MB1EN : Fld := ⟨0x3830, 4, 1, 0⟩
def AIN_BIAS_MB0V : Fld := ⟨0x3830, 1, 1, 0⟩
def AIN_BIAS_MB0EN : Fld := ⟨0x3830, 0, 1, 0⟩

/-! Page HP. -/
def HP_ID_TYPE : Fld := ⟨0x3900, 24, 8, 0⟩
def HP_ID_INST : Fld := ⟨0x3900, 16, 8, 0⟩
def HP_ID_MAJOR : Fld := ⟨0x3900, 8, 8, 1⟩
def HP_ID_MINOR : Fld := ⟨0x3900, 0, 8, 0⟩
def HP_CTRL_SRST : Fld := ⟨0x3904, 1, 1, 0⟩
def HP_CTRL_EN : Fld := ⟨0x3904, 0, 1, 0⟩
def HP_STAT_STATE : Fld := ⟨0x3908, 4, 3, 0⟩
def HP_STAT_OCP : Fld := ⟨0x3908, 3, 1, 0⟩
def HP_STAT_CLAMP : Fld := ⟨0x3908, 2, 1, 1⟩
def HP_STAT_SERVO : Fld := ⟨0x3908, 1, 1, 0⟩
def HP_STAT_CPOK : Fld := ⟨0x3908, 0, 1, 0⟩
def HP_IFLG_OCP : Fld := ⟨0x390C, 2, 1, 0⟩
def HP_IFLG_LOWZ : Fld := ⟨0x390C, 1, 1, 0⟩
def HP_IFLG_READY : Fld := ⟨0x390C, 0, 1, 0⟩
def HP_IEN_OCP : Fld := ⟨0x3910, 2, 1, 0⟩
def HP_IEN_LOWZ : Fld := ⟨0x3910, 1, 1, 0⟩
def HP_IEN_READY : Fld := ⟨0x3910, 0, 1, 0⟩
def HP_OWNER_ENG : Fld := ⟨0x3914, 3, 1, 1⟩
def HP_OWNER_RZ : Fld := ⟨0x3914, 2, 1, 1⟩
def HP_OWNER_USB : Fld := ⟨0x3914, 1, 1, 1⟩
def HP_OWNER_CTL : Fld := ⟨0x3914, 0, 1, 1⟩
def HP_ERRCNT_BLKERR : Fld := ⟨0x3918, 16, 16, 0⟩
def HP_ERRCNT_REJ : Fld := ⟨0x3918, 0, 16, 0⟩
def HP_CGRP_GRP : Fld := ⟨0x391C, 0, 4, 0xF⟩
def HP_CFG_MRAMP : Fld := ⟨0x3920, 8, 7, 8⟩
def HP_CFG_LOWZOK : Fld := ⟨0x3920, 2, 1, 0⟩
def HP_CFG_JGATE : Fld := ⟨0x3920, 1, 1, 1⟩
def HP_CFG_RANGE : Fld := ⟨0x3920, 0, 1, 0⟩
def HP_VOL_MUTER : Fld := ⟨0x3924, 31, 1, 0⟩
def HP_VOL_VOLR : Fld := ⟨0x3924, 16, 12, 0xD00⟩
def HP_VOL_MUTEL : Fld := ⟨0x3924, 15, 1, 0⟩
def HP_VOL_VOLL : Fld := ⟨0x3924, 0, 12, 0xD00⟩
def HP_SERVOOFS_OFSR : Fld := ⟨0x3928, 16, 16, 0⟩
def HP_SERVOOFS_OFSL : Fld := ⟨0x3928, 0, 16, 0⟩

/-! Page LOUT. -/
def LOUT_ID_TYPE : Fld := ⟨0x3A00, 24, 8, 0⟩
def LOUT_ID_INST : Fld := ⟨0x3A00, 16, 8, 0⟩
def LOUT_ID_MAJOR : Fld := ⟨0x3A00, 8, 8, 1⟩
def LOUT_ID_MINOR : Fld := ⟨0x3A00, 0, 8, 0⟩
def LOUT_CTRL_SRST : Fld := ⟨0x3A04, 1, 1, 0⟩
def LOUT_CTRL_EN : Fld := ⟨0x3A04, 0, 1, 0⟩
def LOUT_STAT_OCP : Fld := ⟨0x3A08, 2, 2, 0⟩
def LOUT_STAT_ON : Fld := ⟨0x3A08, 0, 2, 0⟩
def LOUT_IFLG_OCP : Fld := ⟨0x3A0C, 0, 2, 0⟩
def LOUT_IEN_OCP : Fld := ⟨0x3A10, 0, 2, 0⟩
def LOUT_OWNER_ENG : Fld := ⟨0x3A14, 3, 1, 1⟩
def LOUT_OWNER_RZ : Fld := ⟨0x3A14, 2, 1, 1⟩
def LOUT_OWNER_USB : Fld := ⟨0x3A14, 1, 1, 1⟩
def LOUT_OWNER_CTL : Fld := ⟨0x3A14, 0, 1, 1⟩
def LOUT_ERRCNT_BLKERR : Fld := ⟨0x3A18, 16, 16, 0⟩
def LOUT_ERRCNT_REJ : Fld := ⟨0x3A18, 0, 16, 0⟩
def LOUT_CGRP_GRP : Fld := ⟨0x3A1C, 0, 4, 0xF⟩
def LOUT_CFG_MRAMP : Fld := ⟨0x3A20, 8, 7, 8⟩
def LOUT_CFG_OEN1 : Fld := ⟨0x3A20, 1, 1, 0⟩
def LOUT_CFG_OEN0 : Fld := ⟨0x3A20, 0, 1, 0⟩
def LOUT_VOL_MUTE1 : Fld := ⟨0x3A24, 31, 1, 0⟩
def LOUT_VOL_VOL1 : Fld := ⟨0x3A24, 16, 12, 0xD00⟩
def LOUT_VOL_MUTE0 : Fld := ⟨0x3A24, 15, 1, 0⟩
def LOUT_VOL_VOL0 : Fld := ⟨0x3A24, 0, 12, 0xD00⟩

/-! Page JACK. -/
def JACK_ID_TYPE : Fld := ⟨0x3B00, 24, 8, 0⟩
def JACK_ID_INST : Fld := ⟨0x3B00, 16, 8, 0⟩
def JACK_ID_MAJOR : Fld := ⟨0x3B00, 8, 8, 1⟩
def JACK_ID_MINOR : Fld := ⟨0x3B00, 0, 8, 0⟩
def JACK_CTRL_SRST : Fld := ⟨0x3B04, 1, 1, 0⟩
def JACK_CTRL_EN : Fld := ⟨0x3B04, 0, 1, 0⟩
def JACK_STAT_BTN : Fld := ⟨0x3B08, 16, 3, 0⟩
def JACK_STAT_ZCLASS : Fld := ⟨0x3B08, 12, 3, 0⟩
def JACK_STAT_TYPE : Fld := ⟨0x3B08, 8, 3, 0⟩
def JACK_STAT_JSTATE : Fld := ⟨0x3B08, 4, 3, 0⟩
def JACK_STAT_DETRAW : Fld := ⟨0x3B08, 0, 1, 0⟩
def JACK_IFLG_BTNUP : Fld := ⟨0x3B0C, 4, 1, 0⟩
def JACK_IFLG_BTNDN : Fld := ⟨0x3B0C, 3, 1, 0⟩
def JACK_IFLG_TYPE : Fld := ⟨0x3B0C, 2, 1, 0⟩
def JACK_IFLG_REMOVE : Fld := ⟨0x3B0C, 1, 1, 0⟩
def JACK_IFLG_INSERT : Fld := ⟨0x3B0C, 0, 1, 0⟩
def JACK_IEN_BTNUP : Fld := ⟨0x3B10, 4, 1, 0⟩
def JACK_IEN_BTNDN : Fld := ⟨0x3B10, 3, 1, 0⟩
def JACK_IEN_TYPE : Fld := ⟨0x3B10, 2, 1, 0⟩
def JACK_IEN_REMOVE : Fld := ⟨0x3B10, 1, 1, 0⟩
def JACK_IEN_INSERT : Fld := ⟨0x3B10, 0, 1, 0⟩
def JACK_OWNER_ENG : Fld := ⟨0x3B14, 3, 1, 1⟩
def JACK_OWNER_RZ : Fld := ⟨0x3B14, 2, 1, 1⟩
def JACK_OWNER_USB : Fld := ⟨0x3B14, 1, 1, 1⟩
def JACK_OWNER_CTL : Fld := ⟨0x3B14, 0, 1, 1⟩
def JACK_ERRCNT_BLKERR : Fld := ⟨0x3B18, 16, 16, 0⟩
def JACK_ERRCNT_REJ : Fld := ⟨0x3B18, 0, 16, 0⟩
def JACK_CGRP_GRP : Fld := ⟨0x3B1C, 0, 4, 0xF⟩
def JACK_CFG_DEB : Fld := ⟨0x3B20, 16, 10, 0x64⟩
def JACK_CFG_FORCE : Fld := ⟨0x3B20, 12, 2, 0⟩
def JACK_CFG_BTNDEB : Fld := ⟨0x3B20, 6, 6, 0xA⟩
def JACK_CFG_DETPOL : Fld := ⟨0x3B20, 5, 1, 0⟩
def JACK_CFG_JWAKE : Fld := ⟨0x3B20, 4, 1, 0⟩
def JACK_CFG_LPBTN : Fld := ⟨0x3B20, 3, 1, 0⟩
def JACK_CFG_BTNMUTE : Fld := ⟨0x3B20, 2, 1, 0⟩
def JACK_CFG_GSAUTO : Fld := ⟨0x3B20, 1, 1, 1⟩
def JACK_BTNTHR_TH3 : Fld := ⟨0x3B24, 24, 8, 0x3A⟩
def JACK_BTNTHR_TH2 : Fld := ⟨0x3B24, 16, 8, 0x22⟩
def JACK_BTNTHR_TH1 : Fld := ⟨0x3B24, 8, 8, 0x13⟩
def JACK_BTNTHR_TH0 : Fld := ⟨0x3B24, 0, 8, 0xA⟩
def JACK_BTNMAP_B3 : Fld := ⟨0x3B28, 24, 8, 3⟩
def JACK_BTNMAP_B2 : Fld := ⟨0x3B28, 16, 8, 2⟩
def JACK_BTNMAP_B1 : Fld := ⟨0x3B28, 8, 8, 6⟩
def JACK_BTNMAP_B0 : Fld := ⟨0x3B28, 0, 8, 1⟩
def JACK_ZMEAS_ZR : Fld := ⟨0x3B2C, 16, 16, 0⟩
def JACK_ZMEAS_ZL : Fld := ⟨0x3B2C, 0, 16, 0⟩
def JACK_POLE_RB : Fld := ⟨0x3B30, 8, 8, 0⟩
def JACK_POLE_RA : Fld := ⟨0x3B30, 0, 8, 0⟩
def JACK_EVCNT_ABORTS : Fld := ⟨0x3B34, 24, 8, 0⟩
def JACK_EVCNT_BTNPRESS : Fld := ⟨0x3B34, 16, 8, 0⟩
def JACK_EVCNT_INSERTS : Fld := ⟨0x3B34, 0, 16, 0⟩

/-! Page AMP. -/
def AMP_ID_TYPE (p : Nat) : Fld := ⟨0x4000 + 256 * p, 24, 8, 0⟩
def AMP_ID_INST (p : Nat) : Fld := ⟨0x4000 + 256 * p, 16, 8, 0⟩
def AMP_ID_MAJOR (p : Nat) : Fld := ⟨0x4000 + 256 * p, 8, 8, 1⟩
def AMP_ID_MINOR (p : Nat) : Fld := ⟨0x4000 + 256 * p, 0, 8, 0⟩
def AMP_CTRL_CLRFLT (p : Nat) : Fld := ⟨0x4004 + 256 * p, 2, 1, 0⟩
def AMP_CTRL_SRST (p : Nat) : Fld := ⟨0x4004 + 256 * p, 1, 1, 0⟩
def AMP_CTRL_EN (p : Nat) : Fld := ⟨0x4004 + 256 * p, 0, 1, 0⟩
def AMP_STAT_STATE (p : Nat) : Fld := ⟨0x4008 + 256 * p, 8, 3, 0⟩
def AMP_STAT_LIMD (p : Nat) : Fld := ⟨0x4008 + 256 * p, 4, 1, 0⟩
def AMP_STAT_LIMP (p : Nat) : Fld := ⟨0x4008 + 256 * p, 3, 1, 0⟩
def AMP_STAT_LIMX (p : Nat) : Fld := ⟨0x4008 + 256 * p, 2, 1, 0⟩
def AMP_STAT_LIMT (p : Nat) : Fld := ⟨0x4008 + 256 * p, 1, 1, 0⟩
def AMP_STAT_CBC (p : Nat) : Fld := ⟨0x4008 + 256 * p, 0, 1, 0⟩
def AMP_IFLG_LATCH (p : Nat) : Fld := ⟨0x400C + 256 * p, 4, 1, 0⟩
def AMP_IFLG_RESUME (p : Nat) : Fld := ⟨0x400C + 256 * p, 3, 1, 0⟩
def AMP_IFLG_FAULT (p : Nat) : Fld := ⟨0x400C + 256 * p, 2, 1, 0⟩
def AMP_IFLG_CBC (p : Nat) : Fld := ⟨0x400C + 256 * p, 1, 1, 0⟩
def AMP_IFLG_LIMIT (p : Nat) : Fld := ⟨0x400C + 256 * p, 0, 1, 0⟩
def AMP_IEN_LATCH (p : Nat) : Fld := ⟨0x4010 + 256 * p, 4, 1, 0⟩
def AMP_IEN_RESUME (p : Nat) : Fld := ⟨0x4010 + 256 * p, 3, 1, 0⟩
def AMP_IEN_FAULT (p : Nat) : Fld := ⟨0x4010 + 256 * p, 2, 1, 0⟩
def AMP_IEN_CBC (p : Nat) : Fld := ⟨0x4010 + 256 * p, 1, 1, 0⟩
def AMP_IEN_LIMIT (p : Nat) : Fld := ⟨0x4010 + 256 * p, 0, 1, 0⟩
def AMP_OWNER_ENG (p : Nat) : Fld := ⟨0x4014 + 256 * p, 3, 1, 1⟩
def AMP_OWNER_RZ (p : Nat) : Fld := ⟨0x4014 + 256 * p, 2, 1, 1⟩
def AMP_OWNER_USB (p : Nat) : Fld := ⟨0x4014 + 256 * p, 1, 1, 1⟩
def AMP_OWNER_CTL (p : Nat) : Fld := ⟨0x4014 + 256 * p, 0, 1, 1⟩
def AMP_ERRCNT_BLKERR (p : Nat) : Fld := ⟨0x4018 + 256 * p, 16, 16, 0⟩
def AMP_ERRCNT_REJ (p : Nat) : Fld := ⟨0x4018 + 256 * p, 0, 16, 0⟩
def AMP_CGRP_GRP (p : Nat) : Fld := ⟨0x401C + 256 * p, 0, 4, 0xF⟩
def AMP_CFG_PHASE (p : Nat) : Fld := ⟨0x4020 + 256 * p, 24, 8, 64 * p⟩
def AMP_CFG_CBCLIM (p : Nat) : Fld := ⟨0x4020 + 256 * p, 20, 3, 4⟩
def AMP_CFG_VFS (p : Nat) : Fld := ⟨0x4020 + 256 * p, 16, 3, 3⟩
def AMP_CFG_NORETRY (p : Nat) : Fld := ⟨0x4020 + 256 * p, 8, 1, 0⟩
def AMP_VOL_MUTE (p : Nat) : Fld := ⟨0x4024 + 256 * p, 15, 1, 0⟩
def AMP_VOL_GAIN (p : Nat) : Fld := ⟨0x4024 + 256 * p, 0, 12, 0xD00⟩
def AMP_FAULT_CAUSE (p : Nat) : Fld := ⟨0x4028 + 256 * p, 16, 3, 0⟩
def AMP_FAULT_TRIES (p : Nat) : Fld := ⟨0x4028 + 256 * p, 8, 2, 0⟩
def AMP_LOADZ_Z (p : Nat) : Fld := ⟨0x402C + 256 * p, 0, 16, 0⟩
def AMP_GAINRED_GD (p : Nat) : Fld := ⟨0x4030 + 256 * p, 24, 8, 0⟩
def AMP_GAINRED_GP (p : Nat) : Fld := ⟨0x4030 + 256 * p, 16, 8, 0⟩
def AMP_GAINRED_GX (p : Nat) : Fld := ⟨0x4030 + 256 * p, 8, 8, 0⟩
def AMP_GAINRED_GT (p : Nat) : Fld := ⟨0x4030 + 256 * p, 0, 8, 0⟩
def AMP_EVCNT_CBCBLK (p : Nat) : Fld := ⟨0x4034 + 256 * p, 16, 16, 0⟩
def AMP_EVCNT_FAULTS (p : Nat) : Fld := ⟨0x4034 + 256 * p, 8, 8, 0⟩
def AMP_EVCNT_LATCHES (p : Nat) : Fld := ⟨0x4034 + 256 * p, 0, 8, 0⟩

/-! Page AMPG. -/
def AMPG_ID_TYPE : Fld := ⟨0x4400, 24, 8, 0⟩
def AMPG_ID_INST : Fld := ⟨0x4400, 16, 8, 0⟩
def AMPG_ID_MAJOR : Fld := ⟨0x4400, 8, 8, 1⟩
def AMPG_ID_MINOR : Fld := ⟨0x4400, 0, 8, 0⟩
def AMPG_CTRL_SRST : Fld := ⟨0x4404, 1, 1, 0⟩
def AMPG_CTRL_EN : Fld := ⟨0x4404, 0, 1, 0⟩
def AMPG_STAT_PVDD : Fld := ⟨0x4408, 16, 16, 0⟩
def AMPG_STAT_TDIE : Fld := ⟨0x4408, 8, 8, 0⟩
def AMPG_STAT_TWARN : Fld := ⟨0x4408, 4, 1, 0⟩
def AMPG_STAT_TFOLD : Fld := ⟨0x4408, 3, 1, 0⟩
def AMPG_STAT_TSD : Fld := ⟨0x4408, 2, 1, 0⟩
def AMPG_STAT_OV : Fld := ⟨0x4408, 1, 1, 0⟩
def AMPG_STAT_UV : Fld := ⟨0x4408, 0, 1, 0⟩
def AMPG_IFLG_TWARN : Fld := ⟨0x440C, 4, 1, 0⟩
def AMPG_IFLG_TFOLD : Fld := ⟨0x440C, 3, 1, 0⟩
def AMPG_IFLG_TSD : Fld := ⟨0x440C, 2, 1, 0⟩
def AMPG_IFLG_OV : Fld := ⟨0x440C, 1, 1, 0⟩
def AMPG_IFLG_UV : Fld := ⟨0x440C, 0, 1, 0⟩
def AMPG_IEN_TWARN : Fld := ⟨0x4410, 4, 1, 0⟩
def AMPG_IEN_TFOLD : Fld := ⟨0x4410, 3, 1, 0⟩
def AMPG_IEN_TSD : Fld := ⟨0x4410, 2, 1, 0⟩
def AMPG_IEN_OV : Fld := ⟨0x4410, 1, 1, 0⟩
def AMPG_IEN_UV : Fld := ⟨0x4410, 0, 1, 0⟩
def AMPG_OWNER_ENG : Fld := ⟨0x4414, 3, 1, 1⟩
def AMPG_OWNER_RZ : Fld := ⟨0x4414, 2, 1, 1⟩
def AMPG_OWNER_USB : Fld := ⟨0x4414, 1, 1, 1⟩
def AMPG_OWNER_CTL : Fld := ⟨0x4414, 0, 1, 1⟩
def AMPG_ERRCNT_BLKERR : Fld := ⟨0x4418, 16, 16, 0⟩
def AMPG_ERRCNT_REJ : Fld := ⟨0x4418, 0, 16, 0⟩
def AMPG_CGRP_GRP : Fld := ⟨0x441C, 0, 4, 0xF⟩
def AMPG_CFG_FSW : Fld := ⟨0x4420, 30, 2, 0⟩
def AMPG_CFG_SPREAD : Fld := ⟨0x4420, 28, 2, 0⟩
def AMPG_CFG_ER : Fld := ⟨0x4420, 26, 2, 1⟩
def AMPG_CFG_MOD : Fld := ⟨0x4420, 25, 1, 0⟩
def AMPG_CFG_PAIRCD : Fld := ⟨0x4420, 17, 1, 0⟩
def AMPG_CFG_PAIRAB : Fld := ⟨0x4420, 16, 1, 0⟩
def AMPG_CFG_LOOKAHEAD : Fld := ⟨0x4420, 0, 5, 8⟩
def AMPG_PVLIM_HEADRM : Fld := ⟨0x4424, 16, 8, 0xA⟩
def AMPG_PVLIM_RELEASE : Fld := ⟨0x4424, 8, 8, 0xA⟩
def AMPG_PVLIM_EN : Fld := ⟨0x4424, 0, 1, 1⟩
def AMPG_RETRY_INTERVAL : Fld := ⟨0x4428, 16, 16, 0xA0⟩
def AMPG_RETRY_CLEAN : Fld := ⟨0x4428, 8, 8, 0xA⟩
def AMPG_RETRY_DCTHR : Fld := ⟨0x4428, 0, 8, 0xA⟩

/-! Page SPKP. -/
def SPKP_ID_TYPE : Fld := ⟨0x4500, 24, 8, 0⟩
def SPKP_ID_INST : Fld := ⟨0x4500, 16, 8, 0⟩
def SPKP_ID_MAJOR : Fld := ⟨0x4500, 8, 8, 1⟩
def SPKP_ID_MINOR : Fld := ⟨0x4500, 0, 8, 0⟩
def SPKP_CTRL_SRST : Fld := ⟨0x4504, 1, 1, 0⟩
def SPKP_CTRL_EN : Fld := ⟨0x4504, 0, 1, 0⟩
def SPKP_IFLG_NTCSTALE : Fld := ⟨0x450C, 0, 1, 0⟩
def SPKP_IEN_NTCSTALE : Fld := ⟨0x4510, 0, 1, 0⟩
def SPKP_OWNER_ENG : Fld := ⟨0x4514, 3, 1, 1⟩
def SPKP_OWNER_RZ : Fld := ⟨0x4514, 2, 1, 1⟩
def SPKP_OWNER_USB : Fld := ⟨0x4514, 1, 1, 1⟩
def SPKP_OWNER_CTL : Fld := ⟨0x4514, 0, 1, 1⟩
def SPKP_ERRCNT_BLKERR : Fld := ⟨0x4518, 16, 16, 0⟩
def SPKP_ERRCNT_REJ : Fld := ⟨0x4518, 0, 16, 0⟩
def SPKP_CGRP_GRP : Fld := ⟨0x451C, 0, 4, 0xF⟩
def SPKP_SEL_CH : Fld := ⟨0x4520, 0, 2, 0⟩
def SPKP_CTL_EN : Fld := ⟨0x4524, 31, 1, 0⟩
def SPKP_CTL_RETRK : Fld := ⟨0x4524, 29, 2, 0⟩
def SPKP_CTL_MAGSRC : Fld := ⟨0x4524, 27, 2, 0⟩
def SPKP_CTL_KRE : Fld := ⟨0x4524, 16, 8, 0x20⟩
def SPKP_CTL_PILOTLVL : Fld := ⟨0x4524, 8, 8, 0xA⟩
def SPKP_CTL_PILOTF : Fld := ⟨0x4524, 0, 8, 0x64⟩
def SPKP_RE0_T0COIL : Fld := ⟨0x4528, 16, 16, 0x9C4⟩
def SPKP_RE0_RE0 : Fld := ⟨0x4528, 0, 16, 0xFA0⟩
def SPKP_ALPHA_ALPHA : Fld := ⟨0x452C, 0, 16, 0xF5A⟩
def SPKP_COIL_RTHC : Fld := ⟨0x4530, 16, 16, 0xFA⟩
def SPKP_COIL_TAUC : Fld := ⟨0x4530, 0, 16, 0x190⟩
def SPKP_MAG_RTHM : Fld := ⟨0x4534, 16, 16, 0x320⟩
def SPKP_MAG_TAUM : Fld := ⟨0x4534, 0, 16, 0x258⟩
def SPKP_LIMIT_TMAX : Fld := ⟨0x4538, 16, 16, 0x2AF8⟩
def SPKP_LIMIT_MARGIN : Fld := ⟨0x4538, 8, 8, 0xA⟩
def SPKP_TIMES_PREDICT : Fld := ⟨0x453C, 16, 16, 0x7D0⟩
def SPKP_TIMES_ATTACK : Fld := ⟨0x453C, 10, 6, 0xA⟩
def SPKP_TIMES_RELEASE : Fld := ⟨0x453C, 0, 10, 0x64⟩
def SPKP_TAMB_TA : Fld := ⟨0x4540, 0, 16, 0x9C4⟩
def SPKP_TEMP_TMAG : Fld := ⟨0x4544, 16, 16, 0⟩
def SPKP_TEMP_TCOIL : Fld := ⟨0x4544, 0, 16, 0⟩
def SPKP_PRED_RE : Fld := ⟨0x4548, 16, 16, 0⟩
def SPKP_PRED_TPRED : Fld := ⟨0x4548, 0, 16, 0⟩
def SPKP_PWR_REVALID : Fld := ⟨0x454C, 31, 1, 0⟩
def SPKP_PWR_P : Fld := ⟨0x454C, 0, 24, 0⟩
def SPKP_NTCLIN_NTCA (k : Nat) : Fld := ⟨0x4550 + 4 * k, 16, 16, 0⟩
def SPKP_NTCLIN_NTCB (k : Nat) : Fld := ⟨0x4550 + 4 * k, 0, 16, 0⟩

/-! Page EXCUR. -/
def EXCUR_ID_TYPE : Fld := ⟨0x4600, 24, 8, 0⟩
def EXCUR_ID_INST : Fld := ⟨0x4600, 16, 8, 0⟩
def EXCUR_ID_MAJOR : Fld := ⟨0x4600, 8, 8, 1⟩
def EXCUR_ID_MINOR : Fld := ⟨0x4600, 0, 8, 0⟩
def EXCUR_CTRL_SRST : Fld := ⟨0x4604, 1, 1, 0⟩
def EXCUR_CTRL_EN : Fld := ⟨0x4604, 0, 1, 0⟩
def EXCUR_STAT_RECERR : Fld := ⟨0x4608, 0, 3, 0⟩
def EXCUR_IFLG_RECBAD : Fld := ⟨0x460C, 1, 1, 0⟩
def EXCUR_IFLG_RECOK : Fld := ⟨0x460C, 0, 1, 0⟩
def EXCUR_IEN_RECBAD : Fld := ⟨0x4610, 1, 1, 0⟩
def EXCUR_IEN_RECOK : Fld := ⟨0x4610, 0, 1, 0⟩
def EXCUR_OWNER_ENG : Fld := ⟨0x4614, 3, 1, 1⟩
def EXCUR_OWNER_RZ : Fld := ⟨0x4614, 2, 1, 1⟩
def EXCUR_OWNER_USB : Fld := ⟨0x4614, 1, 1, 1⟩
def EXCUR_OWNER_CTL : Fld := ⟨0x4614, 0, 1, 1⟩
def EXCUR_ERRCNT_BLKERR : Fld := ⟨0x4618, 16, 16, 0⟩
def EXCUR_ERRCNT_REJ : Fld := ⟨0x4618, 0, 16, 0⟩
def EXCUR_CGRP_GRP : Fld := ⟨0x461C, 0, 4, 0xF⟩
def EXCUR_SEL_CH : Fld := ⟨0x4620, 0, 2, 0⟩
def EXCUR_CTL_EN : Fld := ⟨0x4624, 31, 1, 0⟩
def EXCUR_CMD_APPLY : Fld := ⟨0x4628, 0, 1, 0⟩
def EXCUR_XSTAT_XPK : Fld := ⟨0x462C, 16, 16, 0⟩
def EXCUR_XSTAT_XPRED : Fld := ⟨0x462C, 0, 16, 0⟩
def EXCUR_LEGACY_DATA (k : Nat) : Fld := ⟨0x4640 + 4 * k, 0, 32, 0⟩
def EXCUR_REC_DATA (k : Nat) : Fld := ⟨0x4680 + 4 * k, 0, 32, 0⟩

/-! Page USB. -/
def USB_ID_TYPE : Fld := ⟨0x4800, 24, 8, 0⟩
def USB_ID_INST : Fld := ⟨0x4800, 16, 8, 0⟩
def USB_ID_MAJOR : Fld := ⟨0x4800, 8, 8, 1⟩
def USB_ID_MINOR : Fld := ⟨0x4800, 0, 8, 0⟩
def USB_CTRL_RWAKE : Fld := ⟨0x4804, 2, 1, 0⟩
def USB_CTRL_SRST : Fld := ⟨0x4804, 1, 1, 0⟩
def USB_CTRL_EN : Fld := ⟨0x4804, 0, 1, 0⟩
def USB_STAT_DESCDEF : Fld := ⟨0x4808, 12, 1, 0⟩
def USB_STAT_RWEN : Fld := ⟨0x4808, 11, 1, 0⟩
def USB_STAT_VBUS : Fld := ⟨0x4808, 10, 1, 0⟩
def USB_STAT_SPEED : Fld := ⟨0x4808, 8, 2, 0⟩
def USB_STAT_STATE : Fld := ⟨0x4808, 4, 3, 0⟩
def USB_IFLG_RWDENY : Fld := ⟨0x480C, 7, 1, 0⟩
def USB_IFLG_L1 : Fld := ⟨0x480C, 6, 1, 0⟩
def USB_IFLG_RESUME : Fld := ⟨0x480C, 5, 1, 0⟩
def USB_IFLG_SUSPEND : Fld := ⟨0x480C, 4, 1, 0⟩
def USB_IFLG_BUSRESET : Fld := ⟨0x480C, 3, 1, 0⟩
def USB_IFLG_SAMFREQ : Fld := ⟨0x480C, 2, 1, 0⟩
def USB_IFLG_ALT : Fld := ⟨0x480C, 1, 1, 0⟩
def USB_IFLG_CONFIG : Fld := ⟨0x480C, 0, 1, 0⟩
def USB_IEN_RWDENY : Fld := ⟨0x4810, 7, 1, 0⟩
def USB_IEN_L1 : Fld := ⟨0x4810, 6, 1, 0⟩
def USB_IEN_RESUME : Fld := ⟨0x4810, 5, 1, 0⟩
def USB_IEN_SUSPEND : Fld := ⟨0x4810, 4, 1, 0⟩
def USB_IEN_BUSRESET : Fld := ⟨0x4810, 3, 1, 0⟩
def USB_IEN_SAMFREQ : Fld := ⟨0x4810, 2, 1, 0⟩
def USB_IEN_ALT : Fld := ⟨0x4810, 1, 1, 0⟩
def USB_IEN_CONFIG : Fld := ⟨0x4810, 0, 1, 0⟩
def USB_OWNER_ENG : Fld := ⟨0x4814, 3, 1, 1⟩
def USB_OWNER_RZ : Fld := ⟨0x4814, 2, 1, 1⟩
def USB_OWNER_USB : Fld := ⟨0x4814, 1, 1, 1⟩
def USB_OWNER_CTL : Fld := ⟨0x4814, 0, 1, 1⟩
def USB_ERRCNT_BLKERR : Fld := ⟨0x4818, 16, 16, 0⟩
def USB_ERRCNT_REJ : Fld := ⟨0x4818, 0, 16, 0⟩
def USB_CGRP_GRP : Fld := ⟨0x481C, 0, 4, 0xF⟩
def USB_CFG_CSXWR : Fld := ⟨0x4820, 31, 1, 0⟩
def USB_CFG_HIDMUTE : Fld := ⟨0x4820, 30, 1, 0⟩
def USB_CFG_AUTOSTART : Fld := ⟨0x4820, 29, 1, 1⟩
def USB_CFG_LPMEN : Fld := ⟨0x4820, 28, 1, 1⟩
def USB_CFG_FSONLY : Fld := ⟨0x4820, 27, 1, 0⟩
def USB_CFG_SUSPMODE : Fld := ⟨0x4820, 24, 2, 0⟩
def USB_FRAMENUM_FN : Fld := ⟨0x4824, 0, 14, 0⟩

/-! Page USBD. -/
def USBD_ID_TYPE : Fld := ⟨0x4900, 24, 8, 0⟩
def USBD_ID_INST : Fld := ⟨0x4900, 16, 8, 0⟩
def USBD_ID_MAJOR : Fld := ⟨0x4900, 8, 8, 1⟩
def USBD_ID_MINOR : Fld := ⟨0x4900, 0, 8, 0⟩
def USBD_CTRL_SRST : Fld := ⟨0x4904, 1, 1, 0⟩
def USBD_CTRL_EN : Fld := ⟨0x4904, 0, 1, 0⟩
def USBD_STAT_ALTIN : Fld := ⟨0x4908, 4, 4, 0⟩
def USBD_STAT_ALTOUT : Fld := ⟨0x4908, 0, 4, 0⟩
def USBD_IFLG_HIDOUT : Fld := ⟨0x490C, 2, 1, 0⟩
def USBD_IFLG_SEQFAIL : Fld := ⟨0x490C, 1, 1, 0⟩
def USBD_IFLG_FBCLAMP : Fld := ⟨0x490C, 0, 1, 0⟩
def USBD_IEN_HIDOUT : Fld := ⟨0x4910, 2, 1, 0⟩
def USBD_IEN_SEQFAIL : Fld := ⟨0x4910, 1, 1, 0⟩
def USBD_IEN_FBCLAMP : Fld := ⟨0x4910, 0, 1, 0⟩
def USBD_OWNER_ENG : Fld := ⟨0x4914, 3, 1, 1⟩
def USBD_OWNER_RZ : Fld := ⟨0x4914, 2, 1, 1⟩
def USBD_OWNER_USB : Fld := ⟨0x4914, 1, 1, 1⟩
def USBD_OWNER_CTL : Fld := ⟨0x4914, 0, 1, 1⟩
def USBD_ERRCNT_BLKERR : Fld := ⟨0x4918, 16, 16, 0⟩
def USBD_ERRCNT_REJ : Fld := ⟨0x4918, 0, 16, 0⟩
def USBD_CGRP_GRP : Fld := ⟨0x491C, 0, 4, 0xF⟩
def USBD_ALTOUT_CTX (k : Nat) : Fld := ⟨0x4920 + 4 * k, 0, 32, 0⟩
def USBD_ALTIN_CTX (k : Nat) : Fld := ⟨0x4928 + 4 * k, 0, 32, 0⟩
def USBD_CSMAP_CS8 : Fld := ⟨0x4930, 28, 4, 0xF⟩
def USBD_CSMAP_CS7 : Fld := ⟨0x4930, 24, 4, 0xF⟩
def USBD_CSMAP_CS6 : Fld := ⟨0x4930, 20, 4, 0xF⟩
def USBD_CSMAP_CS5 : Fld := ⟨0x4930, 16, 4, 0xF⟩
def USBD_CSMAP_CS4 : Fld := ⟨0x4930, 12, 4, 0xF⟩
def USBD_CSMAP_CS3 : Fld := ⟨0x4930, 8, 4, 0xF⟩
def USBD_CSMAP_CS2 : Fld := ⟨0x4930, 4, 4, 0xF⟩
def USBD_CSMAP_CS1 : Fld := ⟨0x4930, 0, 4, 0xF⟩
def USBD_SAMFREQ_RATE : Fld := ⟨0x4934, 0, 32, 0xBB80⟩
def USBD_FB_FB : Fld := ⟨0x4938, 0, 32, 0⟩
def USBD_FUSEL_FU : Fld := ⟨0x493C, 8, 1, 0⟩
def USBD_FUSEL_CH : Fld := ⟨0x493C, 0, 6, 1⟩
def USBD_FUMAP_EN : Fld := ⟨0x4940, 31, 1, 0⟩
def USBD_FUMAP_ENTRY : Fld := ⟨0x4940, 0, 14, 0⟩
def USBD_FUVAL_VOL : Fld := ⟨0x4944, 16, 16, 0⟩
def USBD_FUVAL_MUTE : Fld := ⟨0x4944, 0, 1, 0⟩
def USBD_HIDSW_BTN : Fld := ⟨0x4948, 0, 6, 0⟩
def USBD_HIDIN_BTN : Fld := ⟨0x494C, 0, 6, 0⟩
def USBD_HIDOUT_LED : Fld := ⟨0x4950, 0, 3, 0⟩

/-! Page RZ. -/
def RZ_ID_TYPE : Fld := ⟨0x5000, 24, 8, 0⟩
def RZ_ID_INST : Fld := ⟨0x5000, 16, 8, 0⟩
def RZ_ID_MAJOR : Fld := ⟨0x5000, 8, 8, 1⟩
def RZ_ID_MINOR : Fld := ⟨0x5000, 0, 8, 0⟩
def RZ_CTRL_SRST : Fld := ⟨0x5004, 1, 1, 0⟩
def RZ_CTRL_EN : Fld := ⟨0x5004, 0, 1, 0⟩
def RZ_STAT_ROLE : Fld := ⟨0x5008, 29, 3, 0⟩
def RZ_STAT_TRACK : Fld := ⟨0x5008, 28, 1, 0⟩
def RZ_STAT_ALIGN : Fld := ⟨0x5008, 27, 1, 0⟩
def RZ_STAT_ADOPTWAIT : Fld := ⟨0x5008, 26, 1, 0⟩
def RZ_STAT_MAPOK : Fld := ⟨0x5008, 25, 1, 0⟩
def RZ_STAT_BRANCHED : Fld := ⟨0x5008, 24, 1, 0⟩
def RZ_STAT_UPB : Fld := ⟨0x5008, 23, 1, 0⟩
def RZ_STAT_FOLD : Fld := ⟨0x5008, 22, 1, 0⟩
def RZ_STAT_LOCKB : Fld := ⟨0x5008, 21, 1, 0⟩
def RZ_STAT_LOCKA : Fld := ⟨0x5008, 20, 1, 0⟩
def RZ_STAT_HOPS : Fld := ⟨0x5008, 10, 10, 0⟩
def RZ_STAT_ADDR : Fld := ⟨0x5008, 0, 10, 0⟩
def RZ_IFLG_MASTERCONF : Fld := ⟨0x500C, 10, 1, 0⟩
def RZ_IFLG_PRESLOW : Fld := ⟨0x500C, 9, 1, 0⟩
def RZ_IFLG_WAKEEVT : Fld := ⟨0x500C, 8, 1, 0⟩
def RZ_IFLG_FWDDONE : Fld := ⟨0x500C, 7, 1, 0⟩
def RZ_IFLG_CREDITFLT : Fld := ⟨0x500C, 6, 1, 0⟩
def RZ_IFLG_MAPERR : Fld := ⟨0x500C, 5, 1, 0⟩
def RZ_IFLG_ALIGN : Fld := ⟨0x500C, 4, 1, 0⟩
def RZ_IFLG_FAILOVER : Fld := ⟨0x500C, 3, 1, 0⟩
def RZ_IFLG_HEAL : Fld := ⟨0x500C, 2, 1, 0⟩
def RZ_IFLG_LOCKLOSS : Fld := ⟨0x500C, 1, 1, 0⟩
def RZ_IFLG_LOCK : Fld := ⟨0x500C, 0, 1, 0⟩
def RZ_IEN_MASTERCONF : Fld := ⟨0x5010, 10, 1, 0⟩
def RZ_IEN_PRESLOW : Fld := ⟨0x5010, 9, 1, 0⟩
def RZ_IEN_WAKEEVT : Fld := ⟨0x5010, 8, 1, 0⟩
def RZ_IEN_FWDDONE : Fld := ⟨0x5010, 7, 1, 0⟩
def RZ_IEN_CREDITFLT : Fld := ⟨0x5010, 6, 1, 0⟩
def RZ_IEN_MAPERR : Fld := ⟨0x5010, 5, 1, 0⟩
def RZ_IEN_ALIGN : Fld := ⟨0x5010, 4, 1, 0⟩
def RZ_IEN_FAILOVER : Fld := ⟨0x5010, 3, 1, 0⟩
def RZ_IEN_HEAL : Fld := ⟨0x5010, 2, 1, 0⟩
def RZ_IEN_LOCKLOSS : Fld := ⟨0x5010, 1, 1, 0⟩
def RZ_IEN_LOCK : Fld := ⟨0x5010, 0, 1, 0⟩
def RZ_OWNER_ENG : Fld := ⟨0x5014, 3, 1, 1⟩
def RZ_OWNER_RZ : Fld := ⟨0x5014, 2, 1, 1⟩
def RZ_OWNER_USB : Fld := ⟨0x5014, 1, 1, 1⟩
def RZ_OWNER_CTL : Fld := ⟨0x5014, 0, 1, 1⟩
def RZ_ERRCNT_BLKERR : Fld := ⟨0x5018, 16, 16, 0⟩
def RZ_ERRCNT_REJ : Fld := ⟨0x5018, 0, 16, 0⟩
def RZ_CGRP_GRP : Fld := ⟨0x501C, 0, 4, 0xF⟩
def RZ_CFG_DOMAIN : Fld := ⟨0x5020, 16, 16, 0⟩
def RZ_CFG_ADDRNV : Fld := ⟨0x5020, 15, 1, 0⟩
def RZ_CFG_ROLE : Fld := ⟨0x5020, 13, 2, 0⟩
def RZ_CFG_RRSTEN : Fld := ⟨0x5020, 12, 1, 0⟩
def RZ_CFG_ADDR : Fld := ⟨0x5020, 0, 10, 0⟩
def RZ_PRES_PRESD : Fld := ⟨0x5024, 16, 16, 0⟩
def RZ_PRES_PRESMIN : Fld := ⟨0x5024, 0, 16, 0⟩
def RZ_CMD_ACTION : Fld := ⟨0x5028, 29, 3, 0⟩
def RZ_CMD_ADDR : Fld := ⟨0x5028, 0, 10, 0⟩
def RZ_MIDXLO_V : Fld := ⟨0x502C, 0, 32, 0⟩
def RZ_MIDXHI_V : Fld := ⟨0x5030, 0, 32, 0⟩
def RZ_DOUT_V : Fld := ⟨0x5034, 0, 32, 0⟩
def RZ_CIRC_V : Fld := ⟨0x5038, 0, 32, 0⟩
def RZ_HOPDLY_DLY (k : Nat) : Fld := ⟨0x503C + 4 * k, 0, 32, 0⟩
def RZ_CRED_ISSUED (k : Nat) : Fld := ⟨0x5044 + 8 * k, 16, 16, 0⟩
def RZ_CRED_RETURNED (k : Nat) : Fld := ⟨0x5044 + 8 * k, 0, 16, 0⟩
def RZ_LINK_INFLIGHT (k : Nat) : Fld := ⟨0x5048 + 8 * k, 24, 8, 0⟩
def RZ_LINK_RESYNCS (k : Nat) : Fld := ⟨0x5048 + 8 * k, 16, 8, 0⟩
def RZ_LINK_CRCERR (k : Nat) : Fld := ⟨0x5048 + 8 * k, 0, 16, 0⟩
def RZ_FWDCFG_BCAST : Fld := ⟨0x5054, 0, 1, 0⟩
def RZ_FWDSTAT_DONE : Fld := ⟨0x5058, 31, 1, 0⟩
def RZ_FWDSTAT_STATUS : Fld := ⟨0x5058, 28, 3, 0⟩
def RZ_FWDSTAT_REASON : Fld := ⟨0x5058, 24, 4, 0⟩
def RZ_FWDSTAT_LEN : Fld := ⟨0x5058, 0, 13, 0⟩
def RZ_EVSRC_VALID : Fld := ⟨0x505C, 31, 1, 0⟩
def RZ_EVSRC_ADDR : Fld := ⟨0x505C, 0, 10, 0⟩
def RZ_DOMINFO_BKVALID : Fld := ⟨0x5060, 31, 1, 0⟩
def RZ_DOMINFO_MADDR : Fld := ⟨0x5060, 16, 10, 0⟩
def RZ_DOMINFO_BKADDR : Fld := ⟨0x5060, 0, 10, 0⟩
def RZ_LATE_COUNT : Fld := ⟨0x5064, 0, 32, 0⟩
def RZ_PHY_SWING : Fld := ⟨0x5068, 2, 2, 1⟩
def RZ_PHY_EQ : Fld := ⟨0x5068, 0, 2, 0⟩

/-! Page RZSLOT. -/
def RZSLOT_ID_TYPE : Fld := ⟨0x5100, 24, 8, 0⟩
def RZSLOT_ID_INST : Fld := ⟨0x5100, 16, 8, 0⟩
def RZSLOT_ID_MAJOR : Fld := ⟨0x5100, 8, 8, 1⟩
def RZSLOT_ID_MINOR : Fld := ⟨0x5100, 0, 8, 0⟩
def RZSLOT_CTRL_SRST : Fld := ⟨0x5104, 1, 1, 0⟩
def RZSLOT_CTRL_EN : Fld := ⟨0x5104, 0, 1, 0⟩
def RZSLOT_STAT_OWNED : Fld := ⟨0x5108, 16, 10, 0⟩
def RZSLOT_STAT_PENDING : Fld := ⟨0x5108, 0, 10, 0⟩
def RZSLOT_IFLG_LOST : Fld := ⟨0x510C, 2, 1, 0⟩
def RZSLOT_IFLG_REFUSED : Fld := ⟨0x510C, 1, 1, 0⟩
def RZSLOT_IFLG_GRANTED : Fld := ⟨0x510C, 0, 1, 0⟩
def RZSLOT_IEN_LOST : Fld := ⟨0x5110, 2, 1, 0⟩
def RZSLOT_IEN_REFUSED : Fld := ⟨0x5110, 1, 1, 0⟩
def RZSLOT_IEN_GRANTED : Fld := ⟨0x5110, 0, 1, 0⟩
def RZSLOT_OWNER_ENG : Fld := ⟨0x5114, 3, 1, 1⟩
def RZSLOT_OWNER_RZ : Fld := ⟨0x5114, 2, 1, 1⟩
def RZSLOT_OWNER_USB : Fld := ⟨0x5114, 1, 1, 1⟩
def RZSLOT_OWNER_CTL : Fld := ⟨0x5114, 0, 1, 1⟩
def RZSLOT_ERRCNT_BLKERR : Fld := ⟨0x5118, 16, 16, 0⟩
def RZSLOT_ERRCNT_REJ : Fld := ⟨0x5118, 0, 16, 0⟩
def RZSLOT_CGRP_GRP : Fld := ⟨0x511C, 0, 4, 0xF⟩
def RZSLOT_MAPCRC_HDR : Fld := ⟨0x5120, 16, 16, 0⟩
def RZSLOT_MAPCRC_LOCAL : Fld := ⟨0x5120, 0, 16, 0⟩

/-! Page LICH. -/
def LICH_ID_TYPE : Fld := ⟨0x5800, 24, 8, 0⟩
def LICH_ID_INST : Fld := ⟨0x5800, 16, 8, 0⟩
def LICH_ID_MAJOR : Fld := ⟨0x5800, 8, 8, 1⟩
def LICH_ID_MINOR : Fld := ⟨0x5800, 0, 8, 0⟩
def LICH_CTRL_CAL : Fld := ⟨0x5804, 2, 1, 0⟩
def LICH_CTRL_SRST : Fld := ⟨0x5804, 1, 1, 0⟩
def LICH_CTRL_EN : Fld := ⟨0x5804, 0, 1, 0⟩
def LICH_STAT_CALPEND : Fld := ⟨0x5808, 5, 1, 0⟩
def LICH_STAT_CALBUSY : Fld := ⟨0x5808, 4, 1, 0⟩
def LICH_STAT_PLAUSFLT : Fld := ⟨0x5808, 3, 1, 0⟩
def LICH_STAT_QDEPTH : Fld := ⟨0x5808, 0, 3, 0⟩
def LICH_IFLG_TMRMISS : Fld := ⟨0x580C, 5, 1, 0⟩
def LICH_IFLG_PLAUS : Fld := ⟨0x580C, 4, 1, 0⟩
def LICH_IFLG_CALDONE : Fld := ⟨0x580C, 3, 1, 0⟩
def LICH_IFLG_INJDONE : Fld := ⟨0x580C, 2, 1, 0⟩
def LICH_IFLG_SEQB : Fld := ⟨0x580C, 1, 1, 0⟩
def LICH_IFLG_SEQA : Fld := ⟨0x580C, 0, 1, 0⟩
def LICH_IEN_TMRMISS : Fld := ⟨0x5810, 5, 1, 0⟩
def LICH_IEN_PLAUS : Fld := ⟨0x5810, 4, 1, 0⟩
def LICH_IEN_CALDONE : Fld := ⟨0x5810, 3, 1, 0⟩
def LICH_IEN_INJDONE : Fld := ⟨0x5810, 2, 1, 0⟩
def LICH_IEN_SEQB : Fld := ⟨0x5810, 1, 1, 0⟩
def LICH_IEN_SEQA : Fld := ⟨0x5810, 0, 1, 0⟩
def LICH_OWNER_ENG : Fld := ⟨0x5814, 3, 1, 1⟩
def LICH_OWNER_RZ : Fld := ⟨0x5814, 2, 1, 1⟩
def LICH_OWNER_USB : Fld := ⟨0x5814, 1, 1, 1⟩
def LICH_OWNER_CTL : Fld := ⟨0x5814, 0, 1, 1⟩
def LICH_ERRCNT_BLKERR : Fld := ⟨0x5818, 16, 16, 0⟩
def LICH_ERRCNT_REJ : Fld := ⟨0x5818, 0, 16, 0⟩
def LICH_CGRP_GRP : Fld := ⟨0x581C, 0, 4, 0xF⟩
def LICH_SEQCFG_EN (k : Nat) : Fld := ⟨0x5820 + 4 * k, 31, 1, 0⟩
def LICH_SEQCFG_LEN (k : Nat) : Fld := ⟨0x5820 + 4 * k, 16, 4, 0⟩
def LICH_SEQCFG_PERIOD (k : Nat) : Fld := ⟨0x5820 + 4 * k, 0, 16, 0⟩
def LICH_SEQA_RATIO (k : Nat) : Fld := ⟨0x5828 + 4 * k, 31, 1, 0⟩
def LICH_SEQA_CH (k : Nat) : Fld := ⟨0x5828 + 4 * k, 24, 5, 0⟩
def LICH_SEQA_SHIFT (k : Nat) : Fld := ⟨0x5828 + 4 * k, 16, 4, 4⟩
def LICH_SEQA_AVG (k : Nat) : Fld := ⟨0x5828 + 4 * k, 0, 4, 4⟩
def LICH_SEQB_RATIO (k : Nat) : Fld := ⟨0x5868 + 4 * k, 31, 1, 0⟩
def LICH_SEQB_CH (k : Nat) : Fld := ⟨0x5868 + 4 * k, 24, 5, 0⟩
def LICH_SEQB_SHIFT (k : Nat) : Fld := ⟨0x5868 + 4 * k, 16, 4, 4⟩
def LICH_SEQB_AVG (k : Nat) : Fld := ⟨0x5868 + 4 * k, 0, 4, 4⟩
def LICH_INJCFG_RATIO (k : Nat) : Fld := ⟨0x58A8 + 4 * k, 31, 1, 0⟩
def LICH_INJCFG_CONV (k : Nat) : Fld := ⟨0x58A8 + 4 * k, 30, 1, 0⟩
def LICH_INJCFG_CH (k : Nat) : Fld := ⟨0x58A8 + 4 * k, 24, 5, 0⟩
def LICH_INJCFG_SHIFT (k : Nat) : Fld := ⟨0x58A8 + 4 * k, 16, 4, 4⟩
def LICH_INJCFG_AVG (k : Nat) : Fld := ⟨0x58A8 + 4 * k, 0, 4, 4⟩
def LICH_INJTMR_PERIOD : Fld := ⟨0x58B8, 0, 16, 0⟩
def LICH_INJSW_GO : Fld := ⟨0x58BC, 0, 1, 0⟩
def LICH_PLAUSCFG_EN : Fld := ⟨0x58C0, 31, 1, 1⟩
def LICH_PLAUSCFG_CDSAFE : Fld := ⟨0x58C0, 30, 1, 0⟩
def LICH_PLAUSCFG_CH : Fld := ⟨0x58C0, 24, 5, 2⟩
def LICH_PLAUSCFG_PERIOD : Fld := ⟨0x58C0, 16, 8, 0xA⟩
def LICH_PLAUSCFG_AVG : Fld := ⟨0x58C0, 12, 4, 4⟩
def LICH_PLAUSCFG_LSB : Fld := ⟨0x58C0, 0, 12, 0x10⟩
def LICH_CDRBSEL_CD : Fld := ⟨0x58C4, 0, 3, 0⟩
def LICH_TTRIM_TOFF (k : Nat) : Fld := ⟨0x58C8 + 4 * k, 16, 16, 0⟩
def LICH_TTRIM_TGAIN (k : Nat) : Fld := ⟨0x58C8 + 4 * k, 0, 16, 0⟩
def LICH_EVCNT_TMRMISS : Fld := ⟨0x58D0, 16, 16, 0⟩
def LICH_EVCNT_CALS : Fld := ⟨0x58D0, 0, 16, 0⟩

/-! Page LICHR. -/
def LICHR_ID_TYPE : Fld := ⟨0x5900, 24, 8, 0⟩
def LICHR_ID_INST : Fld := ⟨0x5900, 16, 8, 0⟩
def LICHR_ID_MAJOR : Fld := ⟨0x5900, 8, 8, 1⟩
def LICHR_ID_MINOR : Fld := ⟨0x5900, 0, 8, 0⟩
def LICHR_CTRL_SRST : Fld := ⟨0x5904, 1, 1, 0⟩
def LICHR_CTRL_EN : Fld := ⟨0x5904, 0, 1, 1⟩
def LICHR_IFLG_FLAGS : Fld := ⟨0x590C, 0, 32, 0⟩
def LICHR_IEN_EN : Fld := ⟨0x5910, 0, 32, 0⟩
def LICHR_OWNER_ENG : Fld := ⟨0x5914, 3, 1, 1⟩
def LICHR_OWNER_RZ : Fld := ⟨0x5914, 2, 1, 1⟩
def LICHR_OWNER_USB : Fld := ⟨0x5914, 1, 1, 1⟩
def LICHR_OWNER_CTL : Fld := ⟨0x5914, 0, 1, 1⟩
def LICHR_ERRCNT_BLKERR : Fld := ⟨0x5918, 16, 16, 0⟩
def LICHR_ERRCNT_REJ : Fld := ⟨0x5918, 0, 16, 0⟩
def LICHR_CGRP_GRP : Fld := ⟨0x591C, 0, 4, 0xF⟩
def LICHR_RESA_NEW (k : Nat) : Fld := ⟨0x5920 + 4 * k, 31, 1, 0⟩
def LICHR_RESA_OVR (k : Nat) : Fld := ⟨0x5920 + 4 * k, 30, 1, 0⟩
def LICHR_RESA_RATIO (k : Nat) : Fld := ⟨0x5920 + 4 * k, 29, 1, 0⟩
def LICHR_RESA_CH (k : Nat) : Fld := ⟨0x5920 + 4 * k, 24, 5, 0⟩
def LICHR_RESA_DATA (k : Nat) : Fld := ⟨0x5920 + 4 * k, 0, 24, 0⟩
def LICHR_RESB_NEW (k : Nat) : Fld := ⟨0x5960 + 4 * k, 31, 1, 0⟩
def LICHR_RESB_OVR (k : Nat) : Fld := ⟨0x5960 + 4 * k, 30, 1, 0⟩
def LICHR_RESB_RATIO (k : Nat) : Fld := ⟨0x5960 + 4 * k, 29, 1, 0⟩
def LICHR_RESB_CH (k : Nat) : Fld := ⟨0x5960 + 4 * k, 24, 5, 0⟩
def LICHR_RESB_DATA (k : Nat) : Fld := ⟨0x5960 + 4 * k, 0, 24, 0⟩
def LICHR_INJ_NEW (k : Nat) : Fld := ⟨0x59A0 + 4 * k, 31, 1, 0⟩
def LICHR_INJ_OVR (k : Nat) : Fld := ⟨0x59A0 + 4 * k, 30, 1, 0⟩
def LICHR_INJ_RATIO (k : Nat) : Fld := ⟨0x59A0 + 4 * k, 29, 1, 0⟩
def LICHR_INJ_CH (k : Nat) : Fld := ⟨0x59A0 + 4 * k, 24, 5, 0⟩
def LICHR_INJ_DATA (k : Nat) : Fld := ⟨0x59A0 + 4 * k, 0, 24, 0⟩
def LICHR_PLAUS_NEW (k : Nat) : Fld := ⟨0x59B0 + 4 * k, 31, 1, 0⟩
def LICHR_PLAUS_OVR (k : Nat) : Fld := ⟨0x59B0 + 4 * k, 30, 1, 0⟩
def LICHR_PLAUS_RATIO (k : Nat) : Fld := ⟨0x59B0 + 4 * k, 29, 1, 0⟩
def LICHR_PLAUS_CH (k : Nat) : Fld := ⟨0x59B0 + 4 * k, 24, 5, 0⟩
def LICHR_PLAUS_DATA (k : Nat) : Fld := ⟨0x59B0 + 4 * k, 0, 24, 0⟩

/-! Page CDAC. -/
def CDAC_ID_TYPE : Fld := ⟨0x5C00, 24, 8, 0⟩
def CDAC_ID_INST : Fld := ⟨0x5C00, 16, 8, 0⟩
def CDAC_ID_MAJOR : Fld := ⟨0x5C00, 8, 8, 1⟩
def CDAC_ID_MINOR : Fld := ⟨0x5C00, 0, 8, 0⟩
def CDAC_CTRL_SAFECLR : Fld := ⟨0x5C04, 3, 1, 0⟩
def CDAC_CTRL_FORCESAFE : Fld := ⟨0x5C04, 2, 1, 0⟩
def CDAC_CTRL_SRST : Fld := ⟨0x5C04, 1, 1, 0⟩
def CDAC_CTRL_EN : Fld := ⟨0x5C04, 0, 1, 0⟩
def CDAC_STAT_SAFE : Fld := ⟨0x5C08, 28, 4, 0⟩
def CDAC_STAT_IND : Fld := ⟨0x5C08, 24, 2, 0⟩
def CDAC_STAT_COMPF : Fld := ⟨0x5C08, 16, 8, 0⟩
def CDAC_STAT_OCF : Fld := ⟨0x5C08, 8, 8, 0⟩
def CDAC_STAT_SLEWING : Fld := ⟨0x5C08, 0, 8, 0⟩
def CDAC_IFLG_PTLATE : Fld := ⟨0x5C0C, 5, 1, 0⟩
def CDAC_IFLG_PTFIRE : Fld := ⟨0x5C0C, 4, 1, 0⟩
def CDAC_IFLG_SAFE : Fld := ⟨0x5C0C, 3, 1, 0⟩
def CDAC_IFLG_PUDONE : Fld := ⟨0x5C0C, 2, 1, 0⟩
def CDAC_IFLG_OC : Fld := ⟨0x5C0C, 1, 1, 0⟩
def CDAC_IFLG_COMP : Fld := ⟨0x5C0C, 0, 1, 0⟩
def CDAC_IEN_PTLATE : Fld := ⟨0x5C10, 5, 1, 0⟩
def CDAC_IEN_PTFIRE : Fld := ⟨0x5C10, 4, 1, 0⟩
def CDAC_IEN_SAFE : Fld := ⟨0x5C10, 3, 1, 0⟩
def CDAC_IEN_PUDONE : Fld := ⟨0x5C10, 2, 1, 0⟩
def CDAC_IEN_OC : Fld := ⟨0x5C10, 1, 1, 0⟩
def CDAC_IEN_COMP : Fld := ⟨0x5C10, 0, 1, 0⟩
def CDAC_OWNER_ENG : Fld := ⟨0x5C14, 3, 1, 1⟩
def CDAC_OWNER_RZ : Fld := ⟨0x5C14, 2, 1, 1⟩
def CDAC_OWNER_USB : Fld := ⟨0x5C14, 1, 1, 1⟩
def CDAC_OWNER_CTL : Fld := ⟨0x5C14, 0, 1, 1⟩
def CDAC_ERRCNT_BLKERR : Fld := ⟨0x5C18, 16, 16, 0⟩
def CDAC_ERRCNT_REJ : Fld := ⟨0x5C18, 0, 16, 0⟩
def CDAC_CGRP_GRP : Fld := ⟨0x5C1C, 0, 4, 0xF⟩
def CDAC_IN_MODE (k : Nat) : Fld := ⟨0x5C20 + 16 * k, 31, 1, 0⟩
def CDAC_IN_GAIN (k : Nat) : Fld := ⟨0x5C20 + 16 * k, 30, 1, 0⟩
def CDAC_IN_CODE (k : Nat) : Fld := ⟨0x5C20 + 16 * k, 0, 14, 0⟩
def CDAC_CFG_LDSRC (k : Nat) : Fld := ⟨0x5C24 + 16 * k, 29, 3, 0⟩
def CDAC_CFG_SLEWEN (k : Nat) : Fld := ⟨0x5C24 + 16 * k, 28, 1, 0⟩
def CDAC_CFG_STEP (k : Nat) : Fld := ⟨0x5C24 + 16 * k, 16, 10, 0⟩
def CDAC_CFG_TICK (k : Nat) : Fld := ⟨0x5C24 + 16 * k, 0, 14, 1⟩
def CDAC_OUT_MODE (k : Nat) : Fld := ⟨0x5C28 + 16 * k, 31, 1, 0⟩
def CDAC_OUT_GAIN (k : Nat) : Fld := ⟨0x5C28 + 16 * k, 30, 1, 0⟩
def CDAC_OUT_CODE (k : Nat) : Fld := ⟨0x5C28 + 16 * k, 0, 14, 0⟩
def CDAC_NOW_VALUE (k : Nat) : Fld := ⟨0x5C2C + 16 * k, 0, 15, 0⟩
def CDAC_PU_MODE (k : Nat) : Fld := ⟨0x5CA0 + 4 * k, 31, 1, 0⟩
def CDAC_PU_GAIN (k : Nat) : Fld := ⟨0x5CA0 + 4 * k, 30, 1, 0⟩
def CDAC_PU_CODE (k : Nat) : Fld := ⟨0x5CA0 + 4 * k, 0, 14, 0⟩
def CDAC_SAFE_MODE (k : Nat) : Fld := ⟨0x5CC0 + 4 * k, 31, 1, 0⟩
def CDAC_SAFE_GAIN (k : Nat) : Fld := ⟨0x5CC0 + 4 * k, 30, 1, 0⟩
def CDAC_SAFE_CODE (k : Nat) : Fld := ⟨0x5CC0 + 4 * k, 0, 14, 0⟩
def CDAC_LOAD_MASK : Fld := ⟨0x5CE0, 0, 8, 0⟩
def CDAC_PTCTL_ARMED : Fld := ⟨0x5CE4, 31, 1, 0⟩
def CDAC_PTCTL_DISARM : Fld := ⟨0x5CE4, 1, 1, 0⟩
def CDAC_PTCTL_ARM : Fld := ⟨0x5CE4, 0, 1, 0⟩
def CDAC_PTIDX_IDX (k : Nat) : Fld := ⟨0x5CE8 + 4 * k, 0, 32, 0⟩
def CDAC_STRCFG_SUB : Fld := ⟨0x5CF0, 0, 6, 1⟩
def CDAC_EVCNT_SAFE : Fld := ⟨0x5CF4, 24, 8, 0⟩
def CDAC_EVCNT_PTLATE : Fld := ⟨0x5CF4, 16, 8, 0⟩
def CDAC_EVCNT_COMP : Fld := ⟨0x5CF4, 8, 8, 0⟩
def CDAC_EVCNT_OC : Fld := ⟨0x5CF4, 0, 8, 0⟩

/-! Page CBUS. -/
def CBUS_ID_TYPE : Fld := ⟨0x6000, 24, 8, 0⟩
def CBUS_ID_INST : Fld := ⟨0x6000, 16, 8, 0⟩
def CBUS_ID_MAJOR : Fld := ⟨0x6000, 8, 8, 1⟩
def CBUS_ID_MINOR : Fld := ⟨0x6000, 0, 8, 0⟩
def CBUS_CTRL_SRST : Fld := ⟨0x6004, 1, 1, 0⟩
def CBUS_CTRL_EN : Fld := ⟨0x6004, 0, 1, 1⟩
def CBUS_STAT_STRAP : Fld := ⟨0x6008, 16, 4, 0⟩
def CBUS_STAT_ACTIVE : Fld := ⟨0x6008, 8, 7, 0x30⟩
def CBUS_STAT_BUSBUSY : Fld := ⟨0x6008, 5, 1, 0⟩
def CBUS_STAT_PENDING : Fld := ⟨0x6008, 4, 1, 0⟩
def CBUS_STAT_PROBING : Fld := ⟨0x6008, 3, 1, 0⟩
def CBUS_STAT_NOADDR : Fld := ⟨0x6008, 2, 1, 0⟩
def CBUS_STAT_ALTACT : Fld := ⟨0x6008, 1, 1, 0⟩
def CBUS_STAT_ADDRCONF : Fld := ⟨0x6008, 0, 1, 0⟩
def CBUS_IFLG_TIMEOUT : Fld := ⟨0x600C, 4, 1, 0⟩
def CBUS_IFLG_LATEREJ : Fld := ⟨0x600C, 3, 1, 0⟩
def CBUS_IFLG_ABORT : Fld := ⟨0x600C, 2, 1, 0⟩
def CBUS_IFLG_CMDERR : Fld := ⟨0x600C, 1, 1, 0⟩
def CBUS_IFLG_ADDRCONF : Fld := ⟨0x600C, 0, 1, 0⟩
def CBUS_IEN_TIMEOUT : Fld := ⟨0x6010, 4, 1, 0⟩
def CBUS_IEN_LATEREJ : Fld := ⟨0x6010, 3, 1, 0⟩
def CBUS_IEN_ABORT : Fld := ⟨0x6010, 2, 1, 0⟩
def CBUS_IEN_CMDERR : Fld := ⟨0x6010, 1, 1, 0⟩
def CBUS_IEN_ADDRCONF : Fld := ⟨0x6010, 0, 1, 0⟩
def CBUS_OWNER_ENG : Fld := ⟨0x6014, 3, 1, 1⟩
def CBUS_OWNER_RZ : Fld := ⟨0x6014, 2, 1, 1⟩
def CBUS_OWNER_USB : Fld := ⟨0x6014, 1, 1, 1⟩
def CBUS_OWNER_CTL : Fld := ⟨0x6014, 0, 1, 1⟩
def CBUS_ERRCNT_BLKERR : Fld := ⟨0x6018, 16, 16, 0⟩
def CBUS_ERRCNT_REJ : Fld := ⟨0x6018, 0, 16, 0⟩
def CBUS_CGRP_GRP : Fld := ⟨0x601C, 0, 4, 0xF⟩
def CBUS_ADDRCFG_NVADDR : Fld := ⟨0x6020, 31, 1, 0⟩
def CBUS_ADDRCFG_ALTEN : Fld := ⟨0x6020, 30, 1, 0⟩
def CBUS_ADDRCFG_ALT : Fld := ⟨0x6020, 16, 7, 0⟩
def CBUS_ADDRCFG_ADDR : Fld := ⟨0x6020, 0, 7, 0x30⟩
def CBUS_CFG_TOEN : Fld := ⟨0x6024, 3, 1, 1⟩
def CBUS_CFG_ARAEN : Fld := ⟨0x6024, 2, 1, 1⟩
def CBUS_CFG_PECREQ : Fld := ⟨0x6024, 1, 1, 0⟩
def CBUS_LASTRES_REASON : Fld := ⟨0x6028, 12, 4, 0⟩
def CBUS_LASTRES_RESULT : Fld := ⟨0x6028, 8, 4, 0⟩
def CBUS_LASTRES_CMD : Fld := ⟨0x6028, 0, 8, 0⟩
def CBUS_PKTCNT_NOTAPPL : Fld := ⟨0x602C, 16, 16, 0⟩
def CBUS_PKTCNT_APPLIED : Fld := ⟨0x602C, 0, 16, 0⟩
def CBUS_EVCNT_TIMEOUTS : Fld := ⟨0x6030, 24, 8, 0⟩
def CBUS_EVCNT_PECERR : Fld := ⟨0x6030, 16, 8, 0⟩
def CBUS_EVCNT_ABORTS : Fld := ⟨0x6030, 0, 16, 0⟩

/-! Page AUXB. -/
def AUXB_ID_TYPE : Fld := ⟨0x6100, 24, 8, 0⟩
def AUXB_ID_INST : Fld := ⟨0x6100, 16, 8, 0⟩
def AUXB_ID_MAJOR : Fld := ⟨0x6100, 8, 8, 1⟩
def AUXB_ID_MINOR : Fld := ⟨0x6100, 0, 8, 0⟩
def AUXB_CTRL_ABORT : Fld := ⟨0x6104, 3, 1, 0⟩
def AUXB_CTRL_GO : Fld := ⟨0x6104, 2, 1, 0⟩
def AUXB_CTRL_SRST : Fld := ⟨0x6104, 1, 1, 0⟩
def AUXB_CTRL_EN : Fld := ⟨0x6104, 0, 1, 0⟩
def AUXB_STAT_AUXSTUCK : Fld := ⟨0x6108, 31, 1, 0⟩
def AUXB_STAT_BUSY : Fld := ⟨0x6108, 30, 1, 0⟩
def AUXB_STAT_BUSBUSY : Fld := ⟨0x6108, 29, 1, 0⟩
def AUXB_STAT_TRIES : Fld := ⟨0x6108, 24, 4, 0⟩
def AUXB_IFLG_PECERR : Fld := ⟨0x610C, 5, 1, 0⟩
def AUXB_IFLG_TIMEOUT : Fld := ⟨0x610C, 4, 1, 0⟩
def AUXB_IFLG_STUCK : Fld := ⟨0x610C, 3, 1, 0⟩
def AUXB_IFLG_ARBFAIL : Fld := ⟨0x610C, 2, 1, 0⟩
def AUXB_IFLG_NACK : Fld := ⟨0x610C, 1, 1, 0⟩
def AUXB_IFLG_DONE : Fld := ⟨0x610C, 0, 1, 0⟩
def AUXB_IEN_PECERR : Fld := ⟨0x6110, 5, 1, 0⟩
def AUXB_IEN_TIMEOUT : Fld := ⟨0x6110, 4, 1, 0⟩
def AUXB_IEN_STUCK : Fld := ⟨0x6110, 3, 1, 0⟩
def AUXB_IEN_ARBFAIL : Fld := ⟨0x6110, 2, 1, 0⟩
def AUXB_IEN_NACK : Fld := ⟨0x6110, 1, 1, 0⟩
def AUXB_IEN_DONE : Fld := ⟨0x6110, 0, 1, 0⟩
def AUXB_OWNER_ENG : Fld := ⟨0x6114, 3, 1, 1⟩
def AUXB_OWNER_RZ : Fld := ⟨0x6114, 2, 1, 1⟩
def AUXB_OWNER_USB : Fld := ⟨0x6114, 1, 1, 1⟩
def AUXB_OWNER_CTL : Fld := ⟨0x6114, 0, 1, 1⟩
def AUXB_ERRCNT_BLKERR : Fld := ⟨0x6118, 16, 16, 0⟩
def AUXB_ERRCNT_REJ : Fld := ⟨0x6118, 0, 16, 0⟩
def AUXB_CGRP_GRP : Fld := ⟨0x611C, 0, 4, 0xF⟩
def AUXB_CFG_SPEED : Fld := ⟨0x6120, 16, 2, 1⟩
def AUXB_CFG_PEC : Fld := ⟨0x6120, 8, 1, 0⟩
def AUXB_CFG_TOEN : Fld := ⟨0x6120, 0, 1, 1⟩
def AUXB_XFER_TADDR : Fld := ⟨0x6124, 24, 7, 0⟩
def AUXB_XFER_WLEN : Fld := ⟨0x6124, 8, 8, 0⟩
def AUXB_XFER_RLEN : Fld := ⟨0x6124, 0, 8, 0⟩
def AUXB_TXFIFO_DATA : Fld := ⟨0x6128, 0, 32, 0⟩
def AUXB_RXFIFO_DATA : Fld := ⟨0x612C, 0, 32, 0⟩
def AUXB_RESULT_NACKPOS : Fld := ⟨0x6130, 8, 8, 0⟩
def AUXB_RESULT_CODE : Fld := ⟨0x6130, 0, 3, 0⟩
def AUXB_LEVEL_RX : Fld := ⟨0x6134, 16, 9, 0⟩
def AUXB_LEVEL_TX : Fld := ⟨0x6134, 0, 9, 0⟩
def AUXB_EVCNT_ARBLOST : Fld := ⟨0x6138, 24, 8, 0⟩
def AUXB_EVCNT_RECOVER : Fld := ⟨0x6138, 16, 8, 0⟩
def AUXB_EVCNT_XFERS : Fld := ⟨0x6138, 0, 16, 0⟩

/-! Page NVM. -/
def NVM_ID_TYPE : Fld := ⟨0x6800, 24, 8, 0⟩
def NVM_ID_INST : Fld := ⟨0x6800, 16, 8, 0⟩
def NVM_ID_MAJOR : Fld := ⟨0x6800, 8, 8, 1⟩
def NVM_ID_MINOR : Fld := ⟨0x6800, 0, 8, 0⟩
def NVM_CTRL_SRST : Fld := ⟨0x6804, 1, 1, 0⟩
def NVM_CTRL_EN : Fld := ⟨0x6804, 0, 1, 0⟩
def NVM_STAT_BUSY : Fld := ⟨0x6808, 31, 1, 0⟩
def NVM_STAT_OP : Fld := ⟨0x6808, 28, 3, 0⟩
def NVM_STAT_VALIDB : Fld := ⟨0x6808, 21, 1, 0⟩
def NVM_STAT_VALIDA : Fld := ⟨0x6808, 20, 1, 0⟩
def NVM_STAT_TGT : Fld := ⟨0x6808, 16, 1, 1⟩
def NVM_IFLG_BOOTSKIP : Fld := ⟨0x680C, 3, 1, 0⟩
def NVM_IFLG_PROGERR : Fld := ⟨0x680C, 2, 1, 0⟩
def NVM_IFLG_OPFAIL : Fld := ⟨0x680C, 1, 1, 0⟩
def NVM_IFLG_OPDONE : Fld := ⟨0x680C, 0, 1, 0⟩
def NVM_IEN_BOOTSKIP : Fld := ⟨0x6810, 3, 1, 0⟩
def NVM_IEN_PROGERR : Fld := ⟨0x6810, 2, 1, 0⟩
def NVM_IEN_OPFAIL : Fld := ⟨0x6810, 1, 1, 0⟩
def NVM_IEN_OPDONE : Fld := ⟨0x6810, 0, 1, 0⟩
def NVM_OWNER_ENG : Fld := ⟨0x6814, 3, 1, 1⟩
def NVM_OWNER_RZ : Fld := ⟨0x6814, 2, 1, 1⟩
def NVM_OWNER_USB : Fld := ⟨0x6814, 1, 1, 1⟩
def NVM_OWNER_CTL : Fld := ⟨0x6814, 0, 1, 1⟩
def NVM_ERRCNT_BLKERR : Fld := ⟨0x6818, 16, 16, 0⟩
def NVM_ERRCNT_REJ : Fld := ⟨0x6818, 0, 16, 0⟩
def NVM_CGRP_GRP : Fld := ⟨0x681C, 0, 4, 0xF⟩
def NVM_CMD_ACTION : Fld := ⟨0x6820, 0, 3, 0⟩
def NVM_PADDR_ADDR : Fld := ⟨0x6824, 0, 19, 0⟩
def NVM_PDATA_DATA : Fld := ⟨0x6828, 0, 32, 0⟩
def NVM_PLEVEL_BYTES : Fld := ⟨0x682C, 0, 13, 0⟩
def NVM_SEQ_SEQ (k : Nat) : Fld := ⟨0x6830 + 4 * k, 0, 32, 0xFFFFFFFF⟩
def NVM_COPY_BANK : Fld := ⟨0x6838, 31, 1, 0⟩
def NVM_COPY_SECT : Fld := ⟨0x6838, 24, 5, 0⟩
def NVM_COPY_DST : Fld := ⟨0x6838, 0, 22, 0⟩
def NVM_CRC_CRC : Fld := ⟨0x683C, 0, 32, 0⟩
def NVM_BOOTSKIP_COUNT : Fld := ⟨0x6840, 0, 16, 0⟩

/-! Page GPIO. -/
def GPIO_ID_TYPE : Fld := ⟨0x6C00, 24, 8, 0⟩
def GPIO_ID_INST : Fld := ⟨0x6C00, 16, 8, 0⟩
def GPIO_ID_MAJOR : Fld := ⟨0x6C00, 8, 8, 1⟩
def GPIO_ID_MINOR : Fld := ⟨0x6C00, 0, 8, 0⟩
def GPIO_CTRL_SRST : Fld := ⟨0x6C04, 1, 1, 0⟩
def GPIO_CTRL_EN : Fld := ⟨0x6C04, 0, 1, 0⟩
def GPIO_STAT_IN : Fld := ⟨0x6C08, 0, 8, 0⟩
def GPIO_IFLG_EDGE : Fld := ⟨0x6C0C, 0, 8, 0⟩
def GPIO_IEN_EDGE : Fld := ⟨0x6C10, 0, 8, 0⟩
def GPIO_OWNER_ENG : Fld := ⟨0x6C14, 3, 1, 1⟩
def GPIO_OWNER_RZ : Fld := ⟨0x6C14, 2, 1, 1⟩
def GPIO_OWNER_USB : Fld := ⟨0x6C14, 1, 1, 1⟩
def GPIO_OWNER_CTL : Fld := ⟨0x6C14, 0, 1, 1⟩
def GPIO_ERRCNT_BLKERR : Fld := ⟨0x6C18, 16, 16, 0⟩
def GPIO_ERRCNT_REJ : Fld := ⟨0x6C18, 0, 16, 0⟩
def GPIO_CGRP_GRP : Fld := ⟨0x6C1C, 0, 4, 0xF⟩
def GPIO_CFG_IRQ (k : Nat) : Fld := ⟨0x6C20 + 4 * k, 12, 2, 0⟩
def GPIO_CFG_PULL (k : Nat) : Fld := ⟨0x6C20 + 4 * k, 8, 2, 2⟩
def GPIO_CFG_MODE (k : Nat) : Fld := ⟨0x6C20 + 4 * k, 4, 2, 0⟩
def GPIO_CFG_DEBEN (k : Nat) : Fld := ⟨0x6C20 + 4 * k, 1, 1, 0⟩
def GPIO_CFG_FUNC (k : Nat) : Fld := ⟨0x6C20 + 4 * k, 0, 1, 0⟩
def GPIO_OUT_OUT : Fld := ⟨0x6C40, 0, 8, 0⟩
def GPIO_SET_SET : Fld := ⟨0x6C44, 0, 8, 0⟩
def GPIO_CLR_CLR : Fld := ⟨0x6C48, 0, 8, 0⟩
def GPIO_STRAPS_ADDR1 : Fld := ⟨0x6C4C, 12, 2, 0⟩
def GPIO_STRAPS_ADDR0 : Fld := ⟨0x6C4C, 8, 2, 0⟩
def GPIO_STRAPS_RZROLE1 : Fld := ⟨0x6C4C, 1, 1, 0⟩
def GPIO_STRAPS_RZROLE0 : Fld := ⟨0x6C4C, 0, 1, 0⟩

/-! Page ACC. -/
def ACC_ID_TYPE : Fld := ⟨0x7000, 24, 8, 0⟩
def ACC_ID_INST : Fld := ⟨0x7000, 16, 8, 0⟩
def ACC_ID_MAJOR : Fld := ⟨0x7000, 8, 8, 1⟩
def ACC_ID_MINOR : Fld := ⟨0x7000, 0, 8, 0⟩
def ACC_CTRL_SRST : Fld := ⟨0x7004, 1, 1, 0⟩
def ACC_CTRL_EN : Fld := ⟨0x7004, 0, 1, 1⟩
def ACC_STAT_HOLD : Fld := ⟨0x7008, 4, 1, 0⟩
def ACC_STAT_PEND : Fld := ⟨0x7008, 0, 4, 0⟩
def ACC_IFLG_RSVACC : Fld := ⟨0x700C, 3, 1, 0⟩
def ACC_IFLG_LATCHMISS : Fld := ⟨0x700C, 2, 1, 0⟩
def ACC_IFLG_WRCONF : Fld := ⟨0x700C, 1, 1, 0⟩
def ACC_IFLG_REJ : Fld := ⟨0x700C, 0, 1, 0⟩
def ACC_IEN_RSVACC : Fld := ⟨0x7010, 3, 1, 0⟩
def ACC_IEN_LATCHMISS : Fld := ⟨0x7010, 2, 1, 0⟩
def ACC_IEN_WRCONF : Fld := ⟨0x7010, 1, 1, 0⟩
def ACC_IEN_REJ : Fld := ⟨0x7010, 0, 1, 0⟩
def ACC_OWNER_ENG : Fld := ⟨0x7014, 3, 1, 1⟩
def ACC_OWNER_RZ : Fld := ⟨0x7014, 2, 1, 1⟩
def ACC_OWNER_USB : Fld := ⟨0x7014, 1, 1, 1⟩
def ACC_OWNER_CTL : Fld := ⟨0x7014, 0, 1, 1⟩
def ACC_ERRCNT_BLKERR : Fld := ⟨0x7018, 16, 16, 0⟩
def ACC_ERRCNT_REJ : Fld := ⟨0x7018, 0, 16, 0⟩
def ACC_CGRP_GRP : Fld := ⟨0x701C, 0, 4, 0xF⟩
def ACC_LASTREJ_VALID : Fld := ⟨0x7020, 31, 1, 0⟩
def ACC_LASTREJ_SRC : Fld := ⟨0x7020, 28, 2, 0⟩
def ACC_LASTREJ_REASON : Fld := ⟨0x7020, 24, 4, 0⟩
def ACC_LASTREJ_ADDR : Fld := ⟨0x7020, 0, 24, 0⟩
def ACC_REJSRC_ENG : Fld := ⟨0x7024, 24, 8, 0⟩
def ACC_REJSRC_RZ : Fld := ⟨0x7024, 16, 8, 0⟩
def ACC_REJSRC_USB : Fld := ⟨0x7024, 8, 8, 0⟩
def ACC_REJSRC_CTL : Fld := ⟨0x7024, 0, 8, 0⟩
def ACC_WRCONFLICT_VALID : Fld := ⟨0x7028, 31, 1, 0⟩
def ACC_WRCONFLICT_LOSER : Fld := ⟨0x7028, 26, 2, 0⟩
def ACC_WRCONFLICT_WINNER : Fld := ⟨0x7028, 24, 2, 0⟩
def ACC_WRCONFLICT_ADDR : Fld := ⟨0x7028, 0, 24, 0⟩
def ACC_WRCONFCNT_COUNT : Fld := ⟨0x702C, 0, 16, 0⟩
def ACC_RSVCNT_COUNT : Fld := ⟨0x7030, 0, 16, 0⟩
def ACC_LATCHMISS_COUNT : Fld := ⟨0x7034, 0, 16, 0⟩

/-! Page CTX. -/
def CTX_EPT_TYPE (p : Nat) : Fld := ⟨0x100000 + 64 * p, 28, 4, 0⟩
def CTX_EPT_INST (p : Nat) : Fld := ⟨0x100000 + 64 * p, 20, 8, 0⟩
def CTX_EPT_FIRST (p : Nat) : Fld := ⟨0x100000 + 64 * p, 11, 9, 0⟩
def CTX_FMT_NCH (p : Nat) : Fld := ⟨0x100004 + 64 * p, 24, 6, 2⟩
def CTX_FMT_WIDTH (p : Nat) : Fld := ⟨0x100004 + 64 * p, 22, 2, 3⟩
def CTX_FMT_DIR (p : Nat) : Fld := ⟨0x100004 + 64 * p, 21, 1, 0⟩
def CTX_FMT_DOMAIN (p : Nat) : Fld := ⟨0x100004 + 64 * p, 12, 4, 0xF⟩
def CTX_FMT_RECON (p : Nat) : Fld := ⟨0x100004 + 64 * p, 10, 2, 0⟩
def CTX_FMT_GROUP (p : Nat) : Fld := ⟨0x100004 + 64 * p, 0, 7, 0x7F⟩
def CTX_BUF_BUFBASE (p : Nat) : Fld := ⟨0x100008 + 64 * p, 16, 16, 0⟩
def CTX_BUF_BUFLEN (p : Nat) : Fld := ⟨0x100008 + 64 * p, 0, 16, 0x80⟩
def CTX_OPT_AUTORATE (p : Nat) : Fld := ⟨0x10000C + 64 * p, 0, 1, 0⟩
def CTX_STATUS_CAUSE (p : Nat) : Fld := ⟨0x100010 + 64 * p, 4, 3, 0⟩
def CTX_STATUS_STATE (p : Nat) : Fld := ⟨0x100010 + 64 * p, 0, 3, 0⟩
def CTX_STARTIDX_IDX (p : Nat) : Fld := ⟨0x100014 + 64 * p, 0, 32, 0⟩
def CTX_INL_COUNT (p : Nat) : Fld := ⟨0x100018 + 64 * p, 0, 32, 0⟩
def CTX_INH_COUNT (p : Nat) : Fld := ⟨0x10001C + 64 * p, 0, 16, 0⟩
def CTX_OUTL_COUNT (p : Nat) : Fld := ⟨0x100020 + 64 * p, 0, 32, 0⟩
def CTX_OUTH_COUNT (p : Nat) : Fld := ⟨0x100024 + 64 * p, 0, 16, 0⟩
def CTX_PADL_COUNT (p : Nat) : Fld := ⟨0x100028 + 64 * p, 0, 32, 0⟩
def CTX_PADH_COUNT (p : Nat) : Fld := ⟨0x10002C + 64 * p, 0, 16, 0⟩
def CTX_DROPL_COUNT (p : Nat) : Fld := ⟨0x100030 + 64 * p, 0, 32, 0⟩
def CTX_DROPH_COUNT (p : Nat) : Fld := ⟨0x100034 + 64 * p, 0, 16, 0⟩
def CTX_FILL_FILL (p : Nat) : Fld := ⟨0x100038 + 64 * p, 0, 32, 0⟩
def CTX_EPOCH_EPOCH (p : Nat) : Fld := ⟨0x10003C + 64 * p, 0, 32, 0⟩

/-! Page SLT. -/
def SLT_MAP_GRANTED (p : Nat) : Fld := ⟨0x900000 + 16 * p, 31, 1, 0⟩
def SLT_MAP_WRITER (p : Nat) : Fld := ⟨0x900000 + 16 * p, 16, 10, 0⟩
def SLT_REQ_ACTION (p : Nat) : Fld := ⟨0x900004 + 16 * p, 0, 2, 0⟩
def SLT_STATE_REASON (p : Nat) : Fld := ⟨0x900008 + 16 * p, 4, 4, 0⟩
def SLT_STATE_STATE (p : Nat) : Fld := ⟨0x900008 + 16 * p, 0, 3, 0⟩
def SLT_MISS_COUNT (p : Nat) : Fld := ⟨0x90000C + 16 * p, 0, 32, 0⟩

end R
end Sys2Proof.Machine
end

