-- ==== Sys2Proof/Machine/RegTable.lean ====
section
/-! DEFINITION. The register tables of the spec as data: for every page its registers, and for
every register the offset, the repetition and each field's access type (R5) and retention class
(R6).  The arbiter reads and writes, and the resets and low-power modes keep or drop fields, through
this table. -/
namespace Sys2Proof.Machine

/-- Access types of R5. -/
inductive Acc where
  | rw | ro | wo | w1c | rc | ws | rws | rwl
deriving DecidableEq, Repr

/-- Retention classes of R6 (NV and BK are marks beside them). -/
inductive Cls where
  | ao | rt | co
deriving DecidableEq, Repr

/-- A field of a register table row: the field of instance 0, index 0. -/
structure FRow where
  f : Fld
  acc : Acc
  cls : Cls
  nv : Bool
  bk : Bool
deriving DecidableEq, Repr

/-- A register (or a run of `count` registers, `stride` bytes apart) of a page. -/
structure Reg where
  off : Nat
  stride : Nat
  count : Nat
  fields : List FRow
deriving DecidableEq, Repr

/-- The pages of R29, and the two tables held as registers: stream contexts and Rhizome slots. -/
inductive Pg where
  | sys | pwr | clkm | pll | sap | strm | asrc | grp | mtx | eng | sched | engn | pdm | priv | wake | peat | fhd | ain | hp | lout | jack | amp | ampg | spkp | excur | usb | usbd | rz | rzslot | lich | lichr | cdac | cbus | auxb | nvm | gpio | acc | ctx | slt
deriving DecidableEq, Repr

namespace Tab

/-- Page SYS. -/
def sysRegs : List Reg := [
  ⟨0x0, 4, 1, [⟨R.SYS_ID_TYPE, .ro, .co, false, false⟩,
    ⟨R.SYS_ID_INST, .ro, .co, false, false⟩,
    ⟨R.SYS_ID_MAJOR, .ro, .co, false, false⟩,
    ⟨R.SYS_ID_MINOR, .ro, .co, false, false⟩]⟩,
  ⟨0x4, 4, 1, [⟨R.SYS_CTRL_FULLRST, .ws, .co, false, false⟩,
    ⟨R.SYS_CTRL_AUTOWAKE, .rw, .ao, true, false⟩,
    ⟨R.SYS_CTRL_SRST, .ws, .co, false, false⟩,
    ⟨R.SYS_CTRL_EN, .ro, .co, false, false⟩]⟩,
  ⟨0x8, 4, 1, [⟨R.SYS_STAT_OTPBAD, .ro, .ao, false, false⟩,
    ⟨R.SYS_STAT_ROMDEF, .ro, .ao, false, false⟩,
    ⟨R.SYS_STAT_BOOTBANK, .ro, .ao, false, false⟩,
    ⟨R.SYS_STAT_BOOTDONE, .ro, .ao, false, false⟩,
    ⟨R.SYS_STAT_MOVING, .ro, .ao, false, false⟩,
    ⟨R.SYS_STAT_MODE, .ro, .ao, false, false⟩]⟩,
  ⟨0xC, 4, 1, [⟨R.SYS_IFLG_BOOT, .w1c, .ao, false, true⟩,
    ⟨R.SYS_IFLG_AUTOWAKE, .w1c, .ao, false, true⟩,
    ⟨R.SYS_IFLG_MODECHG, .w1c, .ao, false, true⟩]⟩,
  ⟨0x10, 4, 1, [⟨R.SYS_IEN_BOOT, .rw, .ao, true, false⟩,
    ⟨R.SYS_IEN_AUTOWAKE, .rw, .ao, true, false⟩,
    ⟨R.SYS_IEN_MODECHG, .rw, .ao, true, false⟩]⟩,
  ⟨0x14, 4, 1, [⟨R.SYS_OWNER_ENG, .rw, .ao, true, false⟩,
    ⟨R.SYS_OWNER_RZ, .rw, .ao, true, false⟩,
    ⟨R.SYS_OWNER_USB, .rw, .ao, true, false⟩,
    ⟨R.SYS_OWNER_CTL, .rw, .ao, true, false⟩]⟩,
  ⟨0x18, 4, 1, [⟨R.SYS_ERRCNT_BLKERR, .rc, .ao, false, true⟩,
    ⟨R.SYS_ERRCNT_REJ, .rc, .ao, false, true⟩]⟩,
  ⟨0x1C, 4, 1, [⟨R.SYS_CGRP_GRP, .rw, .ao, true, false⟩]⟩,
  ⟨0x20, 4, 1, [⟨R.SYS_SYSCFG_BLKLEN, .rw, .ao, true, false⟩,
    ⟨R.SYS_SYSCFG_SYSRATE, .rw, .ao, true, false⟩]⟩,
  ⟨0x24, 4, 2, [⟨R.SYS_SAMPIDX_IDX 0, .ro, .co, false, false⟩]⟩,
  ⟨0x2C, 4, 1, [⟨R.SYS_RSTCAUSE_PREV3, .ro, .ao, false, false⟩,
    ⟨R.SYS_RSTCAUSE_PREV2, .ro, .ao, false, false⟩,
    ⟨R.SYS_RSTCAUSE_PREV1, .ro, .ao, false, false⟩,
    ⟨R.SYS_RSTCAUSE_LAST, .ro, .ao, false, false⟩]⟩,
  ⟨0x30, 4, 4, [⟨R.SYS_KEEP_DATA 0, .rw, .ao, false, false⟩]⟩,
  ⟨0x40, 4, 1, [⟨R.SYS_TBFRAC_FRAC, .ro, .ao, false, false⟩]⟩,
  ⟨0x44, 4, 1, [⟨R.SYS_TBDAY_DAY, .rw, .ao, false, false⟩]⟩,
  ⟨0xDC, 4, 1, [⟨R.SYS_ISUMTOP_WORD, .ro, .co, false, false⟩]⟩,
  ⟨0xE0, 4, 8, [⟨R.SYS_ISUM_PEND 0, .ro, .co, false, false⟩]⟩]

/-- Page PWR. -/
def pwrRegs : List Reg := [
  ⟨0x0, 4, 1, [⟨R.PWR_ID_TYPE, .ro, .co, false, false⟩,
    ⟨R.PWR_ID_INST, .ro, .co, false, false⟩,
    ⟨R.PWR_ID_MAJOR, .ro, .co, false, false⟩,
    ⟨R.PWR_ID_MINOR, .ro, .co, false, false⟩]⟩,
  ⟨0x4, 4, 1, [⟨R.PWR_CTRL_SRST, .ws, .co, false, false⟩,
    ⟨R.PWR_CTRL_EN, .ro, .co, false, false⟩]⟩,
  ⟨0x8, 4, 1, [⟨R.PWR_STAT_HELD, .ro, .ao, false, false⟩,
    ⟨R.PWR_STAT_SAG33, .ro, .co, false, false⟩,
    ⟨R.PWR_STAT_SAGC, .ro, .co, false, false⟩,
    ⟨R.PWR_STAT_REQ, .ro, .ao, false, false⟩]⟩,
  ⟨0xC, 4, 1, [⟨R.PWR_IFLG_DRAINTO, .w1c, .ao, false, true⟩,
    ⟨R.PWR_IFLG_SAG, .w1c, .ao, false, true⟩,
    ⟨R.PWR_IFLG_WAKEUP, .w1c, .ao, false, true⟩]⟩,
  ⟨0x10, 4, 1, [⟨R.PWR_IEN_DRAINTO, .rw, .ao, true, false⟩,
    ⟨R.PWR_IEN_SAG, .rw, .ao, true, false⟩,
    ⟨R.PWR_IEN_WAKEUP, .rw, .ao, true, false⟩]⟩,
  ⟨0x14, 4, 1, [⟨R.PWR_OWNER_ENG, .rw, .ao, true, false⟩,
    ⟨R.PWR_OWNER_RZ, .rw, .ao, true, false⟩,
    ⟨R.PWR_OWNER_USB, .rw, .ao, true, false⟩,
    ⟨R.PWR_OWNER_CTL, .rw, .ao, true, false⟩]⟩,
  ⟨0x18, 4, 1, [⟨R.PWR_ERRCNT_BLKERR, .rc, .ao, false, true⟩,
    ⟨R.PWR_ERRCNT_REJ, .rc, .ao, false, true⟩]⟩,
  ⟨0x1C, 4, 1, [⟨R.PWR_CGRP_GRP, .rw, .ao, true, false⟩]⟩,
  ⟨0x20, 4, 1, [⟨R.PWR_MODEREQ_MODE, .rw, .ao, true, false⟩]⟩,
  ⟨0x24, 4, 1, [⟨R.PWR_DROOPCFG_LVL33, .rw, .ao, true, false⟩,
    ⟨R.PWR_DROOPCFG_LVLC, .rw, .ao, true, false⟩]⟩,
  ⟨0x28, 4, 1, [⟨R.PWR_DRAINTO_MS, .rw, .ao, true, false⟩]⟩,
  ⟨0x2C, 4, 1, [⟨R.PWR_WAKESRC_AUTO, .rc, .ao, false, true⟩,
    ⟨R.PWR_WAKESRC_JACK, .rc, .ao, false, true⟩,
    ⟨R.PWR_WAKESRC_WAKESEQ, .rc, .ao, false, true⟩,
    ⟨R.PWR_WAKESRC_USB, .rc, .ao, false, true⟩,
    ⟨R.PWR_WAKESRC_MODEREQ, .rc, .ao, false, true⟩]⟩]

/-- Page CLKM. -/
def clkmRegs : List Reg := [
  ⟨0x0, 4, 1, [⟨R.CLKM_ID_TYPE, .ro, .co, false, false⟩,
    ⟨R.CLKM_ID_INST, .ro, .co, false, false⟩,
    ⟨R.CLKM_ID_MAJOR, .ro, .co, false, false⟩,
    ⟨R.CLKM_ID_MINOR, .ro, .co, false, false⟩]⟩,
  ⟨0x4, 4, 1, [⟨R.CLKM_CTRL_TEST, .rw, .co, false, false⟩,
    ⟨R.CLKM_CTRL_SRST, .ws, .co, false, false⟩,
    ⟨R.CLKM_CTRL_EN, .rw, .rt, true, false⟩]⟩,
  ⟨0x8, 4, 1, [⟨R.CLKM_STAT_RANKDIS, .ro, .co, false, false⟩,
    ⟨R.CLKM_STAT_TSTALE, .ro, .co, false, false⟩,
    ⟨R.CLKM_STAT_HOLDVALID, .ro, .rt, false, true⟩,
    ⟨R.CLKM_STAT_TARGET, .ro, .co, false, false⟩,
    ⟨R.CLKM_STAT_SELREF, .ro, .co, false, false⟩,
    ⟨R.CLKM_STAT_STATE, .ro, .co, false, false⟩]⟩,
  ⟨0xC, 4, 1, [⟨R.CLKM_IFLG_REFQUAL, .w1c, .rt, false, true⟩,
    ⟨R.CLKM_IFLG_TSTALE, .w1c, .rt, false, true⟩,
    ⟨R.CLKM_IFLG_HOLD, .w1c, .rt, false, true⟩,
    ⟨R.CLKM_IFLG_RANKDIS, .w1c, .rt, false, true⟩,
    ⟨R.CLKM_IFLG_REFFAIL, .w1c, .rt, false, true⟩,
    ⟨R.CLKM_IFLG_STATECHG, .w1c, .rt, false, true⟩]⟩,
  ⟨0x10, 4, 1, [⟨R.CLKM_IEN_REFQUAL, .rw, .rt, true, false⟩,
    ⟨R.CLKM_IEN_TSTALE, .rw, .rt, true, false⟩,
    ⟨R.CLKM_IEN_HOLD, .rw, .rt, true, false⟩,
    ⟨R.CLKM_IEN_RANKDIS, .rw, .rt, true, false⟩,
    ⟨R.CLKM_IEN_REFFAIL, .rw, .rt, true, false⟩,
    ⟨R.CLKM_IEN_STATECHG, .rw, .rt, true, false⟩]⟩,
  ⟨0x14, 4, 1, [⟨R.CLKM_OWNER_ENG, .rw, .rt, true, false⟩,
    ⟨R.CLKM_OWNER_RZ, .rw, .rt, true, false⟩,
    ⟨R.CLKM_OWNER_USB, .rw, .rt, true, false⟩,
    ⟨R.CLKM_OWNER_CTL, .rw, .rt, true, false⟩]⟩,
  ⟨0x18, 4, 1, [⟨R.CLKM_ERRCNT_BLKERR, .rc, .rt, false, true⟩,
    ⟨R.CLKM_ERRCNT_REJ, .rc, .rt, false, true⟩]⟩,
  ⟨0x1C, 4, 1, [⟨R.CLKM_CGRP_GRP, .rw, .rt, true, false⟩]⟩,
  ⟨0x20, 4, 1, [⟨R.CLKM_SELCFG_DISAGREE, .rw, .rt, true, false⟩,
    ⟨R.CLKM_SELCFG_MANREF, .rw, .rt, true, false⟩,
    ⟨R.CLKM_SELCFG_MODE, .rw, .rt, true, false⟩]⟩,
  ⟨0x24, 4, 1, [⟨R.CLKM_DPLLCFG_SLEW, .rw, .rt, true, false⟩,
    ⟨R.CLKM_DPLLCFG_BW, .rw, .rt, true, false⟩,
    ⟨R.CLKM_DPLLCFG_HOLDAVG, .rw, .rt, true, false⟩]⟩,
  ⟨0x28, 4, 2, [⟨R.CLKM_REFNOM_NOM 0, .rw, .rt, true, false⟩]⟩,
  ⟨0x30, 4, 1, [⟨R.CLKM_DPLLOFF_OFF, .ro, .co, false, false⟩]⟩,
  ⟨0x34, 4, 1, [⟨R.CLKM_HOLDOFF_OFF, .ro, .rt, false, true⟩]⟩,
  ⟨0x38, 4, 3, [⟨R.CLKM_TC_C 0, .rw, .rt, true, false⟩]⟩,
  ⟨0x44, 4, 1, [⟨R.CLKM_TREF_T0, .rw, .rt, true, false⟩,
    ⟨R.CLKM_TREF_TSRC, .rw, .rt, true, false⟩]⟩,
  ⟨0x48, 4, 1, [⟨R.CLKM_NTCLIN_NTCA, .rw, .rt, true, false⟩,
    ⟨R.CLKM_NTCLIN_NTCB, .rw, .rt, true, false⟩]⟩,
  ⟨0x4C, 4, 1, [⟨R.CLKM_AGE_AGE, .rw, .rt, true, false⟩]⟩,
  ⟨0x50, 4, 1, [⟨R.CLKM_AGEEPOCH_DAY, .rw, .rt, true, false⟩]⟩,
  ⟨0x54, 4, 1, [⟨R.CLKM_TEMP_THOLD, .ro, .rt, false, true⟩,
    ⟨R.CLKM_TEMP_TNOW, .ro, .co, false, false⟩]⟩,
  ⟨0x58, 4, 1, [⟨R.CLKM_REFSTAT_ST, .ro, .co, false, false⟩]⟩,
  ⟨0x5C, 4, 1, [⟨R.CLKM_TESTWORD_OFF, .rw, .rt, false, false⟩]⟩,
  ⟨0x60, 4, 1, [⟨R.CLKM_EVCNT_HOLDENT, .rc, .rt, false, true⟩,
    ⟨R.CLKM_EVCNT_SWITCHES, .rc, .rt, false, true⟩]⟩,
  ⟨0x70, 12, 1, [⟨R.CLKM_REF0_CFG, .ro, .co, false, false⟩]⟩,
  ⟨0x74, 12, 1, [⟨R.CLKM_REF0_LIM, .ro, .co, false, false⟩]⟩,
  ⟨0x78, 12, 1, [⟨R.CLKM_REF0_MON, .ro, .co, false, false⟩]⟩,
  ⟨0x7C, 12, 11, [⟨R.CLKM_REFCFG_EN 1, .rw, .rt, true, false⟩,
    ⟨R.CLKM_REFCFG_RANK 1, .rw, .rt, true, false⟩,
    ⟨R.CLKM_REFCFG_ACTWIN 1, .rw, .rt, true, false⟩,
    ⟨R.CLKM_REFCFG_FGATE 1, .rw, .rt, true, false⟩]⟩,
  ⟨0x80, 12, 11, [⟨R.CLKM_REFLIM_REJECT 1, .rw, .rt, true, false⟩,
    ⟨R.CLKM_REFLIM_ACCEPT 1, .rw, .rt, true, false⟩]⟩,
  ⟨0x84, 12, 11, [⟨R.CLKM_REFMON_OFFSET 1, .ro, .co, false, false⟩,
    ⟨R.CLKM_REFMON_WTR 1, .rw, .rt, true, false⟩]⟩]

/-- Page PLL. -/
def pllRegs : List Reg := [
  ⟨0x0, 4, 1, [⟨R.PLL_ID_TYPE, .ro, .co, false, false⟩,
    ⟨R.PLL_ID_INST, .ro, .co, false, false⟩,
    ⟨R.PLL_ID_MAJOR, .ro, .co, false, false⟩,
    ⟨R.PLL_ID_MINOR, .ro, .co, false, false⟩]⟩,
  ⟨0x4, 4, 1, [⟨R.PLL_CTRL_SRST, .ws, .co, false, false⟩,
    ⟨R.PLL_CTRL_EN, .rw, .rt, true, false⟩]⟩,
  ⟨0x8, 4, 1, [⟨R.PLL_STAT_ACTIVE, .ro, .co, false, false⟩,
    ⟨R.PLL_STAT_LOCKB, .ro, .co, false, false⟩,
    ⟨R.PLL_STAT_LOCKA, .ro, .co, false, false⟩]⟩,
  ⟨0xC, 4, 1, [⟨R.PLL_IFLG_UNLOCKB, .w1c, .rt, false, true⟩,
    ⟨R.PLL_IFLG_UNLOCKA, .w1c, .rt, false, true⟩]⟩,
  ⟨0x10, 4, 1, [⟨R.PLL_IEN_UNLOCKB, .rw, .rt, true, false⟩,
    ⟨R.PLL_IEN_UNLOCKA, .rw, .rt, true, false⟩]⟩,
  ⟨0x14, 4, 1, [⟨R.PLL_OWNER_ENG, .rw, .rt, true, false⟩,
    ⟨R.PLL_OWNER_RZ, .rw, .rt, true, false⟩,
    ⟨R.PLL_OWNER_USB, .rw, .rt, true, false⟩,
    ⟨R.PLL_OWNER_CTL, .rw, .rt, true, false⟩]⟩,
  ⟨0x18, 4, 1, [⟨R.PLL_ERRCNT_BLKERR, .rc, .rt, false, true⟩,
    ⟨R.PLL_ERRCNT_REJ, .rc, .rt, false, true⟩]⟩,
  ⟨0x1C, 4, 1, [⟨R.PLL_CGRP_GRP, .rw, .rt, true, false⟩]⟩,
  ⟨0x20, 4, 1, [⟨R.PLL_UNLCNT_B, .rc, .rt, false, true⟩,
    ⟨R.PLL_UNLCNT_A, .rc, .rt, false, true⟩]⟩]

/-- Page SAP. -/
def sapRegs : List Reg := [
  ⟨0x0, 4, 1, [⟨R.SAP_ID_TYPE 0, .ro, .co, false, false⟩,
    ⟨R.SAP_ID_INST 0, .ro, .co, false, false⟩,
    ⟨R.SAP_ID_MAJOR 0, .ro, .co, false, false⟩,
    ⟨R.SAP_ID_MINOR 0, .ro, .co, false, false⟩]⟩,
  ⟨0x4, 4, 1, [⟨R.SAP_CTRL_TRI 0, .rw, .rt, true, false⟩,
    ⟨R.SAP_CTRL_MASTER 0, .rw, .rt, true, false⟩,
    ⟨R.SAP_CTRL_SRST 0, .ws, .co, false, false⟩,
    ⟨R.SAP_CTRL_EN 0, .rw, .rt, true, false⟩]⟩,
  ⟨0x8, 4, 1, [⟨R.SAP_STAT_CLKRUN 0, .ro, .co, false, false⟩,
    ⟨R.SAP_STAT_LEADTRAIL 0, .ro, .co, false, false⟩,
    ⟨R.SAP_STAT_FRAMELOCK 0, .ro, .co, false, false⟩,
    ⟨R.SAP_STAT_BCLKACT 0, .ro, .co, false, false⟩]⟩,
  ⟨0xC, 4, 1, [⟨R.SAP_IFLG_ZCTO 0, .w1c, .rt, false, true⟩,
    ⟨R.SAP_IFLG_RESUME 0, .w1c, .rt, false, true⟩,
    ⟨R.SAP_IFLG_RATECHG 0, .w1c, .rt, false, true⟩,
    ⟨R.SAP_IFLG_FRAMEERR 0, .w1c, .rt, false, true⟩,
    ⟨R.SAP_IFLG_STALL 0, .w1c, .rt, false, true⟩]⟩,
  ⟨0x10, 4, 1, [⟨R.SAP_IEN_ZCTO 0, .rw, .rt, true, false⟩,
    ⟨R.SAP_IEN_RESUME 0, .rw, .rt, true, false⟩,
    ⟨R.SAP_IEN_RATECHG 0, .rw, .rt, true, false⟩,
    ⟨R.SAP_IEN_FRAMEERR 0, .rw, .rt, true, false⟩,
    ⟨R.SAP_IEN_STALL 0, .rw, .rt, true, false⟩]⟩,
  ⟨0x14, 4, 1, [⟨R.SAP_OWNER_ENG 0, .rw, .rt, true, false⟩,
    ⟨R.SAP_OWNER_RZ 0, .rw, .rt, true, false⟩,
    ⟨R.SAP_OWNER_USB 0, .rw, .rt, true, false⟩,
    ⟨R.SAP_OWNER_CTL 0, .rw, .rt, true, false⟩]⟩,
  ⟨0x18, 4, 1, [⟨R.SAP_ERRCNT_BLKERR 0, .rc, .rt, false, true⟩,
    ⟨R.SAP_ERRCNT_REJ 0, .rc, .rt, false, true⟩]⟩,
  ⟨0x1C, 4, 1, [⟨R.SAP_CGRP_GRP 0, .rw, .rt, true, false⟩]⟩,
  ⟨0x20, 4, 1, [⟨R.SAP_FMT_MODE 0, .rw, .rt, true, false⟩,
    ⟨R.SAP_FMT_FSW 0, .rw, .rt, true, false⟩,
    ⟨R.SAP_FMT_FSPOL 0, .rw, .rt, true, false⟩,
    ⟨R.SAP_FMT_BCLKPOL 0, .rw, .rt, true, false⟩,
    ⟨R.SAP_FMT_DWIDTH 0, .rw, .rt, true, false⟩,
    ⟨R.SAP_FMT_SWIDTH 0, .rw, .rt, true, false⟩,
    ⟨R.SAP_FMT_SLOTS 0, .rw, .rt, true, false⟩,
    ⟨R.SAP_FMT_OFFSET 0, .rw, .rt, true, false⟩]⟩,
  ⟨0x24, 4, 1, [⟨R.SAP_CLKDIV_SRC 0, .rw, .rt, true, false⟩,
    ⟨R.SAP_CLKDIV_N 0, .rw, .rt, true, false⟩]⟩,
  ⟨0x28, 4, 1, [⟨R.SAP_DIVF_F 0, .rw, .rt, true, false⟩]⟩,
  ⟨0x2C, 4, 1, [⟨R.SAP_FRATE_RATE 0, .rw, .rt, true, false⟩]⟩,
  ⟨0x30, 4, 1, [⟨R.SAP_SEQ_LEAD 0, .rw, .rt, true, false⟩,
    ⟨R.SAP_SEQ_TRAIL 0, .rw, .rt, true, false⟩,
    ⟨R.SAP_SEQ_ZCTO 0, .rw, .rt, true, false⟩,
    ⟨R.SAP_SEQ_FASTRAMP 0, .rw, .rt, true, false⟩]⟩,
  ⟨0x34, 4, 1, [⟨R.SAP_PGAIN_OMUTE 0, .rws, .rt, true, false⟩,
    ⟨R.SAP_PGAIN_OGAIN 0, .rws, .rt, true, false⟩,
    ⟨R.SAP_PGAIN_IMUTE 0, .rws, .rt, true, false⟩,
    ⟨R.SAP_PGAIN_IGAIN 0, .rws, .rt, true, false⟩]⟩,
  ⟨0x38, 4, 1, [⟨R.SAP_MEASRATE_RATE 0, .ro, .co, false, false⟩]⟩,
  ⟨0x3C, 4, 1, [⟨R.SAP_STALLCNT_COUNT 0, .rc, .rt, false, true⟩]⟩,
  ⟨0x40, 4, 1, [⟨R.SAP_MCLKCFG_EN 0, .rw, .rt, true, false⟩,
    ⟨R.SAP_MCLKCFG_SRC 0, .rw, .rt, true, false⟩,
    ⟨R.SAP_MCLKCFG_N 0, .rw, .rt, true, false⟩]⟩]

/-- Page STRM. -/
def strmRegs : List Reg := [
  ⟨0x0, 4, 1, [⟨R.STRM_ID_TYPE, .ro, .co, false, false⟩,
    ⟨R.STRM_ID_INST, .ro, .co, false, false⟩,
    ⟨R.STRM_ID_MAJOR, .ro, .co, false, false⟩,
    ⟨R.STRM_ID_MINOR, .ro, .co, false, false⟩]⟩,
  ⟨0x4, 4, 1, [⟨R.STRM_CTRL_SRST, .ws, .co, false, false⟩,
    ⟨R.STRM_CTRL_EN, .rw, .rt, true, false⟩]⟩,
  ⟨0x8, 4, 1, [⟨R.STRM_STAT_NSTALL, .ro, .co, false, false⟩,
    ⟨R.STRM_STAT_NRUN, .ro, .co, false, false⟩]⟩,
  ⟨0xC, 4, 1, [⟨R.STRM_IFLG_DRAINED, .w1c, .rt, false, true⟩,
    ⟨R.STRM_IFLG_RATECHG, .w1c, .rt, false, true⟩,
    ⟨R.STRM_IFLG_RESUME, .w1c, .rt, false, true⟩,
    ⟨R.STRM_IFLG_STALL, .w1c, .rt, false, true⟩]⟩,
  ⟨0x10, 4, 1, [⟨R.STRM_IEN_DRAINED, .rw, .rt, true, false⟩,
    ⟨R.STRM_IEN_RATECHG, .rw, .rt, true, false⟩,
    ⟨R.STRM_IEN_RESUME, .rw, .rt, true, false⟩,
    ⟨R.STRM_IEN_STALL, .rw, .rt, true, false⟩]⟩,
  ⟨0x14, 4, 1, [⟨R.STRM_OWNER_ENG, .rw, .rt, true, false⟩,
    ⟨R.STRM_OWNER_RZ, .rw, .rt, true, false⟩,
    ⟨R.STRM_OWNER_USB, .rw, .rt, true, false⟩,
    ⟨R.STRM_OWNER_CTL, .rw, .rt, true, false⟩]⟩,
  ⟨0x18, 4, 1, [⟨R.STRM_ERRCNT_BLKERR, .rc, .rt, false, true⟩,
    ⟨R.STRM_ERRCNT_REJ, .rc, .rt, false, true⟩]⟩,
  ⟨0x1C, 4, 1, [⟨R.STRM_CGRP_GRP, .rw, .rt, true, false⟩]⟩,
  ⟨0x20, 4, 1, [⟨R.STRM_CMD_ACTION, .wo, .co, false, false⟩,
    ⟨R.STRM_CMD_CTX, .wo, .co, false, false⟩]⟩,
  ⟨0x40, 4, 8, [⟨R.STRM_STALLMAP_MAP 0, .ro, .co, false, false⟩]⟩,
  ⟨0x60, 4, 8, [⟨R.STRM_ACTMAP_MAP 0, .ro, .co, false, false⟩]⟩]

/-- Page ASRC. -/
def asrcRegs : List Reg := [
  ⟨0x0, 4, 1, [⟨R.ASRC_ID_TYPE, .ro, .co, false, false⟩,
    ⟨R.ASRC_ID_INST, .ro, .co, false, false⟩,
    ⟨R.ASRC_ID_MAJOR, .ro, .co, false, false⟩,
    ⟨R.ASRC_ID_MINOR, .ro, .co, false, false⟩]⟩,
  ⟨0x4, 4, 1, [⟨R.ASRC_CTRL_SRST, .ws, .co, false, false⟩,
    ⟨R.ASRC_CTRL_EN, .rw, .rt, true, false⟩]⟩,
  ⟨0x8, 4, 1, [⟨R.ASRC_STAT_USED, .ro, .co, false, false⟩]⟩,
  ⟨0xC, 4, 1, [⟨R.ASRC_IFLG_RANGE, .w1c, .rt, false, true⟩,
    ⟨R.ASRC_IFLG_HOLD, .w1c, .rt, false, true⟩,
    ⟨R.ASRC_IFLG_LOCK, .w1c, .rt, false, true⟩]⟩,
  ⟨0x10, 4, 1, [⟨R.ASRC_IEN_RANGE, .rw, .rt, true, false⟩,
    ⟨R.ASRC_IEN_HOLD, .rw, .rt, true, false⟩,
    ⟨R.ASRC_IEN_LOCK, .rw, .rt, true, false⟩]⟩,
  ⟨0x14, 4, 1, [⟨R.ASRC_OWNER_ENG, .rw, .rt, true, false⟩,
    ⟨R.ASRC_OWNER_RZ, .rw, .rt, true, false⟩,
    ⟨R.ASRC_OWNER_USB, .rw, .rt, true, false⟩,
    ⟨R.ASRC_OWNER_CTL, .rw, .rt, true, false⟩]⟩,
  ⟨0x18, 4, 1, [⟨R.ASRC_ERRCNT_BLKERR, .rc, .rt, false, true⟩,
    ⟨R.ASRC_ERRCNT_REJ, .rc, .rt, false, true⟩]⟩,
  ⟨0x1C, 4, 1, [⟨R.ASRC_CGRP_GRP, .rw, .rt, true, false⟩]⟩,
  ⟨0x20, 4, 1, [⟨R.ASRC_SEL_CTX, .rw, .co, false, false⟩]⟩,
  ⟨0x24, 4, 1, [⟨R.ASRC_WSTAT_HOLD, .ro, .co, false, false⟩,
    ⟨R.ASRC_WSTAT_LOCKED, .ro, .co, false, false⟩,
    ⟨R.ASRC_WSTAT_BOUND, .ro, .co, false, false⟩]⟩,
  ⟨0x28, 4, 1, [⟨R.ASRC_RATIO_RATIO, .ro, .co, false, false⟩]⟩,
  ⟨0x2C, 4, 1, [⟨R.ASRC_FRAC_FRAC, .ro, .co, false, false⟩]⟩,
  ⟨0x30, 4, 1, [⟨R.ASRC_POSIDX_IDX, .ro, .co, false, false⟩]⟩,
  ⟨0x34, 4, 1, [⟨R.ASRC_STEERCFG_KP, .rw, .rt, true, false⟩,
    ⟨R.ASRC_STEERCFG_KI, .rw, .rt, true, false⟩]⟩,
  ⟨0x38, 4, 1, [⟨R.ASRC_STEERLIM_LIM, .rw, .rt, true, false⟩]⟩,
  ⟨0x3C, 4, 1, [⟨R.ASRC_STEERSTAT_ACTIVE, .ro, .co, false, false⟩,
    ⟨R.ASRC_STEERSTAT_FROZEN, .ro, .co, false, false⟩,
    ⟨R.ASRC_STEERSTAT_CTX, .ro, .co, false, false⟩]⟩,
  ⟨0x40, 4, 1, [⟨R.ASRC_STEEROUT_U, .ro, .co, false, false⟩]⟩,
  ⟨0x44, 4, 1, [⟨R.ASRC_STEERERR_E, .ro, .co, false, false⟩]⟩]

/-- Page GRP. -/
def grpRegs : List Reg := [
  ⟨0x0, 4, 1, [⟨R.GRP_ID_TYPE, .ro, .co, false, false⟩,
    ⟨R.GRP_ID_INST, .ro, .co, false, false⟩,
    ⟨R.GRP_ID_MAJOR, .ro, .co, false, false⟩,
    ⟨R.GRP_ID_MINOR, .ro, .co, false, false⟩]⟩,
  ⟨0x4, 4, 1, [⟨R.GRP_CTRL_SRST, .ws, .co, false, false⟩,
    ⟨R.GRP_CTRL_EN, .rw, .rt, true, false⟩]⟩,
  ⟨0x8, 4, 1, [⟨R.GRP_STAT_NRUN, .ro, .co, false, false⟩]⟩,
  ⟨0xC, 4, 1, [⟨R.GRP_IFLG_RESUME, .w1c, .rt, false, true⟩,
    ⟨R.GRP_IFLG_SLIP, .w1c, .rt, false, true⟩,
    ⟨R.GRP_IFLG_MEMBERPAD, .w1c, .rt, false, true⟩,
    ⟨R.GRP_IFLG_START, .w1c, .rt, false, true⟩]⟩,
  ⟨0x10, 4, 1, [⟨R.GRP_IEN_RESUME, .rw, .rt, true, false⟩,
    ⟨R.GRP_IEN_SLIP, .rw, .rt, true, false⟩,
    ⟨R.GRP_IEN_MEMBERPAD, .rw, .rt, true, false⟩,
    ⟨R.GRP_IEN_START, .rw, .rt, true, false⟩]⟩,
  ⟨0x14, 4, 1, [⟨R.GRP_OWNER_ENG, .rw, .rt, true, false⟩,
    ⟨R.GRP_OWNER_RZ, .rw, .rt, true, false⟩,
    ⟨R.GRP_OWNER_USB, .rw, .rt, true, false⟩,
    ⟨R.GRP_OWNER_CTL, .rw, .rt, true, false⟩]⟩,
  ⟨0x18, 4, 1, [⟨R.GRP_ERRCNT_BLKERR, .rc, .rt, false, true⟩,
    ⟨R.GRP_ERRCNT_REJ, .rc, .rt, false, true⟩]⟩,
  ⟨0x1C, 4, 1, [⟨R.GRP_CGRP_GRP, .rw, .rt, true, false⟩]⟩,
  ⟨0x20, 4, 2, [⟨R.GRP_MODE_SLIP 0, .rw, .rt, true, false⟩]⟩,
  ⟨0x28, 4, 2, [⟨R.GRP_RUN_MAP 0, .ro, .co, false, false⟩]⟩,
  ⟨0x30, 4, 2, [⟨R.GRP_SLIPPING_MAP 0, .ro, .co, false, false⟩]⟩,
  ⟨0x38, 4, 1, [⟨R.GRP_SEL_GRP, .rw, .co, false, false⟩]⟩,
  ⟨0x3C, 4, 1, [⟨R.GRP_GSTAT_MEMBERS, .ro, .co, false, false⟩,
    ⟨R.GRP_GSTAT_SLIPPING, .ro, .co, false, false⟩,
    ⟨R.GRP_GSTAT_RUNNING, .ro, .co, false, false⟩]⟩,
  ⟨0x40, 4, 2, [⟨R.GRP_STARTAT_IDX 0, .rw, .rt, false, true⟩]⟩,
  ⟨0x48, 4, 2, [⟨R.GRP_STARTIDX_IDX 0, .ro, .co, false, false⟩]⟩,
  ⟨0x50, 4, 1, [⟨R.GRP_SLIP_SAMPLES, .ro, .co, false, false⟩]⟩,
  ⟨0x54, 4, 1, [⟨R.GRP_PADEV_COUNT, .rc, .rt, false, true⟩]⟩]

/-- Page MTX. -/
def mtxRegs : List Reg := [
  ⟨0x0, 4, 1, [⟨R.MTX_ID_TYPE, .ro, .co, false, false⟩,
    ⟨R.MTX_ID_INST, .ro, .co, false, false⟩,
    ⟨R.MTX_ID_MAJOR, .ro, .co, false, false⟩,
    ⟨R.MTX_ID_MINOR, .ro, .co, false, false⟩]⟩,
  ⟨0x4, 4, 1, [⟨R.MTX_CTRL_SRST, .ws, .co, false, false⟩,
    ⟨R.MTX_CTRL_EN, .rw, .rt, true, false⟩]⟩,
  ⟨0x8, 4, 1, [⟨R.MTX_STAT_HALF, .ro, .co, false, false⟩,
    ⟨R.MTX_STAT_REDUCED, .ro, .co, false, false⟩,
    ⟨R.MTX_STAT_ZCPEND, .ro, .co, false, false⟩,
    ⟨R.MTX_STAT_RAMP, .ro, .co, false, false⟩,
    ⟨R.MTX_STAT_REFILL, .ro, .co, false, false⟩]⟩,
  ⟨0xC, 4, 1, [⟨R.MTX_IFLG_SWAP, .w1c, .rt, false, true⟩,
    ⟨R.MTX_IFLG_ZCTO, .w1c, .rt, false, true⟩,
    ⟨R.MTX_IFLG_SAT, .w1c, .rt, false, true⟩,
    ⟨R.MTX_IFLG_METER, .w1c, .rt, false, true⟩]⟩,
  ⟨0x10, 4, 1, [⟨R.MTX_IEN_SWAP, .rw, .rt, true, false⟩,
    ⟨R.MTX_IEN_ZCTO, .rw, .rt, true, false⟩,
    ⟨R.MTX_IEN_SAT, .rw, .rt, true, false⟩,
    ⟨R.MTX_IEN_METER, .rw, .rt, true, false⟩]⟩,
  ⟨0x14, 4, 1, [⟨R.MTX_OWNER_ENG, .rw, .rt, true, false⟩,
    ⟨R.MTX_OWNER_RZ, .rw, .rt, true, false⟩,
    ⟨R.MTX_OWNER_USB, .rw, .rt, true, false⟩,
    ⟨R.MTX_OWNER_CTL, .rw, .rt, true, false⟩]⟩,
  ⟨0x18, 4, 1, [⟨R.MTX_ERRCNT_BLKERR, .rc, .rt, false, true⟩,
    ⟨R.MTX_ERRCNT_REJ, .rc, .rt, false, true⟩]⟩,
  ⟨0x1C, 4, 1, [⟨R.MTX_CGRP_GRP, .rw, .rt, true, false⟩]⟩,
  ⟨0x20, 4, 1, [⟨R.MTX_CFG_METWIN, .rw, .rt, true, false⟩,
    ⟨R.MTX_CFG_ZCTO, .rw, .rt, true, false⟩]⟩,
  ⟨0x24, 4, 4, [⟨R.MTX_SAT_SAT 0, .w1c, .rt, false, true⟩]⟩,
  ⟨0x34, 4, 1, [⟨R.MTX_MAPSEL_SIDE, .rw, .co, false, false⟩,
    ⟨R.MTX_MAPSEL_INDEX, .rw, .co, false, false⟩]⟩,
  ⟨0x38, 4, 1, [⟨R.MTX_MAP_EN, .rws, .rt, true, false⟩,
    ⟨R.MTX_MAP_CTX, .rws, .rt, true, false⟩,
    ⟨R.MTX_MAP_CH, .rws, .rt, true, false⟩]⟩,
  ⟨0x3C, 4, 1, [⟨R.MTX_METSEL_MO, .rw, .co, false, false⟩]⟩,
  ⟨0x40, 4, 1, [⟨R.MTX_PEAK_PEAK, .ro, .co, false, false⟩]⟩,
  ⟨0x44, 4, 1, [⟨R.MTX_RMS_RMS, .ro, .co, false, false⟩]⟩,
  ⟨0x48, 4, 1, [⟨R.MTX_METIDX_IDX, .ro, .co, false, false⟩]⟩,
  ⟨0x50, 4, 16, [⟨R.MTX_TAP_EN 0, .rws, .rt, true, false⟩,
    ⟨R.MTX_TAP_MO 0, .rws, .rt, true, false⟩,
    ⟨R.MTX_TAP_CTX 0, .rws, .rt, true, false⟩,
    ⟨R.MTX_TAP_CH 0, .rws, .rt, true, false⟩]⟩]

/-- Page ENG. -/
def engRegs : List Reg := [
  ⟨0x0, 4, 1, [⟨R.ENG_ID_TYPE, .ro, .co, false, false⟩,
    ⟨R.ENG_ID_INST, .ro, .co, false, false⟩,
    ⟨R.ENG_ID_MAJOR, .ro, .co, false, false⟩,
    ⟨R.ENG_ID_MINOR, .ro, .co, false, false⟩]⟩,
  ⟨0x4, 4, 1, [⟨R.ENG_CTRL_SRST, .ws, .co, false, false⟩,
    ⟨R.ENG_CTRL_EN, .rw, .rt, true, false⟩]⟩,
  ⟨0x8, 4, 1, [⟨R.ENG_STAT_ROLL, .ro, .co, false, false⟩,
    ⟨R.ENG_STAT_NACTIVE, .ro, .co, false, false⟩,
    ⟨R.ENG_STAT_CLKSTEP, .ro, .co, false, false⟩,
    ⟨R.ENG_STAT_ROLLENG, .ro, .co, false, false⟩]⟩,
  ⟨0xC, 4, 1, [⟨R.ENG_IFLG_ROLLDONE, .w1c, .rt, false, true⟩,
    ⟨R.ENG_IFLG_ROLLFAIL, .w1c, .rt, false, true⟩,
    ⟨R.ENG_IFLG_TDED, .w1c, .rt, false, true⟩,
    ⟨R.ENG_IFLG_QUAR, .w1c, .rt, false, true⟩]⟩,
  ⟨0x10, 4, 1, [⟨R.ENG_IEN_ROLLDONE, .rw, .rt, true, false⟩,
    ⟨R.ENG_IEN_ROLLFAIL, .rw, .rt, true, false⟩,
    ⟨R.ENG_IEN_TDED, .rw, .rt, true, false⟩,
    ⟨R.ENG_IEN_QUAR, .rw, .rt, true, false⟩]⟩,
  ⟨0x14, 4, 1, [⟨R.ENG_OWNER_ENG, .rw, .rt, true, false⟩,
    ⟨R.ENG_OWNER_RZ, .rw, .rt, true, false⟩,
    ⟨R.ENG_OWNER_USB, .rw, .rt, true, false⟩,
    ⟨R.ENG_OWNER_CTL, .rw, .rt, true, false⟩]⟩,
  ⟨0x18, 4, 1, [⟨R.ENG_ERRCNT_BLKERR, .rc, .rt, false, true⟩,
    ⟨R.ENG_ERRCNT_REJ, .rc, .rt, false, true⟩]⟩,
  ⟨0x1C, 4, 1, [⟨R.ENG_CGRP_GRP, .rw, .rt, true, false⟩]⟩,
  ⟨0x20, 4, 1, [⟨R.ENG_KSETBASE_OFF, .rw, .rt, true, false⟩]⟩,
  ⟨0x24, 4, 1, [⟨R.ENG_CMD_ACTION, .wo, .co, false, false⟩,
    ⟨R.ENG_CMD_CARRY, .wo, .co, false, false⟩]⟩,
  ⟨0x28, 4, 1, [⟨R.ENG_KSETVER_VER, .ro, .rt, false, false⟩]⟩,
  ⟨0x2C, 4, 1, [⟨R.ENG_TDED_COUNT, .rc, .rt, false, true⟩]⟩,
  ⟨0x30, 4, 1, [⟨R.ENG_TDEDADDR_ADDR, .ro, .rt, false, true⟩]⟩,
  ⟨0x34, 4, 1, [⟨R.ENG_DROOPCNT_VDD33, .rc, .rt, false, true⟩,
    ⟨R.ENG_DROOPCNT_VDDC, .rc, .rt, false, true⟩]⟩,
  ⟨0x38, 4, 1, [⟨R.ENG_QMAP_MAP, .ro, .co, false, false⟩]⟩,
  ⟨0x3C, 4, 1, [⟨R.ENG_SCRUBPASS_COUNT, .ro, .co, false, false⟩]⟩]

/-- Page SCHED. -/
def schedRegs : List Reg := [
  ⟨0x0, 4, 1, [⟨R.SCHED_ID_TYPE, .ro, .co, false, false⟩,
    ⟨R.SCHED_ID_INST, .ro, .co, false, false⟩,
    ⟨R.SCHED_ID_MAJOR, .ro, .co, false, false⟩,
    ⟨R.SCHED_ID_MINOR, .ro, .co, false, false⟩]⟩,
  ⟨0x4, 4, 1, [⟨R.SCHED_CTRL_SRST, .ws, .co, false, false⟩,
    ⟨R.SCHED_CTRL_EN, .rw, .rt, true, false⟩]⟩,
  ⟨0x8, 4, 1, [⟨R.SCHED_STAT_CANDSLOT, .ro, .co, false, false⟩,
    ⟨R.SCHED_STAT_RUNMAP, .ro, .co, false, false⟩]⟩,
  ⟨0xC, 4, 1, [⟨R.SCHED_IFLG_DROOP, .w1c, .rt, false, true⟩,
    ⟨R.SCHED_IFLG_OVERLOAD, .w1c, .rt, false, true⟩,
    ⟨R.SCHED_IFLG_SHED, .w1c, .rt, false, true⟩,
    ⟨R.SCHED_IFLG_GRAPHFAULT, .w1c, .rt, false, true⟩,
    ⟨R.SCHED_IFLG_MISS, .w1c, .rt, false, true⟩,
    ⟨R.SCHED_IFLG_SWITCH, .w1c, .rt, false, true⟩,
    ⟨R.SCHED_IFLG_ADMREJ, .w1c, .rt, false, true⟩,
    ⟨R.SCHED_IFLG_ADMOK, .w1c, .rt, false, true⟩]⟩,
  ⟨0x10, 4, 1, [⟨R.SCHED_IEN_DROOP, .rw, .rt, true, false⟩,
    ⟨R.SCHED_IEN_OVERLOAD, .rw, .rt, true, false⟩,
    ⟨R.SCHED_IEN_SHED, .rw, .rt, true, false⟩,
    ⟨R.SCHED_IEN_GRAPHFAULT, .rw, .rt, true, false⟩,
    ⟨R.SCHED_IEN_MISS, .rw, .rt, true, false⟩,
    ⟨R.SCHED_IEN_SWITCH, .rw, .rt, true, false⟩,
    ⟨R.SCHED_IEN_ADMREJ, .rw, .rt, true, false⟩,
    ⟨R.SCHED_IEN_ADMOK, .rw, .rt, true, false⟩]⟩,
  ⟨0x14, 4, 1, [⟨R.SCHED_OWNER_ENG, .rw, .rt, true, false⟩,
    ⟨R.SCHED_OWNER_RZ, .rw, .rt, true, false⟩,
    ⟨R.SCHED_OWNER_USB, .rw, .rt, true, false⟩,
    ⟨R.SCHED_OWNER_CTL, .rw, .rt, true, false⟩]⟩,
  ⟨0x18, 4, 1, [⟨R.SCHED_ERRCNT_BLKERR, .rc, .rt, false, true⟩,
    ⟨R.SCHED_ERRCNT_REJ, .rc, .rt, false, true⟩]⟩,
  ⟨0x1C, 4, 1, [⟨R.SCHED_CGRP_GRP, .rw, .rt, true, false⟩]⟩,
  ⟨0x20, 4, 1, [⟨R.SCHED_ADMCFG_DROOPFLOOR, .rw, .rt, true, false⟩,
    ⟨R.SCHED_ADMCFG_UTILCAP, .rw, .rt, true, false⟩]⟩,
  ⟨0x24, 4, 1, [⟨R.SCHED_GLOAD_SLOT, .wo, .co, false, false⟩,
    ⟨R.SCHED_GLOAD_NEWSET, .wo, .co, false, false⟩,
    ⟨R.SCHED_GLOAD_EMPTY, .wo, .co, false, false⟩,
    ⟨R.SCHED_GLOAD_HDR, .wo, .co, false, false⟩]⟩,
  ⟨0x28, 4, 1, [⟨R.SCHED_ADMSTAT_STATUS, .ro, .co, false, false⟩,
    ⟨R.SCHED_ADMSTAT_SLOT, .ro, .co, false, false⟩,
    ⟨R.SCHED_ADMSTAT_REASON, .ro, .co, false, false⟩,
    ⟨R.SCHED_ADMSTAT_TASK, .ro, .co, false, false⟩]⟩,
  ⟨0x2C, 4, 1, [⟨R.SCHED_ADMCP_CP, .ro, .co, false, false⟩]⟩,
  ⟨0x30, 4, 1, [⟨R.SCHED_ADMW_W, .ro, .co, false, false⟩]⟩,
  ⟨0x34, 4, 1, [⟨R.SCHED_GSWITCH_SLOT, .rws, .co, false, false⟩]⟩,
  ⟨0x38, 4, 1, [⟨R.SCHED_GSEL_SLOT, .rw, .co, false, false⟩]⟩,
  ⟨0x3C, 4, 1, [⟨R.SCHED_GHDR_VALID, .ro, .co, false, false⟩,
    ⟨R.SCHED_GHDR_HDR, .ro, .co, false, false⟩]⟩,
  ⟨0x40, 4, 1, [⟨R.SCHED_GINFO_PERIOD, .ro, .co, false, false⟩,
    ⟨R.SCHED_GINFO_NTASK, .ro, .co, false, false⟩]⟩,
  ⟨0x44, 4, 1, [⟨R.SCHED_MISSED_BLOCKS, .rc, .rt, false, true⟩]⟩,
  ⟨0x48, 4, 1, [⟨R.SCHED_FAULTS_COUNT, .rc, .rt, false, true⟩]⟩,
  ⟨0x4C, 4, 1, [⟨R.SCHED_SHED_COUNT, .rc, .rt, false, true⟩]⟩,
  ⟨0x50, 4, 1, [⟨R.SCHED_STEALS_COUNT, .rc, .rt, false, true⟩]⟩,
  ⟨0x54, 4, 1, [⟨R.SCHED_SHEDNOW_COUNT, .ro, .co, false, false⟩]⟩]

/-- Page ENGN. -/
def engnRegs : List Reg := [
  ⟨0x0, 4, 1, [⟨R.ENGN_ID_TYPE 0, .ro, .co, false, false⟩,
    ⟨R.ENGN_ID_INST 0, .ro, .co, false, false⟩,
    ⟨R.ENGN_ID_MAJOR 0, .ro, .co, false, false⟩,
    ⟨R.ENGN_ID_MINOR 0, .ro, .co, false, false⟩]⟩,
  ⟨0x4, 4, 1, [⟨R.ENGN_CTRL_RELEASE 0, .ws, .co, false, false⟩,
    ⟨R.ENGN_CTRL_SRST 0, .ws, .co, false, false⟩,
    ⟨R.ENGN_CTRL_EN 0, .rw, .rt, true, false⟩]⟩,
  ⟨0x8, 4, 1, [⟨R.ENGN_STAT_DEPTH 0, .ro, .co, false, false⟩,
    ⟨R.ENGN_STAT_GATED 0, .ro, .co, false, false⟩,
    ⟨R.ENGN_STAT_QCAUSE 0, .ro, .rt, false, true⟩,
    ⟨R.ENGN_STAT_STATE 0, .ro, .co, false, false⟩]⟩,
  ⟨0xC, 4, 1, [⟨R.ENGN_IFLG_WDOG 0, .w1c, .rt, false, true⟩,
    ⟨R.ENGN_IFLG_DED 0, .w1c, .rt, false, true⟩,
    ⟨R.ENGN_IFLG_SEC 0, .w1c, .rt, false, true⟩]⟩,
  ⟨0x10, 4, 1, [⟨R.ENGN_IEN_WDOG 0, .rw, .rt, true, false⟩,
    ⟨R.ENGN_IEN_DED 0, .rw, .rt, true, false⟩,
    ⟨R.ENGN_IEN_SEC 0, .rw, .rt, true, false⟩]⟩,
  ⟨0x14, 4, 1, [⟨R.ENGN_OWNER_ENG 0, .rw, .rt, true, false⟩,
    ⟨R.ENGN_OWNER_RZ 0, .rw, .rt, true, false⟩,
    ⟨R.ENGN_OWNER_USB 0, .rw, .rt, true, false⟩,
    ⟨R.ENGN_OWNER_CTL 0, .rw, .rt, true, false⟩]⟩,
  ⟨0x18, 4, 1, [⟨R.ENGN_ERRCNT_BLKERR 0, .rc, .rt, false, true⟩,
    ⟨R.ENGN_ERRCNT_REJ 0, .rc, .rt, false, true⟩]⟩,
  ⟨0x1C, 4, 1, [⟨R.ENGN_CGRP_GRP 0, .rw, .rt, true, false⟩]⟩,
  ⟨0x20, 4, 1, [⟨R.ENGN_TASKS_COUNT 0, .rc, .rt, false, true⟩]⟩,
  ⟨0x24, 4, 1, [⟨R.ENGN_TASKERR_COUNT 0, .rc, .rt, false, true⟩]⟩,
  ⟨0x28, 4, 1, [⟨R.ENGN_STEALS_COUNT 0, .rc, .rt, false, true⟩]⟩,
  ⟨0x2C, 4, 1, [⟨R.ENGN_RESTARTS_COUNT 0, .rc, .rt, false, true⟩]⟩,
  ⟨0x30, 4, 1, [⟨R.ENGN_LASTFAULT_SLOT 0, .ro, .rt, false, true⟩,
    ⟨R.ENGN_LASTFAULT_TASK 0, .ro, .rt, false, true⟩,
    ⟨R.ENGN_LASTFAULT_KID 0, .ro, .rt, false, true⟩]⟩]

/-- Page PDM. -/
def pdmRegs : List Reg := [
  ⟨0x0, 4, 1, [⟨R.PDM_ID_TYPE, .ro, .co, false, false⟩,
    ⟨R.PDM_ID_INST, .ro, .co, false, false⟩,
    ⟨R.PDM_ID_MAJOR, .ro, .co, false, false⟩,
    ⟨R.PDM_ID_MINOR, .ro, .co, false, false⟩]⟩,
  ⟨0x4, 4, 1, [⟨R.PDM_CTRL_SRST, .ws, .co, false, false⟩,
    ⟨R.PDM_CTRL_EN, .rw, .rt, true, false⟩]⟩,
  ⟨0x8, 4, 1, [⟨R.PDM_STAT_CLKRUN, .ro, .co, false, false⟩,
    ⟨R.PDM_STAT_MICVDDOC, .ro, .ao, false, false⟩,
    ⟨R.PDM_STAT_MICVDDON, .ro, .co, false, false⟩,
    ⟨R.PDM_STAT_REFSRC, .ro, .co, false, false⟩]⟩,
  ⟨0xC, 4, 1, [⟨R.PDM_IFLG_CLKLOSS, .w1c, .rt, false, true⟩,
    ⟨R.PDM_IFLG_MICVDDOC, .w1c, .rt, false, true⟩,
    ⟨R.PDM_IFLG_SETTLED, .w1c, .rt, false, true⟩]⟩,
  ⟨0x10, 4, 1, [⟨R.PDM_IEN_CLKLOSS, .rw, .rt, true, false⟩,
    ⟨R.PDM_IEN_MICVDDOC, .rw, .rt, true, false⟩,
    ⟨R.PDM_IEN_SETTLED, .rw, .rt, true, false⟩]⟩,
  ⟨0x14, 4, 1, [⟨R.PDM_OWNER_ENG, .rw, .rt, true, false⟩,
    ⟨R.PDM_OWNER_RZ, .rw, .rt, true, false⟩,
    ⟨R.PDM_OWNER_USB, .rw, .rt, true, false⟩,
    ⟨R.PDM_OWNER_CTL, .rw, .rt, true, false⟩]⟩,
  ⟨0x18, 4, 1, [⟨R.PDM_ERRCNT_BLKERR, .rc, .rt, false, true⟩,
    ⟨R.PDM_ERRCNT_REJ, .rc, .rt, false, true⟩]⟩,
  ⟨0x1C, 4, 1, [⟨R.PDM_CGRP_GRP, .rw, .rt, true, false⟩]⟩,
  ⟨0x20, 4, 1, [⟨R.PDM_CFG_SETTLE, .rw, .rt, true, false⟩,
    ⟨R.PDM_CFG_VDDWAIT, .rw, .rt, true, false⟩]⟩,
  ⟨0x24, 4, 4, [⟨R.PDM_CLKCFG_RATE 0, .rw, .rt, true, false⟩]⟩,
  ⟨0x34, 4, 4, [⟨R.PDM_GRPCFG_DCBLK 0, .rw, .rt, true, false⟩,
    ⟨R.PDM_GRPCFG_RATE 0, .rw, .rt, true, false⟩]⟩,
  ⟨0x44, 4, 32, [⟨R.PDM_MICCFG_EN 0, .rw, .rt, true, false⟩,
    ⟨R.PDM_MICCFG_GRP 0, .rw, .rt, true, false⟩,
    ⟨R.PDM_MICCFG_GAIN 0, .rw, .rt, true, false⟩,
    ⟨R.PDM_MICCFG_TRIM 0, .rw, .rt, true, false⟩]⟩]

/-- Page PRIV. -/
def privRegs : List Reg := [
  ⟨0x0, 4, 1, [⟨R.PRIV_ID_TYPE, .ro, .co, false, false⟩,
    ⟨R.PRIV_ID_INST, .ro, .co, false, false⟩,
    ⟨R.PRIV_ID_MAJOR, .ro, .co, false, false⟩,
    ⟨R.PRIV_ID_MINOR, .ro, .co, false, false⟩]⟩,
  ⟨0x4, 4, 1, [⟨R.PRIV_CTRL_SWMUTE, .rw, .ao, false, false⟩,
    ⟨R.PRIV_CTRL_SRST, .ws, .co, false, false⟩,
    ⟨R.PRIV_CTRL_EN, .ro, .co, false, false⟩]⟩,
  ⟨0x8, 4, 1, [⟨R.PRIV_STAT_SWLEVEL, .ro, .co, false, false⟩,
    ⟨R.PRIV_STAT_PROBE, .ro, .co, false, false⟩,
    ⟨R.PRIV_STAT_LIVEFLT, .ro, .ao, false, false⟩,
    ⟨R.PRIV_STAT_LIVE, .ro, .co, false, false⟩,
    ⟨R.PRIV_STAT_SWMUTE, .ro, .ao, false, false⟩,
    ⟨R.PRIV_STAT_HWMUTE, .ro, .ao, false, false⟩,
    ⟨R.PRIV_STAT_MUTED, .ro, .ao, false, false⟩]⟩,
  ⟨0xC, 4, 1, [⟨R.PRIV_IFLG_PEATZERO, .w1c, .ao, false, true⟩,
    ⟨R.PRIV_IFLG_LIVEFLT, .w1c, .ao, false, true⟩,
    ⟨R.PRIV_IFLG_UNMUTE, .w1c, .ao, false, true⟩,
    ⟨R.PRIV_IFLG_MUTE, .w1c, .ao, false, true⟩]⟩,
  ⟨0x10, 4, 1, [⟨R.PRIV_IEN_PEATZERO, .rw, .ao, true, false⟩,
    ⟨R.PRIV_IEN_LIVEFLT, .rw, .ao, true, false⟩,
    ⟨R.PRIV_IEN_UNMUTE, .rw, .ao, true, false⟩,
    ⟨R.PRIV_IEN_MUTE, .rw, .ao, true, false⟩]⟩,
  ⟨0x14, 4, 1, [⟨R.PRIV_OWNER_ENG, .rw, .ao, true, false⟩,
    ⟨R.PRIV_OWNER_RZ, .rw, .ao, true, false⟩,
    ⟨R.PRIV_OWNER_USB, .rw, .ao, true, false⟩,
    ⟨R.PRIV_OWNER_CTL, .rw, .ao, true, false⟩]⟩,
  ⟨0x18, 4, 1, [⟨R.PRIV_ERRCNT_BLKERR, .rc, .ao, false, true⟩,
    ⟨R.PRIV_ERRCNT_REJ, .rc, .ao, false, true⟩]⟩,
  ⟨0x1C, 4, 1, [⟨R.PRIV_CGRP_GRP, .rw, .ao, true, false⟩]⟩,
  ⟨0x20, 4, 1, [⟨R.PRIV_POLICY_MUTEI, .rwl, .ao, false, false⟩,
    ⟨R.PRIV_POLICY_LIVEI, .rwl, .ao, false, false⟩,
    ⟨R.PRIV_POLICY_MICAIN, .rwl, .ao, false, false⟩,
    ⟨R.PRIV_POLICY_IND7, .rwl, .ao, false, false⟩,
    ⟨R.PRIV_POLICY_IND6, .rwl, .ao, false, false⟩,
    ⟨R.PRIV_POLICY_LIVEREQ, .rwl, .ao, false, false⟩]⟩,
  ⟨0x24, 4, 1, [⟨R.PRIV_EVCNT_LIVEFLT, .rc, .ao, false, true⟩,
    ⟨R.PRIV_EVCNT_MUTES, .rc, .ao, false, true⟩]⟩]

/-- Page WAKE. -/
def wakeRegs : List Reg := [
  ⟨0x0, 4, 1, [⟨R.WAKE_ID_TYPE, .ro, .co, false, false⟩,
    ⟨R.WAKE_ID_INST, .ro, .co, false, false⟩,
    ⟨R.WAKE_ID_MAJOR, .ro, .co, false, false⟩,
    ⟨R.WAKE_ID_MINOR, .ro, .co, false, false⟩]⟩,
  ⟨0x4, 4, 1, [⟨R.WAKE_CTRL_FRONDEN, .rw, .ao, true, false⟩,
    ⟨R.WAKE_CTRL_SRST, .ws, .co, false, false⟩,
    ⟨R.WAKE_CTRL_EN, .rw, .ao, true, false⟩]⟩,
  ⟨0x8, 4, 1, [⟨R.WAKE_STAT_CUDONE, .ro, .co, false, false⟩,
    ⟨R.WAKE_STAT_CLAMPED, .ro, .ao, false, false⟩,
    ⟨R.WAKE_STAT_ACCPEND, .ro, .ao, false, false⟩,
    ⟨R.WAKE_STAT_DEFER, .ro, .ao, false, false⟩,
    ⟨R.WAKE_STAT_STAGE, .ro, .ao, false, false⟩]⟩,
  ⟨0xC, 4, 1, [⟨R.WAKE_IFLG_SEQFAIL, .w1c, .ao, false, true⟩,
    ⟨R.WAKE_IFLG_DEFERDISC, .w1c, .ao, false, true⟩,
    ⟨R.WAKE_IFLG_REJECT, .w1c, .ao, false, true⟩,
    ⟨R.WAKE_IFLG_ACCEPT, .w1c, .ao, false, true⟩,
    ⟨R.WAKE_IFLG_T2, .w1c, .ao, false, true⟩,
    ⟨R.WAKE_IFLG_T1, .w1c, .ao, false, true⟩]⟩,
  ⟨0x10, 4, 1, [⟨R.WAKE_IEN_SEQFAIL, .rw, .ao, true, false⟩,
    ⟨R.WAKE_IEN_DEFERDISC, .rw, .ao, true, false⟩,
    ⟨R.WAKE_IEN_REJECT, .rw, .ao, true, false⟩,
    ⟨R.WAKE_IEN_ACCEPT, .rw, .ao, true, false⟩,
    ⟨R.WAKE_IEN_T2, .rw, .ao, true, false⟩,
    ⟨R.WAKE_IEN_T1, .rw, .ao, true, false⟩]⟩,
  ⟨0x14, 4, 1, [⟨R.WAKE_OWNER_ENG, .rw, .ao, true, false⟩,
    ⟨R.WAKE_OWNER_RZ, .rw, .ao, true, false⟩,
    ⟨R.WAKE_OWNER_USB, .rw, .ao, true, false⟩,
    ⟨R.WAKE_OWNER_CTL, .rw, .ao, true, false⟩]⟩,
  ⟨0x18, 4, 1, [⟨R.WAKE_ERRCNT_BLKERR, .rc, .ao, false, true⟩,
    ⟨R.WAKE_ERRCNT_REJ, .rc, .ao, false, true⟩]⟩,
  ⟨0x1C, 4, 1, [⟨R.WAKE_CGRP_GRP, .rw, .ao, true, false⟩]⟩,
  ⟨0x20, 4, 1, [⟨R.WAKE_THR_T2, .rw, .ao, true, false⟩,
    ⟨R.WAKE_THR_T1, .rw, .ao, true, false⟩]⟩,
  ⟨0x24, 4, 1, [⟨R.WAKE_TIMING_DEFER, .rw, .ao, true, false⟩,
    ⟨R.WAKE_TIMING_PREROLL, .rw, .ao, true, false⟩]⟩,
  ⟨0x28, 4, 1, [⟨R.WAKE_WIN_VWIN, .rw, .ao, true, false⟩,
    ⟨R.WAKE_WIN_FHDWIN, .rw, .ao, true, false⟩]⟩,
  ⟨0x2C, 4, 1, [⟨R.WAKE_HOSTWAKE_RZ, .rw, .ao, true, false⟩,
    ⟨R.WAKE_HOSTWAKE_USB, .rw, .ao, true, false⟩,
    ⟨R.WAKE_HOSTWAKE_IRQ, .rw, .ao, true, false⟩]⟩,
  ⟨0x30, 4, 1, [⟨R.WAKE_VSEQ_AUTO, .rw, .ao, true, false⟩,
    ⟨R.WAKE_VSEQ_VSLOT, .rw, .ao, true, false⟩,
    ⟨R.WAKE_VSEQ_VHDR, .rw, .ao, true, false⟩]⟩,
  ⟨0x34, 4, 1, [⟨R.WAKE_VCTX_VEN, .rw, .ao, true, false⟩,
    ⟨R.WAKE_VCTX_CTX, .rw, .ao, true, false⟩,
    ⟨R.WAKE_VCTX_DEN, .rw, .ao, true, false⟩,
    ⟨R.WAKE_VCTX_DCTX, .rw, .ao, true, false⟩]⟩,
  ⟨0x38, 4, 1, [⟨R.WAKE_VERDICT_V, .wo, .co, false, false⟩]⟩,
  ⟨0x3C, 4, 1, [⟨R.WAKE_ONSETLO_IDX, .ro, .ao, false, false⟩]⟩,
  ⟨0x40, 4, 1, [⟨R.WAKE_ONSETHI_IDX, .ro, .ao, false, false⟩]⟩,
  ⟨0x44, 4, 1, [⟨R.WAKE_STARTLO_IDX, .ro, .ao, false, false⟩]⟩,
  ⟨0x48, 4, 1, [⟨R.WAKE_STARTHI_IDX, .ro, .ao, false, false⟩]⟩,
  ⟨0x4C, 4, 1, [⟨R.WAKE_CONF_FHD, .ro, .ao, false, false⟩,
    ⟨R.WAKE_CONF_SPORE, .ro, .ao, false, false⟩]⟩,
  ⟨0x50, 4, 1, [⟨R.WAKE_REJCNT_DEFERDISC, .rc, .ao, false, true⟩,
    ⟨R.WAKE_REJCNT_FROND, .rc, .ao, false, true⟩,
    ⟨R.WAKE_REJCNT_FHD, .rc, .ao, false, true⟩,
    ⟨R.WAKE_REJCNT_SPORE, .rc, .ao, false, true⟩]⟩,
  ⟨0x54, 4, 1, [⟨R.WAKE_EVCNT_MUTEDISC, .rc, .ao, false, true⟩,
    ⟨R.WAKE_EVCNT_EXPIRED, .rc, .ao, false, true⟩,
    ⟨R.WAKE_EVCNT_ACCEPTS, .rc, .ao, false, true⟩]⟩,
  ⟨0x58, 4, 1, [⟨R.WAKE_CUCFG_CATCHUP, .rw, .ao, true, false⟩,
    ⟨R.WAKE_CUCFG_TGT, .rw, .ao, true, false⟩,
    ⟨R.WAKE_CUCFG_PORT, .rw, .ao, true, false⟩,
    ⟨R.WAKE_CUCFG_FIRST, .rw, .ao, true, false⟩,
    ⟨R.WAKE_CUCFG_RATE, .rw, .ao, true, false⟩]⟩]

/-- Page PEAT. -/
def peatRegs : List Reg := [
  ⟨0x0, 4, 1, [⟨R.PEAT_ID_TYPE, .ro, .co, false, false⟩,
    ⟨R.PEAT_ID_INST, .ro, .co, false, false⟩,
    ⟨R.PEAT_ID_MAJOR, .ro, .co, false, false⟩,
    ⟨R.PEAT_ID_MINOR, .ro, .co, false, false⟩]⟩,
  ⟨0x4, 4, 1, [⟨R.PEAT_CTRL_SRST, .ws, .co, false, false⟩,
    ⟨R.PEAT_CTRL_EN, .rw, .ao, true, false⟩]⟩,
  ⟨0x8, 4, 1, []⟩,
  ⟨0xC, 4, 1, [⟨R.PEAT_IFLG_FLAGS, .w1c, .ao, false, true⟩]⟩,
  ⟨0x10, 4, 1, [⟨R.PEAT_IEN_EN, .rw, .ao, true, false⟩]⟩,
  ⟨0x14, 4, 1, [⟨R.PEAT_OWNER_ENG, .rw, .ao, true, false⟩,
    ⟨R.PEAT_OWNER_RZ, .rw, .ao, true, false⟩,
    ⟨R.PEAT_OWNER_USB, .rw, .ao, true, false⟩,
    ⟨R.PEAT_OWNER_CTL, .rw, .ao, true, false⟩]⟩,
  ⟨0x18, 4, 1, [⟨R.PEAT_ERRCNT_BLKERR, .rc, .ao, false, true⟩,
    ⟨R.PEAT_ERRCNT_REJ, .rc, .ao, false, true⟩]⟩,
  ⟨0x1C, 4, 1, [⟨R.PEAT_CGRP_GRP, .rw, .ao, true, false⟩]⟩,
  ⟨0x20, 4, 1, [⟨R.PEAT_CFG_NCH, .rw, .ao, true, false⟩,
    ⟨R.PEAT_CFG_WIDTH, .rw, .ao, true, false⟩,
    ⟨R.PEAT_CFG_RATE, .rw, .ao, true, false⟩]⟩,
  ⟨0x24, 4, 1, [⟨R.PEAT_CHSRC_CH3, .rw, .ao, true, false⟩,
    ⟨R.PEAT_CHSRC_CH2, .rw, .ao, true, false⟩,
    ⟨R.PEAT_CHSRC_CH1, .rw, .ao, true, false⟩,
    ⟨R.PEAT_CHSRC_CH0, .rw, .ao, true, false⟩]⟩,
  ⟨0x28, 4, 1, [⟨R.PEAT_CAP_CAP, .ro, .co, false, false⟩]⟩,
  ⟨0x2C, 4, 1, [⟨R.PEAT_RSEL_CTX, .rw, .co, false, false⟩]⟩,
  ⟨0x30, 4, 1, [⟨R.PEAT_WIDXLO_V, .ro, .ao, false, false⟩]⟩,
  ⟨0x34, 4, 1, [⟨R.PEAT_WIDXHI_V, .ro, .ao, false, false⟩]⟩,
  ⟨0x38, 4, 1, [⟨R.PEAT_RIDXLO_V, .ro, .co, false, false⟩]⟩,
  ⟨0x3C, 4, 1, [⟨R.PEAT_RIDXHI_V, .ro, .co, false, false⟩]⟩,
  ⟨0x40, 4, 1, [⟨R.PEAT_LAG_V, .ro, .co, false, false⟩]⟩]

/-- Page FHD. -/
def fhdRegs : List Reg := [
  ⟨0x0, 4, 1, [⟨R.FHD_ID_TYPE, .ro, .co, false, false⟩,
    ⟨R.FHD_ID_INST, .ro, .co, false, false⟩,
    ⟨R.FHD_ID_MAJOR, .ro, .co, false, false⟩,
    ⟨R.FHD_ID_MINOR, .ro, .co, false, false⟩]⟩,
  ⟨0x4, 4, 1, [⟨R.FHD_CTRL_SRST, .ws, .co, false, false⟩,
    ⟨R.FHD_CTRL_EN, .rw, .ao, true, false⟩]⟩,
  ⟨0x8, 4, 1, [⟨R.FHD_STAT_ENGAGED, .ro, .co, false, false⟩,
    ⟨R.FHD_STAT_MODELOK, .ro, .ao, false, false⟩]⟩,
  ⟨0xC, 4, 1, [⟨R.FHD_IFLG_MODELBAD, .w1c, .ao, false, true⟩,
    ⟨R.FHD_IFLG_MODELOK, .w1c, .ao, false, true⟩]⟩,
  ⟨0x10, 4, 1, [⟨R.FHD_IEN_MODELBAD, .rw, .ao, true, false⟩,
    ⟨R.FHD_IEN_MODELOK, .rw, .ao, true, false⟩]⟩,
  ⟨0x14, 4, 1, [⟨R.FHD_OWNER_ENG, .rw, .ao, true, false⟩,
    ⟨R.FHD_OWNER_RZ, .rw, .ao, true, false⟩,
    ⟨R.FHD_OWNER_USB, .rw, .ao, true, false⟩,
    ⟨R.FHD_OWNER_CTL, .rw, .ao, true, false⟩]⟩,
  ⟨0x18, 4, 1, [⟨R.FHD_ERRCNT_BLKERR, .rc, .ao, false, true⟩,
    ⟨R.FHD_ERRCNT_REJ, .rc, .ao, false, true⟩]⟩,
  ⟨0x1C, 4, 1, [⟨R.FHD_CGRP_GRP, .rw, .ao, true, false⟩]⟩,
  ⟨0x20, 4, 1, [⟨R.FHD_WCTRL_START, .ws, .co, false, false⟩]⟩,
  ⟨0x24, 4, 1, [⟨R.FHD_WFIFO_DATA, .wo, .co, false, false⟩]⟩,
  ⟨0x28, 4, 1, [⟨R.FHD_BEAM_DELAY, .rw, .ao, true, false⟩]⟩,
  ⟨0x2C, 4, 1, [⟨R.FHD_MINFO_VERSION, .ro, .ao, false, false⟩]⟩]

/-- Page AIN. -/
def ainRegs : List Reg := [
  ⟨0x0, 4, 1, [⟨R.AIN_ID_TYPE, .ro, .co, false, false⟩,
    ⟨R.AIN_ID_INST, .ro, .co, false, false⟩,
    ⟨R.AIN_ID_MAJOR, .ro, .co, false, false⟩,
    ⟨R.AIN_ID_MINOR, .ro, .co, false, false⟩]⟩,
  ⟨0x4, 4, 1, [⟨R.AIN_CTRL_SRST, .ws, .co, false, false⟩,
    ⟨R.AIN_CTRL_EN, .rw, .rt, true, false⟩]⟩,
  ⟨0x8, 4, 1, [⟨R.AIN_STAT_MBOC, .ro, .co, false, false⟩,
    ⟨R.AIN_STAT_CUT, .ro, .co, false, false⟩,
    ⟨R.AIN_STAT_ON, .ro, .co, false, false⟩]⟩,
  ⟨0xC, 4, 1, [⟨R.AIN_IFLG_MBOC, .w1c, .rt, false, true⟩,
    ⟨R.AIN_IFLG_CLIP, .w1c, .rt, false, true⟩]⟩,
  ⟨0x10, 4, 1, [⟨R.AIN_IEN_MBOC, .rw, .rt, true, false⟩,
    ⟨R.AIN_IEN_CLIP, .rw, .rt, true, false⟩]⟩,
  ⟨0x14, 4, 1, [⟨R.AIN_OWNER_ENG, .rw, .rt, true, false⟩,
    ⟨R.AIN_OWNER_RZ, .rw, .rt, true, false⟩,
    ⟨R.AIN_OWNER_USB, .rw, .rt, true, false⟩,
    ⟨R.AIN_OWNER_CTL, .rw, .rt, true, false⟩]⟩,
  ⟨0x18, 4, 1, [⟨R.AIN_ERRCNT_BLKERR, .rc, .rt, false, true⟩,
    ⟨R.AIN_ERRCNT_REJ, .rc, .rt, false, true⟩]⟩,
  ⟨0x1C, 4, 1, [⟨R.AIN_CGRP_GRP, .rw, .rt, true, false⟩]⟩,
  ⟨0x20, 4, 4, [⟨R.AIN_INCFG_EN 0, .rw, .rt, true, false⟩,
    ⟨R.AIN_INCFG_SE 0, .rw, .rt, true, false⟩,
    ⟨R.AIN_INCFG_HPF 0, .rw, .rt, true, false⟩,
    ⟨R.AIN_INCFG_PGA 0, .rw, .rt, true, false⟩,
    ⟨R.AIN_INCFG_DGAIN 0, .rws, .rt, true, false⟩]⟩,
  ⟨0x30, 4, 1, [⟨R.AIN_BIAS_MB1V, .rw, .rt, true, false⟩,
    ⟨R.AIN_BIAS_MB1EN, .rw, .rt, true, false⟩,
    ⟨R.AIN_BIAS_MB0V, .rw, .rt, true, false⟩,
    ⟨R.AIN_BIAS_MB0EN, .rw, .rt, true, false⟩]⟩]

/-- Page HP. -/
def hpRegs : List Reg := [
  ⟨0x0, 4, 1, [⟨R.HP_ID_TYPE, .ro, .co, false, false⟩,
    ⟨R.HP_ID_INST, .ro, .co, false, false⟩,
    ⟨R.HP_ID_MAJOR, .ro, .co, false, false⟩,
    ⟨R.HP_ID_MINOR, .ro, .co, false, false⟩]⟩,
  ⟨0x4, 4, 1, [⟨R.HP_CTRL_SRST, .ws, .co, false, false⟩,
    ⟨R.HP_CTRL_EN, .rw, .rt, true, false⟩]⟩,
  ⟨0x8, 4, 1, [⟨R.HP_STAT_STATE, .ro, .co, false, false⟩,
    ⟨R.HP_STAT_OCP, .ro, .co, false, false⟩,
    ⟨R.HP_STAT_CLAMP, .ro, .co, false, false⟩,
    ⟨R.HP_STAT_SERVO, .ro, .co, false, false⟩,
    ⟨R.HP_STAT_CPOK, .ro, .co, false, false⟩]⟩,
  ⟨0xC, 4, 1, [⟨R.HP_IFLG_OCP, .w1c, .rt, false, true⟩,
    ⟨R.HP_IFLG_LOWZ, .w1c, .rt, false, true⟩,
    ⟨R.HP_IFLG_READY, .w1c, .rt, false, true⟩]⟩,
  ⟨0x10, 4, 1, [⟨R.HP_IEN_OCP, .rw, .rt, true, false⟩,
    ⟨R.HP_IEN_LOWZ, .rw, .rt, true, false⟩,
    ⟨R.HP_IEN_READY, .rw, .rt, true, false⟩]⟩,
  ⟨0x14, 4, 1, [⟨R.HP_OWNER_ENG, .rw, .rt, true, false⟩,
    ⟨R.HP_OWNER_RZ, .rw, .rt, true, false⟩,
    ⟨R.HP_OWNER_USB, .rw, .rt, true, false⟩,
    ⟨R.HP_OWNER_CTL, .rw, .rt, true, false⟩]⟩,
  ⟨0x18, 4, 1, [⟨R.HP_ERRCNT_BLKERR, .rc, .rt, false, true⟩,
    ⟨R.HP_ERRCNT_REJ, .rc, .rt, false, true⟩]⟩,
  ⟨0x1C, 4, 1, [⟨R.HP_CGRP_GRP, .rw, .rt, true, false⟩]⟩,
  ⟨0x20, 4, 1, [⟨R.HP_CFG_MRAMP, .rw, .rt, true, false⟩,
    ⟨R.HP_CFG_LOWZOK, .rw, .rt, true, false⟩,
    ⟨R.HP_CFG_JGATE, .rw, .rt, true, false⟩,
    ⟨R.HP_CFG_RANGE, .rw, .rt, true, false⟩]⟩,
  ⟨0x24, 4, 1, [⟨R.HP_VOL_MUTER, .rws, .rt, true, false⟩,
    ⟨R.HP_VOL_VOLR, .rws, .rt, true, false⟩,
    ⟨R.HP_VOL_MUTEL, .rws, .rt, true, false⟩,
    ⟨R.HP_VOL_VOLL, .rws, .rt, true, false⟩]⟩,
  ⟨0x28, 4, 1, [⟨R.HP_SERVOOFS_OFSR, .ro, .co, false, false⟩,
    ⟨R.HP_SERVOOFS_OFSL, .ro, .co, false, false⟩]⟩]

/-- Page LOUT. -/
def loutRegs : List Reg := [
  ⟨0x0, 4, 1, [⟨R.LOUT_ID_TYPE, .ro, .co, false, false⟩,
    ⟨R.LOUT_ID_INST, .ro, .co, false, false⟩,
    ⟨R.LOUT_ID_MAJOR, .ro, .co, false, false⟩,
    ⟨R.LOUT_ID_MINOR, .ro, .co, false, false⟩]⟩,
  ⟨0x4, 4, 1, [⟨R.LOUT_CTRL_SRST, .ws, .co, false, false⟩,
    ⟨R.LOUT_CTRL_EN, .rw, .rt, true, false⟩]⟩,
  ⟨0x8, 4, 1, [⟨R.LOUT_STAT_OCP, .ro, .co, false, false⟩,
    ⟨R.LOUT_STAT_ON, .ro, .co, false, false⟩]⟩,
  ⟨0xC, 4, 1, [⟨R.LOUT_IFLG_OCP, .w1c, .rt, false, true⟩]⟩,
  ⟨0x10, 4, 1, [⟨R.LOUT_IEN_OCP, .rw, .rt, true, false⟩]⟩,
  ⟨0x14, 4, 1, [⟨R.LOUT_OWNER_ENG, .rw, .rt, true, false⟩,
    ⟨R.LOUT_OWNER_RZ, .rw, .rt, true, false⟩,
    ⟨R.LOUT_OWNER_USB, .rw, .rt, true, false⟩,
    ⟨R.LOUT_OWNER_CTL, .rw, .rt, true, false⟩]⟩,
  ⟨0x18, 4, 1, [⟨R.LOUT_ERRCNT_BLKERR, .rc, .rt, false, true⟩,
    ⟨R.LOUT_ERRCNT_REJ, .rc, .rt, false, true⟩]⟩,
  ⟨0x1C, 4, 1, [⟨R.LOUT_CGRP_GRP, .rw, .rt, true, false⟩]⟩,
  ⟨0x20, 4, 1, [⟨R.LOUT_CFG_MRAMP, .rw, .rt, true, false⟩,
    ⟨R.LOUT_CFG_OEN1, .rw, .rt, true, false⟩,
    ⟨R.LOUT_CFG_OEN0, .rw, .rt, true, false⟩]⟩,
  ⟨0x24, 4, 1, [⟨R.LOUT_VOL_MUTE1, .rws, .rt, true, false⟩,
    ⟨R.LOUT_VOL_VOL1, .rws, .rt, true, false⟩,
    ⟨R.LOUT_VOL_MUTE0, .rws, .rt, true, false⟩,
    ⟨R.LOUT_VOL_VOL0, .rws, .rt, true, false⟩]⟩]

/-- Page JACK. -/
def jackRegs : List Reg := [
  ⟨0x0, 4, 1, [⟨R.JACK_ID_TYPE, .ro, .co, false, false⟩,
    ⟨R.JACK_ID_INST, .ro, .co, false, false⟩,
    ⟨R.JACK_ID_MAJOR, .ro, .co, false, false⟩,
    ⟨R.JACK_ID_MINOR, .ro, .co, false, false⟩]⟩,
  ⟨0x4, 4, 1, [⟨R.JACK_CTRL_SRST, .ws, .co, false, false⟩,
    ⟨R.JACK_CTRL_EN, .rw, .ao, true, false⟩]⟩,
  ⟨0x8, 4, 1, [⟨R.JACK_STAT_BTN, .ro, .co, false, false⟩,
    ⟨R.JACK_STAT_ZCLASS, .ro, .ao, false, false⟩,
    ⟨R.JACK_STAT_TYPE, .ro, .ao, false, false⟩,
    ⟨R.JACK_STAT_JSTATE, .ro, .ao, false, false⟩,
    ⟨R.JACK_STAT_DETRAW, .ro, .co, false, false⟩]⟩,
  ⟨0xC, 4, 1, [⟨R.JACK_IFLG_BTNUP, .w1c, .ao, false, true⟩,
    ⟨R.JACK_IFLG_BTNDN, .w1c, .ao, false, true⟩,
    ⟨R.JACK_IFLG_TYPE, .w1c, .ao, false, true⟩,
    ⟨R.JACK_IFLG_REMOVE, .w1c, .ao, false, true⟩,
    ⟨R.JACK_IFLG_INSERT, .w1c, .ao, false, true⟩]⟩,
  ⟨0x10, 4, 1, [⟨R.JACK_IEN_BTNUP, .rw, .ao, true, false⟩,
    ⟨R.JACK_IEN_BTNDN, .rw, .ao, true, false⟩,
    ⟨R.JACK_IEN_TYPE, .rw, .ao, true, false⟩,
    ⟨R.JACK_IEN_REMOVE, .rw, .ao, true, false⟩,
    ⟨R.JACK_IEN_INSERT, .rw, .ao, true, false⟩]⟩,
  ⟨0x14, 4, 1, [⟨R.JACK_OWNER_ENG, .rw, .ao, true, false⟩,
    ⟨R.JACK_OWNER_RZ, .rw, .ao, true, false⟩,
    ⟨R.JACK_OWNER_USB, .rw, .ao, true, false⟩,
    ⟨R.JACK_OWNER_CTL, .rw, .ao, true, false⟩]⟩,
  ⟨0x18, 4, 1, [⟨R.JACK_ERRCNT_BLKERR, .rc, .ao, false, true⟩,
    ⟨R.JACK_ERRCNT_REJ, .rc, .ao, false, true⟩]⟩,
  ⟨0x1C, 4, 1, [⟨R.JACK_CGRP_GRP, .rw, .ao, true, false⟩]⟩,
  ⟨0x20, 4, 1, [⟨R.JACK_CFG_DEB, .rw, .ao, true, false⟩,
    ⟨R.JACK_CFG_FORCE, .rw, .ao, true, false⟩,
    ⟨R.JACK_CFG_BTNDEB, .rw, .ao, true, false⟩,
    ⟨R.JACK_CFG_DETPOL, .rw, .ao, true, false⟩,
    ⟨R.JACK_CFG_JWAKE, .rw, .ao, true, false⟩,
    ⟨R.JACK_CFG_LPBTN, .rw, .ao, true, false⟩,
    ⟨R.JACK_CFG_BTNMUTE, .rw, .ao, true, false⟩,
    ⟨R.JACK_CFG_GSAUTO, .rw, .ao, true, false⟩]⟩,
  ⟨0x24, 4, 1, [⟨R.JACK_BTNTHR_TH3, .rw, .ao, true, false⟩,
    ⟨R.JACK_BTNTHR_TH2, .rw, .ao, true, false⟩,
    ⟨R.JACK_BTNTHR_TH1, .rw, .ao, true, false⟩,
    ⟨R.JACK_BTNTHR_TH0, .rw, .ao, true, false⟩]⟩,
  ⟨0x28, 4, 1, [⟨R.JACK_BTNMAP_B3, .rw, .ao, true, false⟩,
    ⟨R.JACK_BTNMAP_B2, .rw, .ao, true, false⟩,
    ⟨R.JACK_BTNMAP_B1, .rw, .ao, true, false⟩,
    ⟨R.JACK_BTNMAP_B0, .rw, .ao, true, false⟩]⟩,
  ⟨0x2C, 4, 1, [⟨R.JACK_ZMEAS_ZR, .ro, .ao, false, false⟩,
    ⟨R.JACK_ZMEAS_ZL, .ro, .ao, false, false⟩]⟩,
  ⟨0x30, 4, 1, [⟨R.JACK_POLE_RB, .ro, .ao, false, false⟩,
    ⟨R.JACK_POLE_RA, .ro, .ao, false, false⟩]⟩,
  ⟨0x34, 4, 1, [⟨R.JACK_EVCNT_ABORTS, .rc, .ao, false, true⟩,
    ⟨R.JACK_EVCNT_BTNPRESS, .rc, .ao, false, true⟩,
    ⟨R.JACK_EVCNT_INSERTS, .rc, .ao, false, true⟩]⟩]

/-- Page AMP. -/
def ampRegs : List Reg := [
  ⟨0x0, 4, 1, [⟨R.AMP_ID_TYPE 0, .ro, .co, false, false⟩,
    ⟨R.AMP_ID_INST 0, .ro, .co, false, false⟩,
    ⟨R.AMP_ID_MAJOR 0, .ro, .co, false, false⟩,
    ⟨R.AMP_ID_MINOR 0, .ro, .co, false, false⟩]⟩,
  ⟨0x4, 4, 1, [⟨R.AMP_CTRL_CLRFLT 0, .ws, .co, false, false⟩,
    ⟨R.AMP_CTRL_SRST 0, .ws, .co, false, false⟩,
    ⟨R.AMP_CTRL_EN 0, .rw, .rt, true, false⟩]⟩,
  ⟨0x8, 4, 1, [⟨R.AMP_STAT_STATE 0, .ro, .rt, false, false⟩,
    ⟨R.AMP_STAT_LIMD 0, .ro, .co, false, false⟩,
    ⟨R.AMP_STAT_LIMP 0, .ro, .co, false, false⟩,
    ⟨R.AMP_STAT_LIMX 0, .ro, .co, false, false⟩,
    ⟨R.AMP_STAT_LIMT 0, .ro, .co, false, false⟩,
    ⟨R.AMP_STAT_CBC 0, .ro, .co, false, false⟩]⟩,
  ⟨0xC, 4, 1, [⟨R.AMP_IFLG_LATCH 0, .w1c, .rt, false, true⟩,
    ⟨R.AMP_IFLG_RESUME 0, .w1c, .rt, false, true⟩,
    ⟨R.AMP_IFLG_FAULT 0, .w1c, .rt, false, true⟩,
    ⟨R.AMP_IFLG_CBC 0, .w1c, .rt, false, true⟩,
    ⟨R.AMP_IFLG_LIMIT 0, .w1c, .rt, false, true⟩]⟩,
  ⟨0x10, 4, 1, [⟨R.AMP_IEN_LATCH 0, .rw, .rt, true, false⟩,
    ⟨R.AMP_IEN_RESUME 0, .rw, .rt, true, false⟩,
    ⟨R.AMP_IEN_FAULT 0, .rw, .rt, true, false⟩,
    ⟨R.AMP_IEN_CBC 0, .rw, .rt, true, false⟩,
    ⟨R.AMP_IEN_LIMIT 0, .rw, .rt, true, false⟩]⟩,
  ⟨0x14, 4, 1, [⟨R.AMP_OWNER_ENG 0, .rw, .rt, true, false⟩,
    ⟨R.AMP_OWNER_RZ 0, .rw, .rt, true, false⟩,
    ⟨R.AMP_OWNER_USB 0, .rw, .rt, true, false⟩,
    ⟨R.AMP_OWNER_CTL 0, .rw, .rt, true, false⟩]⟩,
  ⟨0x18, 4, 1, [⟨R.AMP_ERRCNT_BLKERR 0, .rc, .rt, false, true⟩,
    ⟨R.AMP_ERRCNT_REJ 0, .rc, .rt, false, true⟩]⟩,
  ⟨0x1C, 4, 1, [⟨R.AMP_CGRP_GRP 0, .rw, .rt, true, false⟩]⟩,
  ⟨0x20, 4, 1, [⟨R.AMP_CFG_PHASE 0, .rw, .rt, true, false⟩,
    ⟨R.AMP_CFG_CBCLIM 0, .rw, .rt, true, false⟩,
    ⟨R.AMP_CFG_VFS 0, .rw, .rt, true, false⟩,
    ⟨R.AMP_CFG_NORETRY 0, .rw, .rt, true, false⟩]⟩,
  ⟨0x24, 4, 1, [⟨R.AMP_VOL_MUTE 0, .rws, .rt, true, false⟩,
    ⟨R.AMP_VOL_GAIN 0, .rws, .rt, true, false⟩]⟩,
  ⟨0x28, 4, 1, [⟨R.AMP_FAULT_CAUSE 0, .ro, .rt, false, false⟩,
    ⟨R.AMP_FAULT_TRIES 0, .ro, .rt, false, false⟩]⟩,
  ⟨0x2C, 4, 1, [⟨R.AMP_LOADZ_Z 0, .ro, .rt, false, false⟩]⟩,
  ⟨0x30, 4, 1, [⟨R.AMP_GAINRED_GD 0, .ro, .co, false, false⟩,
    ⟨R.AMP_GAINRED_GP 0, .ro, .co, false, false⟩,
    ⟨R.AMP_GAINRED_GX 0, .ro, .co, false, false⟩,
    ⟨R.AMP_GAINRED_GT 0, .ro, .co, false, false⟩]⟩,
  ⟨0x34, 4, 1, [⟨R.AMP_EVCNT_CBCBLK 0, .rc, .rt, false, true⟩,
    ⟨R.AMP_EVCNT_FAULTS 0, .rc, .rt, false, true⟩,
    ⟨R.AMP_EVCNT_LATCHES 0, .rc, .rt, false, true⟩]⟩]

/-- Page AMPG. -/
def ampgRegs : List Reg := [
  ⟨0x0, 4, 1, [⟨R.AMPG_ID_TYPE, .ro, .co, false, false⟩,
    ⟨R.AMPG_ID_INST, .ro, .co, false, false⟩,
    ⟨R.AMPG_ID_MAJOR, .ro, .co, false, false⟩,
    ⟨R.AMPG_ID_MINOR, .ro, .co, false, false⟩]⟩,
  ⟨0x4, 4, 1, [⟨R.AMPG_CTRL_SRST, .ws, .co, false, false⟩,
    ⟨R.AMPG_CTRL_EN, .rw, .rt, true, false⟩]⟩,
  ⟨0x8, 4, 1, [⟨R.AMPG_STAT_PVDD, .ro, .co, false, false⟩,
    ⟨R.AMPG_STAT_TDIE, .ro, .co, false, false⟩,
    ⟨R.AMPG_STAT_TWARN, .ro, .co, false, false⟩,
    ⟨R.AMPG_STAT_TFOLD, .ro, .co, false, false⟩,
    ⟨R.AMPG_STAT_TSD, .ro, .co, false, false⟩,
    ⟨R.AMPG_STAT_OV, .ro, .co, false, false⟩,
    ⟨R.AMPG_STAT_UV, .ro, .co, false, false⟩]⟩,
  ⟨0xC, 4, 1, [⟨R.AMPG_IFLG_TWARN, .w1c, .rt, false, true⟩,
    ⟨R.AMPG_IFLG_TFOLD, .w1c, .rt, false, true⟩,
    ⟨R.AMPG_IFLG_TSD, .w1c, .rt, false, true⟩,
    ⟨R.AMPG_IFLG_OV, .w1c, .rt, false, true⟩,
    ⟨R.AMPG_IFLG_UV, .w1c, .rt, false, true⟩]⟩,
  ⟨0x10, 4, 1, [⟨R.AMPG_IEN_TWARN, .rw, .rt, true, false⟩,
    ⟨R.AMPG_IEN_TFOLD, .rw, .rt, true, false⟩,
    ⟨R.AMPG_IEN_TSD, .rw, .rt, true, false⟩,
    ⟨R.AMPG_IEN_OV, .rw, .rt, true, false⟩,
    ⟨R.AMPG_IEN_UV, .rw, .rt, true, false⟩]⟩,
  ⟨0x14, 4, 1, [⟨R.AMPG_OWNER_ENG, .rw, .rt, true, false⟩,
    ⟨R.AMPG_OWNER_RZ, .rw, .rt, true, false⟩,
    ⟨R.AMPG_OWNER_USB, .rw, .rt, true, false⟩,
    ⟨R.AMPG_OWNER_CTL, .rw, .rt, true, false⟩]⟩,
  ⟨0x18, 4, 1, [⟨R.AMPG_ERRCNT_BLKERR, .rc, .rt, false, true⟩,
    ⟨R.AMPG_ERRCNT_REJ, .rc, .rt, false, true⟩]⟩,
  ⟨0x1C, 4, 1, [⟨R.AMPG_CGRP_GRP, .rw, .rt, true, false⟩]⟩,
  ⟨0x20, 4, 1, [⟨R.AMPG_CFG_FSW, .rw, .rt, true, false⟩,
    ⟨R.AMPG_CFG_SPREAD, .rw, .rt, true, false⟩,
    ⟨R.AMPG_CFG_ER, .rw, .rt, true, false⟩,
    ⟨R.AMPG_CFG_MOD, .rw, .rt, true, false⟩,
    ⟨R.AMPG_CFG_PAIRCD, .rw, .rt, true, false⟩,
    ⟨R.AMPG_CFG_PAIRAB, .rw, .rt, true, false⟩,
    ⟨R.AMPG_CFG_LOOKAHEAD, .rw, .rt, true, false⟩]⟩,
  ⟨0x24, 4, 1, [⟨R.AMPG_PVLIM_HEADRM, .rw, .rt, true, false⟩,
    ⟨R.AMPG_PVLIM_RELEASE, .rw, .rt, true, false⟩,
    ⟨R.AMPG_PVLIM_EN, .rw, .rt, true, false⟩]⟩,
  ⟨0x28, 4, 1, [⟨R.AMPG_RETRY_INTERVAL, .rw, .rt, true, false⟩,
    ⟨R.AMPG_RETRY_CLEAN, .rw, .rt, true, false⟩,
    ⟨R.AMPG_RETRY_DCTHR, .rw, .rt, true, false⟩]⟩]

/-- Page SPKP. -/
def spkpRegs : List Reg := [
  ⟨0x0, 4, 1, [⟨R.SPKP_ID_TYPE, .ro, .co, false, false⟩,
    ⟨R.SPKP_ID_INST, .ro, .co, false, false⟩,
    ⟨R.SPKP_ID_MAJOR, .ro, .co, false, false⟩,
    ⟨R.SPKP_ID_MINOR, .ro, .co, false, false⟩]⟩,
  ⟨0x4, 4, 1, [⟨R.SPKP_CTRL_SRST, .ws, .co, false, false⟩,
    ⟨R.SPKP_CTRL_EN, .rw, .rt, true, false⟩]⟩,
  ⟨0x8, 4, 1, []⟩,
  ⟨0xC, 4, 1, [⟨R.SPKP_IFLG_NTCSTALE, .w1c, .rt, false, true⟩]⟩,
  ⟨0x10, 4, 1, [⟨R.SPKP_IEN_NTCSTALE, .rw, .rt, true, false⟩]⟩,
  ⟨0x14, 4, 1, [⟨R.SPKP_OWNER_ENG, .rw, .rt, true, false⟩,
    ⟨R.SPKP_OWNER_RZ, .rw, .rt, true, false⟩,
    ⟨R.SPKP_OWNER_USB, .rw, .rt, true, false⟩,
    ⟨R.SPKP_OWNER_CTL, .rw, .rt, true, false⟩]⟩,
  ⟨0x18, 4, 1, [⟨R.SPKP_ERRCNT_BLKERR, .rc, .rt, false, true⟩,
    ⟨R.SPKP_ERRCNT_REJ, .rc, .rt, false, true⟩]⟩,
  ⟨0x1C, 4, 1, [⟨R.SPKP_CGRP_GRP, .rw, .rt, true, false⟩]⟩,
  ⟨0x20, 4, 1, [⟨R.SPKP_SEL_CH, .rw, .co, false, false⟩]⟩,
  ⟨0x24, 4, 1, [⟨R.SPKP_CTL_EN, .rw, .rt, true, false⟩,
    ⟨R.SPKP_CTL_RETRK, .rw, .rt, true, false⟩,
    ⟨R.SPKP_CTL_MAGSRC, .rw, .rt, true, false⟩,
    ⟨R.SPKP_CTL_KRE, .rw, .rt, true, false⟩,
    ⟨R.SPKP_CTL_PILOTLVL, .rw, .rt, true, false⟩,
    ⟨R.SPKP_CTL_PILOTF, .rw, .rt, true, false⟩]⟩,
  ⟨0x28, 4, 1, [⟨R.SPKP_RE0_T0COIL, .rw, .rt, true, false⟩,
    ⟨R.SPKP_RE0_RE0, .rw, .rt, true, false⟩]⟩,
  ⟨0x2C, 4, 1, [⟨R.SPKP_ALPHA_ALPHA, .rw, .rt, true, false⟩]⟩,
  ⟨0x30, 4, 1, [⟨R.SPKP_COIL_RTHC, .rw, .rt, true, false⟩,
    ⟨R.SPKP_COIL_TAUC, .rw, .rt, true, false⟩]⟩,
  ⟨0x34, 4, 1, [⟨R.SPKP_MAG_RTHM, .rw, .rt, true, false⟩,
    ⟨R.SPKP_MAG_TAUM, .rw, .rt, true, false⟩]⟩,
  ⟨0x38, 4, 1, [⟨R.SPKP_LIMIT_TMAX, .rw, .rt, true, false⟩,
    ⟨R.SPKP_LIMIT_MARGIN, .rw, .rt, true, false⟩]⟩,
  ⟨0x3C, 4, 1, [⟨R.SPKP_TIMES_PREDICT, .rw, .rt, true, false⟩,
    ⟨R.SPKP_TIMES_ATTACK, .rw, .rt, true, false⟩,
    ⟨R.SPKP_TIMES_RELEASE, .rw, .rt, true, false⟩]⟩,
  ⟨0x40, 4, 1, [⟨R.SPKP_TAMB_TA, .rw, .rt, true, false⟩]⟩,
  ⟨0x44, 4, 1, [⟨R.SPKP_TEMP_TMAG, .ro, .co, false, false⟩,
    ⟨R.SPKP_TEMP_TCOIL, .ro, .co, false, false⟩]⟩,
  ⟨0x48, 4, 1, [⟨R.SPKP_PRED_RE, .ro, .co, false, false⟩,
    ⟨R.SPKP_PRED_TPRED, .ro, .co, false, false⟩]⟩,
  ⟨0x4C, 4, 1, [⟨R.SPKP_PWR_REVALID, .ro, .co, false, false⟩,
    ⟨R.SPKP_PWR_P, .ro, .co, false, false⟩]⟩,
  ⟨0x50, 4, 2, [⟨R.SPKP_NTCLIN_NTCA 0, .rw, .rt, true, false⟩,
    ⟨R.SPKP_NTCLIN_NTCB 0, .rw, .rt, true, false⟩]⟩]

/-- Page EXCUR. -/
def excurRegs : List Reg := [
  ⟨0x0, 4, 1, [⟨R.EXCUR_ID_TYPE, .ro, .co, false, false⟩,
    ⟨R.EXCUR_ID_INST, .ro, .co, false, false⟩,
    ⟨R.EXCUR_ID_MAJOR, .ro, .co, false, false⟩,
    ⟨R.EXCUR_ID_MINOR, .ro, .co, false, false⟩]⟩,
  ⟨0x4, 4, 1, [⟨R.EXCUR_CTRL_SRST, .ws, .co, false, false⟩,
    ⟨R.EXCUR_CTRL_EN, .rw, .rt, true, false⟩]⟩,
  ⟨0x8, 4, 1, [⟨R.EXCUR_STAT_RECERR, .ro, .co, false, false⟩]⟩,
  ⟨0xC, 4, 1, [⟨R.EXCUR_IFLG_RECBAD, .w1c, .rt, false, true⟩,
    ⟨R.EXCUR_IFLG_RECOK, .w1c, .rt, false, true⟩]⟩,
  ⟨0x10, 4, 1, [⟨R.EXCUR_IEN_RECBAD, .rw, .rt, true, false⟩,
    ⟨R.EXCUR_IEN_RECOK, .rw, .rt, true, false⟩]⟩,
  ⟨0x14, 4, 1, [⟨R.EXCUR_OWNER_ENG, .rw, .rt, true, false⟩,
    ⟨R.EXCUR_OWNER_RZ, .rw, .rt, true, false⟩,
    ⟨R.EXCUR_OWNER_USB, .rw, .rt, true, false⟩,
    ⟨R.EXCUR_OWNER_CTL, .rw, .rt, true, false⟩]⟩,
  ⟨0x18, 4, 1, [⟨R.EXCUR_ERRCNT_BLKERR, .rc, .rt, false, true⟩,
    ⟨R.EXCUR_ERRCNT_REJ, .rc, .rt, false, true⟩]⟩,
  ⟨0x1C, 4, 1, [⟨R.EXCUR_CGRP_GRP, .rw, .rt, true, false⟩]⟩,
  ⟨0x20, 4, 1, [⟨R.EXCUR_SEL_CH, .rw, .co, false, false⟩]⟩,
  ⟨0x24, 4, 1, [⟨R.EXCUR_CTL_EN, .rw, .rt, true, false⟩]⟩,
  ⟨0x28, 4, 1, [⟨R.EXCUR_CMD_APPLY, .ws, .co, false, false⟩]⟩,
  ⟨0x2C, 4, 1, [⟨R.EXCUR_XSTAT_XPK, .ro, .co, false, false⟩,
    ⟨R.EXCUR_XSTAT_XPRED, .ro, .co, false, false⟩]⟩,
  ⟨0x40, 4, 16, [⟨R.EXCUR_LEGACY_DATA 0, .rw, .co, false, false⟩]⟩,
  ⟨0x80, 4, 16, [⟨R.EXCUR_REC_DATA 0, .ro, .rt, true, false⟩]⟩]

/-- Page USB. -/
def usbRegs : List Reg := [
  ⟨0x0, 4, 1, [⟨R.USB_ID_TYPE, .ro, .co, false, false⟩,
    ⟨R.USB_ID_INST, .ro, .co, false, false⟩,
    ⟨R.USB_ID_MAJOR, .ro, .co, false, false⟩,
    ⟨R.USB_ID_MINOR, .ro, .co, false, false⟩]⟩,
  ⟨0x4, 4, 1, [⟨R.USB_CTRL_RWAKE, .ws, .co, false, false⟩,
    ⟨R.USB_CTRL_SRST, .ws, .co, false, false⟩,
    ⟨R.USB_CTRL_EN, .rw, .rt, true, false⟩]⟩,
  ⟨0x8, 4, 1, [⟨R.USB_STAT_DESCDEF, .ro, .co, false, false⟩,
    ⟨R.USB_STAT_RWEN, .ro, .rt, false, false⟩,
    ⟨R.USB_STAT_VBUS, .ro, .co, false, false⟩,
    ⟨R.USB_STAT_SPEED, .ro, .rt, false, false⟩,
    ⟨R.USB_STAT_STATE, .ro, .rt, false, false⟩]⟩,
  ⟨0xC, 4, 1, [⟨R.USB_IFLG_RWDENY, .w1c, .rt, false, true⟩,
    ⟨R.USB_IFLG_L1, .w1c, .rt, false, true⟩,
    ⟨R.USB_IFLG_RESUME, .w1c, .rt, false, true⟩,
    ⟨R.USB_IFLG_SUSPEND, .w1c, .rt, false, true⟩,
    ⟨R.USB_IFLG_BUSRESET, .w1c, .rt, false, true⟩,
    ⟨R.USB_IFLG_SAMFREQ, .w1c, .rt, false, true⟩,
    ⟨R.USB_IFLG_ALT, .w1c, .rt, false, true⟩,
    ⟨R.USB_IFLG_CONFIG, .w1c, .rt, false, true⟩]⟩,
  ⟨0x10, 4, 1, [⟨R.USB_IEN_RWDENY, .rw, .rt, true, false⟩,
    ⟨R.USB_IEN_L1, .rw, .rt, true, false⟩,
    ⟨R.USB_IEN_RESUME, .rw, .rt, true, false⟩,
    ⟨R.USB_IEN_SUSPEND, .rw, .rt, true, false⟩,
    ⟨R.USB_IEN_BUSRESET, .rw, .rt, true, false⟩,
    ⟨R.USB_IEN_SAMFREQ, .rw, .rt, true, false⟩,
    ⟨R.USB_IEN_ALT, .rw, .rt, true, false⟩,
    ⟨R.USB_IEN_CONFIG, .rw, .rt, true, false⟩]⟩,
  ⟨0x14, 4, 1, [⟨R.USB_OWNER_ENG, .rw, .rt, true, false⟩,
    ⟨R.USB_OWNER_RZ, .rw, .rt, true, false⟩,
    ⟨R.USB_OWNER_USB, .rw, .rt, true, false⟩,
    ⟨R.USB_OWNER_CTL, .rw, .rt, true, false⟩]⟩,
  ⟨0x18, 4, 1, [⟨R.USB_ERRCNT_BLKERR, .rc, .rt, false, true⟩,
    ⟨R.USB_ERRCNT_REJ, .rc, .rt, false, true⟩]⟩,
  ⟨0x1C, 4, 1, [⟨R.USB_CGRP_GRP, .rw, .rt, true, false⟩]⟩,
  ⟨0x20, 4, 1, [⟨R.USB_CFG_CSXWR, .rw, .rt, true, false⟩,
    ⟨R.USB_CFG_HIDMUTE, .rw, .rt, true, false⟩,
    ⟨R.USB_CFG_AUTOSTART, .rw, .rt, true, false⟩,
    ⟨R.USB_CFG_LPMEN, .rw, .rt, true, false⟩,
    ⟨R.USB_CFG_FSONLY, .rw, .rt, true, false⟩,
    ⟨R.USB_CFG_SUSPMODE, .rw, .rt, true, false⟩]⟩,
  ⟨0x24, 4, 1, [⟨R.USB_FRAMENUM_FN, .ro, .co, false, false⟩]⟩]

/-- Page USBD. -/
def usbdRegs : List Reg := [
  ⟨0x0, 4, 1, [⟨R.USBD_ID_TYPE, .ro, .co, false, false⟩,
    ⟨R.USBD_ID_INST, .ro, .co, false, false⟩,
    ⟨R.USBD_ID_MAJOR, .ro, .co, false, false⟩,
    ⟨R.USBD_ID_MINOR, .ro, .co, false, false⟩]⟩,
  ⟨0x4, 4, 1, [⟨R.USBD_CTRL_SRST, .ws, .co, false, false⟩,
    ⟨R.USBD_CTRL_EN, .rw, .rt, true, false⟩]⟩,
  ⟨0x8, 4, 1, [⟨R.USBD_STAT_ALTIN, .ro, .rt, false, false⟩,
    ⟨R.USBD_STAT_ALTOUT, .ro, .rt, false, false⟩]⟩,
  ⟨0xC, 4, 1, [⟨R.USBD_IFLG_HIDOUT, .w1c, .rt, false, true⟩,
    ⟨R.USBD_IFLG_SEQFAIL, .w1c, .rt, false, true⟩,
    ⟨R.USBD_IFLG_FBCLAMP, .w1c, .rt, false, true⟩]⟩,
  ⟨0x10, 4, 1, [⟨R.USBD_IEN_HIDOUT, .rw, .rt, true, false⟩,
    ⟨R.USBD_IEN_SEQFAIL, .rw, .rt, true, false⟩,
    ⟨R.USBD_IEN_FBCLAMP, .rw, .rt, true, false⟩]⟩,
  ⟨0x14, 4, 1, [⟨R.USBD_OWNER_ENG, .rw, .rt, true, false⟩,
    ⟨R.USBD_OWNER_RZ, .rw, .rt, true, false⟩,
    ⟨R.USBD_OWNER_USB, .rw, .rt, true, false⟩,
    ⟨R.USBD_OWNER_CTL, .rw, .rt, true, false⟩]⟩,
  ⟨0x18, 4, 1, [⟨R.USBD_ERRCNT_BLKERR, .rc, .rt, false, true⟩,
    ⟨R.USBD_ERRCNT_REJ, .rc, .rt, false, true⟩]⟩,
  ⟨0x1C, 4, 1, [⟨R.USBD_CGRP_GRP, .rw, .rt, true, false⟩]⟩,
  ⟨0x20, 4, 2, [⟨R.USBD_ALTOUT_CTX 0, .rw, .rt, true, false⟩]⟩,
  ⟨0x28, 4, 2, [⟨R.USBD_ALTIN_CTX 0, .rw, .rt, true, false⟩]⟩,
  ⟨0x30, 4, 1, [⟨R.USBD_CSMAP_CS8, .rw, .rt, true, false⟩,
    ⟨R.USBD_CSMAP_CS7, .rw, .rt, true, false⟩,
    ⟨R.USBD_CSMAP_CS6, .rw, .rt, true, false⟩,
    ⟨R.USBD_CSMAP_CS5, .rw, .rt, true, false⟩,
    ⟨R.USBD_CSMAP_CS4, .rw, .rt, true, false⟩,
    ⟨R.USBD_CSMAP_CS3, .rw, .rt, true, false⟩,
    ⟨R.USBD_CSMAP_CS2, .rw, .rt, true, false⟩,
    ⟨R.USBD_CSMAP_CS1, .rw, .rt, true, false⟩]⟩,
  ⟨0x34, 4, 1, [⟨R.USBD_SAMFREQ_RATE, .ro, .rt, false, false⟩]⟩,
  ⟨0x38, 4, 1, [⟨R.USBD_FB_FB, .ro, .co, false, false⟩]⟩,
  ⟨0x3C, 4, 1, [⟨R.USBD_FUSEL_FU, .rw, .co, false, false⟩,
    ⟨R.USBD_FUSEL_CH, .rw, .co, false, false⟩]⟩,
  ⟨0x40, 4, 1, [⟨R.USBD_FUMAP_EN, .rw, .rt, true, false⟩,
    ⟨R.USBD_FUMAP_ENTRY, .rw, .rt, true, false⟩]⟩,
  ⟨0x44, 4, 1, [⟨R.USBD_FUVAL_VOL, .ro, .rt, false, false⟩,
    ⟨R.USBD_FUVAL_MUTE, .ro, .rt, false, false⟩]⟩,
  ⟨0x48, 4, 1, [⟨R.USBD_HIDSW_BTN, .rw, .co, false, false⟩]⟩,
  ⟨0x4C, 4, 1, [⟨R.USBD_HIDIN_BTN, .ro, .co, false, false⟩]⟩,
  ⟨0x50, 4, 1, [⟨R.USBD_HIDOUT_LED, .ro, .rt, false, false⟩]⟩]

/-- Page RZ. -/
def rzRegs : List Reg := [
  ⟨0x0, 4, 1, [⟨R.RZ_ID_TYPE, .ro, .co, false, false⟩,
    ⟨R.RZ_ID_INST, .ro, .co, false, false⟩,
    ⟨R.RZ_ID_MAJOR, .ro, .co, false, false⟩,
    ⟨R.RZ_ID_MINOR, .ro, .co, false, false⟩]⟩,
  ⟨0x4, 4, 1, [⟨R.RZ_CTRL_SRST, .ws, .co, false, false⟩,
    ⟨R.RZ_CTRL_EN, .rw, .rt, true, false⟩]⟩,
  ⟨0x8, 4, 1, [⟨R.RZ_STAT_ROLE, .ro, .co, false, false⟩,
    ⟨R.RZ_STAT_TRACK, .ro, .co, false, false⟩,
    ⟨R.RZ_STAT_ALIGN, .ro, .co, false, false⟩,
    ⟨R.RZ_STAT_ADOPTWAIT, .ro, .co, false, false⟩,
    ⟨R.RZ_STAT_MAPOK, .ro, .co, false, false⟩,
    ⟨R.RZ_STAT_BRANCHED, .ro, .co, false, false⟩,
    ⟨R.RZ_STAT_UPB, .ro, .co, false, false⟩,
    ⟨R.RZ_STAT_FOLD, .ro, .co, false, false⟩,
    ⟨R.RZ_STAT_LOCKB, .ro, .co, false, false⟩,
    ⟨R.RZ_STAT_LOCKA, .ro, .co, false, false⟩,
    ⟨R.RZ_STAT_HOPS, .ro, .co, false, false⟩,
    ⟨R.RZ_STAT_ADDR, .ro, .rt, false, false⟩]⟩,
  ⟨0xC, 4, 1, [⟨R.RZ_IFLG_MASTERCONF, .w1c, .rt, false, true⟩,
    ⟨R.RZ_IFLG_PRESLOW, .w1c, .rt, false, true⟩,
    ⟨R.RZ_IFLG_WAKEEVT, .w1c, .rt, false, true⟩,
    ⟨R.RZ_IFLG_FWDDONE, .w1c, .rt, false, true⟩,
    ⟨R.RZ_IFLG_CREDITFLT, .w1c, .rt, false, true⟩,
    ⟨R.RZ_IFLG_MAPERR, .w1c, .rt, false, true⟩,
    ⟨R.RZ_IFLG_ALIGN, .w1c, .rt, false, true⟩,
    ⟨R.RZ_IFLG_FAILOVER, .w1c, .rt, false, true⟩,
    ⟨R.RZ_IFLG_HEAL, .w1c, .rt, false, true⟩,
    ⟨R.RZ_IFLG_LOCKLOSS, .w1c, .rt, false, true⟩,
    ⟨R.RZ_IFLG_LOCK, .w1c, .rt, false, true⟩]⟩,
  ⟨0x10, 4, 1, [⟨R.RZ_IEN_MASTERCONF, .rw, .rt, true, false⟩,
    ⟨R.RZ_IEN_PRESLOW, .rw, .rt, true, false⟩,
    ⟨R.RZ_IEN_WAKEEVT, .rw, .rt, true, false⟩,
    ⟨R.RZ_IEN_FWDDONE, .rw, .rt, true, false⟩,
    ⟨R.RZ_IEN_CREDITFLT, .rw, .rt, true, false⟩,
    ⟨R.RZ_IEN_MAPERR, .rw, .rt, true, false⟩,
    ⟨R.RZ_IEN_ALIGN, .rw, .rt, true, false⟩,
    ⟨R.RZ_IEN_FAILOVER, .rw, .rt, true, false⟩,
    ⟨R.RZ_IEN_HEAL, .rw, .rt, true, false⟩,
    ⟨R.RZ_IEN_LOCKLOSS, .rw, .rt, true, false⟩,
    ⟨R.RZ_IEN_LOCK, .rw, .rt, true, false⟩]⟩,
  ⟨0x14, 4, 1, [⟨R.RZ_OWNER_ENG, .rw, .rt, true, false⟩,
    ⟨R.RZ_OWNER_RZ, .rw, .rt, true, false⟩,
    ⟨R.RZ_OWNER_USB, .rw, .rt, true, false⟩,
    ⟨R.RZ_OWNER_CTL, .rw, .rt, true, false⟩]⟩,
  ⟨0x18, 4, 1, [⟨R.RZ_ERRCNT_BLKERR, .rc, .rt, false, true⟩,
    ⟨R.RZ_ERRCNT_REJ, .rc, .rt, false, true⟩]⟩,
  ⟨0x1C, 4, 1, [⟨R.RZ_CGRP_GRP, .rw, .rt, true, false⟩]⟩,
  ⟨0x20, 4, 1, [⟨R.RZ_CFG_DOMAIN, .rw, .rt, true, false⟩,
    ⟨R.RZ_CFG_ADDRNV, .rw, .rt, true, false⟩,
    ⟨R.RZ_CFG_ROLE, .rw, .rt, true, false⟩,
    ⟨R.RZ_CFG_RRSTEN, .rw, .rt, true, false⟩,
    ⟨R.RZ_CFG_ADDR, .rw, .rt, true, false⟩]⟩,
  ⟨0x24, 4, 1, [⟨R.RZ_PRES_PRESD, .ro, .co, false, false⟩,
    ⟨R.RZ_PRES_PRESMIN, .rw, .rt, true, false⟩]⟩,
  ⟨0x28, 4, 1, [⟨R.RZ_CMD_ACTION, .wo, .co, false, false⟩,
    ⟨R.RZ_CMD_ADDR, .wo, .co, false, false⟩]⟩,
  ⟨0x2C, 4, 1, [⟨R.RZ_MIDXLO_V, .ro, .co, false, false⟩]⟩,
  ⟨0x30, 4, 1, [⟨R.RZ_MIDXHI_V, .ro, .co, false, false⟩]⟩,
  ⟨0x34, 4, 1, [⟨R.RZ_DOUT_V, .ro, .co, false, false⟩]⟩,
  ⟨0x38, 4, 1, [⟨R.RZ_CIRC_V, .ro, .co, false, false⟩]⟩,
  ⟨0x3C, 4, 2, [⟨R.RZ_HOPDLY_DLY 0, .ro, .co, false, false⟩]⟩,
  ⟨0x44, 8, 2, [⟨R.RZ_CRED_ISSUED 0, .ro, .co, false, false⟩,
    ⟨R.RZ_CRED_RETURNED 0, .ro, .co, false, false⟩]⟩,
  ⟨0x48, 8, 2, [⟨R.RZ_LINK_INFLIGHT 0, .ro, .co, false, false⟩,
    ⟨R.RZ_LINK_RESYNCS 0, .rc, .rt, false, true⟩,
    ⟨R.RZ_LINK_CRCERR 0, .rc, .rt, false, true⟩]⟩,
  ⟨0x54, 4, 1, [⟨R.RZ_FWDCFG_BCAST, .rw, .co, false, false⟩]⟩,
  ⟨0x58, 4, 1, [⟨R.RZ_FWDSTAT_DONE, .ro, .co, false, false⟩,
    ⟨R.RZ_FWDSTAT_STATUS, .ro, .co, false, false⟩,
    ⟨R.RZ_FWDSTAT_REASON, .ro, .co, false, false⟩,
    ⟨R.RZ_FWDSTAT_LEN, .ro, .co, false, false⟩]⟩,
  ⟨0x5C, 4, 1, [⟨R.RZ_EVSRC_VALID, .rc, .rt, false, true⟩,
    ⟨R.RZ_EVSRC_ADDR, .ro, .rt, false, true⟩]⟩,
  ⟨0x60, 4, 1, [⟨R.RZ_DOMINFO_BKVALID, .ro, .co, false, false⟩,
    ⟨R.RZ_DOMINFO_MADDR, .ro, .co, false, false⟩,
    ⟨R.RZ_DOMINFO_BKADDR, .ro, .co, false, false⟩]⟩,
  ⟨0x64, 4, 1, [⟨R.RZ_LATE_COUNT, .rc, .rt, false, true⟩]⟩,
  ⟨0x68, 4, 1, [⟨R.RZ_PHY_SWING, .rw, .rt, true, false⟩,
    ⟨R.RZ_PHY_EQ, .rw, .rt, true, false⟩]⟩]

/-- Page RZSLOT. -/
def rzslotRegs : List Reg := [
  ⟨0x0, 4, 1, [⟨R.RZSLOT_ID_TYPE, .ro, .co, false, false⟩,
    ⟨R.RZSLOT_ID_INST, .ro, .co, false, false⟩,
    ⟨R.RZSLOT_ID_MAJOR, .ro, .co, false, false⟩,
    ⟨R.RZSLOT_ID_MINOR, .ro, .co, false, false⟩]⟩,
  ⟨0x4, 4, 1, [⟨R.RZSLOT_CTRL_SRST, .ws, .co, false, false⟩,
    ⟨R.RZSLOT_CTRL_EN, .rw, .rt, true, false⟩]⟩,
  ⟨0x8, 4, 1, [⟨R.RZSLOT_STAT_OWNED, .ro, .co, false, false⟩,
    ⟨R.RZSLOT_STAT_PENDING, .ro, .co, false, false⟩]⟩,
  ⟨0xC, 4, 1, [⟨R.RZSLOT_IFLG_LOST, .w1c, .rt, false, true⟩,
    ⟨R.RZSLOT_IFLG_REFUSED, .w1c, .rt, false, true⟩,
    ⟨R.RZSLOT_IFLG_GRANTED, .w1c, .rt, false, true⟩]⟩,
  ⟨0x10, 4, 1, [⟨R.RZSLOT_IEN_LOST, .rw, .rt, true, false⟩,
    ⟨R.RZSLOT_IEN_REFUSED, .rw, .rt, true, false⟩,
    ⟨R.RZSLOT_IEN_GRANTED, .rw, .rt, true, false⟩]⟩,
  ⟨0x14, 4, 1, [⟨R.RZSLOT_OWNER_ENG, .rw, .rt, true, false⟩,
    ⟨R.RZSLOT_OWNER_RZ, .rw, .rt, true, false⟩,
    ⟨R.RZSLOT_OWNER_USB, .rw, .rt, true, false⟩,
    ⟨R.RZSLOT_OWNER_CTL, .rw, .rt, true, false⟩]⟩,
  ⟨0x18, 4, 1, [⟨R.RZSLOT_ERRCNT_BLKERR, .rc, .rt, false, true⟩,
    ⟨R.RZSLOT_ERRCNT_REJ, .rc, .rt, false, true⟩]⟩,
  ⟨0x1C, 4, 1, [⟨R.RZSLOT_CGRP_GRP, .rw, .rt, true, false⟩]⟩,
  ⟨0x20, 4, 1, [⟨R.RZSLOT_MAPCRC_HDR, .ro, .co, false, false⟩,
    ⟨R.RZSLOT_MAPCRC_LOCAL, .ro, .co, false, false⟩]⟩]

/-- Page LICH. -/
def lichRegs : List Reg := [
  ⟨0x0, 4, 1, [⟨R.LICH_ID_TYPE, .ro, .co, false, false⟩,
    ⟨R.LICH_ID_INST, .ro, .co, false, false⟩,
    ⟨R.LICH_ID_MAJOR, .ro, .co, false, false⟩,
    ⟨R.LICH_ID_MINOR, .ro, .co, false, false⟩]⟩,
  ⟨0x4, 4, 1, [⟨R.LICH_CTRL_CAL, .ws, .co, false, false⟩,
    ⟨R.LICH_CTRL_SRST, .ws, .co, false, false⟩,
    ⟨R.LICH_CTRL_EN, .rw, .rt, true, false⟩]⟩,
  ⟨0x8, 4, 1, [⟨R.LICH_STAT_CALPEND, .ro, .co, false, false⟩,
    ⟨R.LICH_STAT_CALBUSY, .ro, .co, false, false⟩,
    ⟨R.LICH_STAT_PLAUSFLT, .ro, .rt, false, false⟩,
    ⟨R.LICH_STAT_QDEPTH, .ro, .co, false, false⟩]⟩,
  ⟨0xC, 4, 1, [⟨R.LICH_IFLG_TMRMISS, .w1c, .rt, false, true⟩,
    ⟨R.LICH_IFLG_PLAUS, .w1c, .rt, false, true⟩,
    ⟨R.LICH_IFLG_CALDONE, .w1c, .rt, false, true⟩,
    ⟨R.LICH_IFLG_INJDONE, .w1c, .rt, false, true⟩,
    ⟨R.LICH_IFLG_SEQB, .w1c, .rt, false, true⟩,
    ⟨R.LICH_IFLG_SEQA, .w1c, .rt, false, true⟩]⟩,
  ⟨0x10, 4, 1, [⟨R.LICH_IEN_TMRMISS, .rw, .rt, true, false⟩,
    ⟨R.LICH_IEN_PLAUS, .rw, .rt, true, false⟩,
    ⟨R.LICH_IEN_CALDONE, .rw, .rt, true, false⟩,
    ⟨R.LICH_IEN_INJDONE, .rw, .rt, true, false⟩,
    ⟨R.LICH_IEN_SEQB, .rw, .rt, true, false⟩,
    ⟨R.LICH_IEN_SEQA, .rw, .rt, true, false⟩]⟩,
  ⟨0x14, 4, 1, [⟨R.LICH_OWNER_ENG, .rw, .rt, true, false⟩,
    ⟨R.LICH_OWNER_RZ, .rw, .rt, true, false⟩,
    ⟨R.LICH_OWNER_USB, .rw, .rt, true, false⟩,
    ⟨R.LICH_OWNER_CTL, .rw, .rt, true, false⟩]⟩,
  ⟨0x18, 4, 1, [⟨R.LICH_ERRCNT_BLKERR, .rc, .rt, false, true⟩,
    ⟨R.LICH_ERRCNT_REJ, .rc, .rt, false, true⟩]⟩,
  ⟨0x1C, 4, 1, [⟨R.LICH_CGRP_GRP, .rw, .rt, true, false⟩]⟩,
  ⟨0x20, 4, 2, [⟨R.LICH_SEQCFG_EN 0, .rw, .rt, true, false⟩,
    ⟨R.LICH_SEQCFG_LEN 0, .rw, .rt, true, false⟩,
    ⟨R.LICH_SEQCFG_PERIOD 0, .rw, .rt, true, false⟩]⟩,
  ⟨0x28, 4, 16, [⟨R.LICH_SEQA_RATIO 0, .rw, .rt, true, false⟩,
    ⟨R.LICH_SEQA_CH 0, .rw, .rt, true, false⟩,
    ⟨R.LICH_SEQA_SHIFT 0, .rw, .rt, true, false⟩,
    ⟨R.LICH_SEQA_AVG 0, .rw, .rt, true, false⟩]⟩,
  ⟨0x68, 4, 16, [⟨R.LICH_SEQB_RATIO 0, .rw, .rt, true, false⟩,
    ⟨R.LICH_SEQB_CH 0, .rw, .rt, true, false⟩,
    ⟨R.LICH_SEQB_SHIFT 0, .rw, .rt, true, false⟩,
    ⟨R.LICH_SEQB_AVG 0, .rw, .rt, true, false⟩]⟩,
  ⟨0xA8, 4, 4, [⟨R.LICH_INJCFG_RATIO 0, .rw, .rt, true, false⟩,
    ⟨R.LICH_INJCFG_CONV 0, .rw, .rt, true, false⟩,
    ⟨R.LICH_INJCFG_CH 0, .rw, .rt, true, false⟩,
    ⟨R.LICH_INJCFG_SHIFT 0, .rw, .rt, true, false⟩,
    ⟨R.LICH_INJCFG_AVG 0, .rw, .rt, true, false⟩]⟩,
  ⟨0xB8, 4, 1, [⟨R.LICH_INJTMR_PERIOD, .rw, .rt, true, false⟩]⟩,
  ⟨0xBC, 4, 1, [⟨R.LICH_INJSW_GO, .ws, .co, false, false⟩]⟩,
  ⟨0xC0, 4, 1, [⟨R.LICH_PLAUSCFG_EN, .rw, .rt, true, false⟩,
    ⟨R.LICH_PLAUSCFG_CDSAFE, .rw, .rt, true, false⟩,
    ⟨R.LICH_PLAUSCFG_CH, .rw, .rt, true, false⟩,
    ⟨R.LICH_PLAUSCFG_PERIOD, .rw, .rt, true, false⟩,
    ⟨R.LICH_PLAUSCFG_AVG, .rw, .rt, true, false⟩,
    ⟨R.LICH_PLAUSCFG_LSB, .rw, .rt, true, false⟩]⟩,
  ⟨0xC4, 4, 1, [⟨R.LICH_CDRBSEL_CD, .rw, .rt, true, false⟩]⟩,
  ⟨0xC8, 4, 2, [⟨R.LICH_TTRIM_TOFF 0, .ro, .co, false, false⟩,
    ⟨R.LICH_TTRIM_TGAIN 0, .ro, .co, false, false⟩]⟩,
  ⟨0xD0, 4, 1, [⟨R.LICH_EVCNT_TMRMISS, .rc, .rt, false, true⟩,
    ⟨R.LICH_EVCNT_CALS, .rc, .rt, false, true⟩]⟩]

/-- Page LICHR. -/
def lichrRegs : List Reg := [
  ⟨0x0, 4, 1, [⟨R.LICHR_ID_TYPE, .ro, .co, false, false⟩,
    ⟨R.LICHR_ID_INST, .ro, .co, false, false⟩,
    ⟨R.LICHR_ID_MAJOR, .ro, .co, false, false⟩,
    ⟨R.LICHR_ID_MINOR, .ro, .co, false, false⟩]⟩,
  ⟨0x4, 4, 1, [⟨R.LICHR_CTRL_SRST, .ws, .co, false, false⟩,
    ⟨R.LICHR_CTRL_EN, .ro, .co, false, false⟩]⟩,
  ⟨0x8, 4, 1, []⟩,
  ⟨0xC, 4, 1, [⟨R.LICHR_IFLG_FLAGS, .w1c, .rt, false, true⟩]⟩,
  ⟨0x10, 4, 1, [⟨R.LICHR_IEN_EN, .rw, .rt, true, false⟩]⟩,
  ⟨0x14, 4, 1, [⟨R.LICHR_OWNER_ENG, .rw, .rt, true, false⟩,
    ⟨R.LICHR_OWNER_RZ, .rw, .rt, true, false⟩,
    ⟨R.LICHR_OWNER_USB, .rw, .rt, true, false⟩,
    ⟨R.LICHR_OWNER_CTL, .rw, .rt, true, false⟩]⟩,
  ⟨0x18, 4, 1, [⟨R.LICHR_ERRCNT_BLKERR, .rc, .rt, false, true⟩,
    ⟨R.LICHR_ERRCNT_REJ, .rc, .rt, false, true⟩]⟩,
  ⟨0x1C, 4, 1, [⟨R.LICHR_CGRP_GRP, .rw, .rt, true, false⟩]⟩,
  ⟨0x20, 4, 16, [⟨R.LICHR_RESA_NEW 0, .ro, .co, false, false⟩,
    ⟨R.LICHR_RESA_OVR 0, .ro, .co, false, false⟩,
    ⟨R.LICHR_RESA_RATIO 0, .ro, .co, false, false⟩,
    ⟨R.LICHR_RESA_CH 0, .ro, .co, false, false⟩,
    ⟨R.LICHR_RESA_DATA 0, .ro, .co, false, false⟩]⟩,
  ⟨0x60, 4, 16, [⟨R.LICHR_RESB_NEW 0, .ro, .co, false, false⟩,
    ⟨R.LICHR_RESB_OVR 0, .ro, .co, false, false⟩,
    ⟨R.LICHR_RESB_RATIO 0, .ro, .co, false, false⟩,
    ⟨R.LICHR_RESB_CH 0, .ro, .co, false, false⟩,
    ⟨R.LICHR_RESB_DATA 0, .ro, .co, false, false⟩]⟩,
  ⟨0xA0, 4, 4, [⟨R.LICHR_INJ_NEW 0, .ro, .co, false, false⟩,
    ⟨R.LICHR_INJ_OVR 0, .ro, .co, false, false⟩,
    ⟨R.LICHR_INJ_RATIO 0, .ro, .co, false, false⟩,
    ⟨R.LICHR_INJ_CH 0, .ro, .co, false, false⟩,
    ⟨R.LICHR_INJ_DATA 0, .ro, .co, false, false⟩]⟩,
  ⟨0xB0, 4, 2, [⟨R.LICHR_PLAUS_NEW 0, .ro, .co, false, false⟩,
    ⟨R.LICHR_PLAUS_OVR 0, .ro, .co, false, false⟩,
    ⟨R.LICHR_PLAUS_RATIO 0, .ro, .co, false, false⟩,
    ⟨R.LICHR_PLAUS_CH 0, .ro, .co, false, false⟩,
    ⟨R.LICHR_PLAUS_DATA 0, .ro, .co, false, false⟩]⟩]

/-- Page CDAC. -/
def cdacRegs : List Reg := [
  ⟨0x0, 4, 1, [⟨R.CDAC_ID_TYPE, .ro, .co, false, false⟩,
    ⟨R.CDAC_ID_INST, .ro, .co, false, false⟩,
    ⟨R.CDAC_ID_MAJOR, .ro, .co, false, false⟩,
    ⟨R.CDAC_ID_MINOR, .ro, .co, false, false⟩]⟩,
  ⟨0x4, 4, 1, [⟨R.CDAC_CTRL_SAFECLR, .ws, .co, false, false⟩,
    ⟨R.CDAC_CTRL_FORCESAFE, .rw, .rt, false, false⟩,
    ⟨R.CDAC_CTRL_SRST, .ws, .co, false, false⟩,
    ⟨R.CDAC_CTRL_EN, .rw, .rt, true, false⟩]⟩,
  ⟨0x8, 4, 1, [⟨R.CDAC_STAT_SAFE, .ro, .co, false, false⟩,
    ⟨R.CDAC_STAT_IND, .ro, .co, false, false⟩,
    ⟨R.CDAC_STAT_COMPF, .ro, .co, false, false⟩,
    ⟨R.CDAC_STAT_OCF, .ro, .co, false, false⟩,
    ⟨R.CDAC_STAT_SLEWING, .ro, .co, false, false⟩]⟩,
  ⟨0xC, 4, 1, [⟨R.CDAC_IFLG_PTLATE, .w1c, .rt, false, true⟩,
    ⟨R.CDAC_IFLG_PTFIRE, .w1c, .rt, false, true⟩,
    ⟨R.CDAC_IFLG_SAFE, .w1c, .rt, false, true⟩,
    ⟨R.CDAC_IFLG_PUDONE, .w1c, .rt, false, true⟩,
    ⟨R.CDAC_IFLG_OC, .w1c, .rt, false, true⟩,
    ⟨R.CDAC_IFLG_COMP, .w1c, .rt, false, true⟩]⟩,
  ⟨0x10, 4, 1, [⟨R.CDAC_IEN_PTLATE, .rw, .rt, true, false⟩,
    ⟨R.CDAC_IEN_PTFIRE, .rw, .rt, true, false⟩,
    ⟨R.CDAC_IEN_SAFE, .rw, .rt, true, false⟩,
    ⟨R.CDAC_IEN_PUDONE, .rw, .rt, true, false⟩,
    ⟨R.CDAC_IEN_OC, .rw, .rt, true, false⟩,
    ⟨R.CDAC_IEN_COMP, .rw, .rt, true, false⟩]⟩,
  ⟨0x14, 4, 1, [⟨R.CDAC_OWNER_ENG, .rw, .rt, true, false⟩,
    ⟨R.CDAC_OWNER_RZ, .rw, .rt, true, false⟩,
    ⟨R.CDAC_OWNER_USB, .rw, .rt, true, false⟩,
    ⟨R.CDAC_OWNER_CTL, .rw, .rt, true, false⟩]⟩,
  ⟨0x18, 4, 1, [⟨R.CDAC_ERRCNT_BLKERR, .rc, .rt, false, true⟩,
    ⟨R.CDAC_ERRCNT_REJ, .rc, .rt, false, true⟩]⟩,
  ⟨0x1C, 4, 1, [⟨R.CDAC_CGRP_GRP, .rw, .rt, true, false⟩]⟩,
  ⟨0x20, 16, 8, [⟨R.CDAC_IN_MODE 0, .rw, .rt, false, false⟩,
    ⟨R.CDAC_IN_GAIN 0, .rw, .rt, false, false⟩,
    ⟨R.CDAC_IN_CODE 0, .rw, .rt, false, false⟩]⟩,
  ⟨0x24, 16, 8, [⟨R.CDAC_CFG_LDSRC 0, .rw, .rt, true, false⟩,
    ⟨R.CDAC_CFG_SLEWEN 0, .rw, .rt, true, false⟩,
    ⟨R.CDAC_CFG_STEP 0, .rw, .rt, true, false⟩,
    ⟨R.CDAC_CFG_TICK 0, .rw, .rt, true, false⟩]⟩,
  ⟨0x28, 16, 8, [⟨R.CDAC_OUT_MODE 0, .ro, .co, false, false⟩,
    ⟨R.CDAC_OUT_GAIN 0, .ro, .co, false, false⟩,
    ⟨R.CDAC_OUT_CODE 0, .ro, .co, false, false⟩]⟩,
  ⟨0x2C, 16, 8, [⟨R.CDAC_NOW_VALUE 0, .ro, .co, false, false⟩]⟩,
  ⟨0xA0, 4, 8, [⟨R.CDAC_PU_MODE 0, .rw, .rt, true, false⟩,
    ⟨R.CDAC_PU_GAIN 0, .rw, .rt, true, false⟩,
    ⟨R.CDAC_PU_CODE 0, .rw, .rt, true, false⟩]⟩,
  ⟨0xC0, 4, 8, [⟨R.CDAC_SAFE_MODE 0, .rw, .rt, true, false⟩,
    ⟨R.CDAC_SAFE_GAIN 0, .rw, .rt, true, false⟩,
    ⟨R.CDAC_SAFE_CODE 0, .rw, .rt, true, false⟩]⟩,
  ⟨0xE0, 4, 1, [⟨R.CDAC_LOAD_MASK, .ws, .co, false, false⟩]⟩,
  ⟨0xE4, 4, 1, [⟨R.CDAC_PTCTL_ARMED, .ro, .co, false, false⟩,
    ⟨R.CDAC_PTCTL_DISARM, .ws, .co, false, false⟩,
    ⟨R.CDAC_PTCTL_ARM, .ws, .co, false, false⟩]⟩,
  ⟨0xE8, 4, 2, [⟨R.CDAC_PTIDX_IDX 0, .rw, .rt, false, true⟩]⟩,
  ⟨0xF0, 4, 1, [⟨R.CDAC_STRCFG_SUB, .rw, .rt, true, false⟩]⟩,
  ⟨0xF4, 4, 1, [⟨R.CDAC_EVCNT_SAFE, .rc, .rt, false, true⟩,
    ⟨R.CDAC_EVCNT_PTLATE, .rc, .rt, false, true⟩,
    ⟨R.CDAC_EVCNT_COMP, .rc, .rt, false, true⟩,
    ⟨R.CDAC_EVCNT_OC, .rc, .rt, false, true⟩]⟩]

/-- Page CBUS. -/
def cbusRegs : List Reg := [
  ⟨0x0, 4, 1, [⟨R.CBUS_ID_TYPE, .ro, .co, false, false⟩,
    ⟨R.CBUS_ID_INST, .ro, .co, false, false⟩,
    ⟨R.CBUS_ID_MAJOR, .ro, .co, false, false⟩,
    ⟨R.CBUS_ID_MINOR, .ro, .co, false, false⟩]⟩,
  ⟨0x4, 4, 1, [⟨R.CBUS_CTRL_SRST, .ws, .co, false, false⟩,
    ⟨R.CBUS_CTRL_EN, .ro, .co, false, false⟩]⟩,
  ⟨0x8, 4, 1, [⟨R.CBUS_STAT_STRAP, .ro, .ao, false, false⟩,
    ⟨R.CBUS_STAT_ACTIVE, .ro, .ao, false, false⟩,
    ⟨R.CBUS_STAT_BUSBUSY, .ro, .co, false, false⟩,
    ⟨R.CBUS_STAT_PENDING, .ro, .co, false, false⟩,
    ⟨R.CBUS_STAT_PROBING, .ro, .ao, false, false⟩,
    ⟨R.CBUS_STAT_NOADDR, .ro, .ao, false, false⟩,
    ⟨R.CBUS_STAT_ALTACT, .ro, .ao, false, false⟩,
    ⟨R.CBUS_STAT_ADDRCONF, .ro, .ao, false, false⟩]⟩,
  ⟨0xC, 4, 1, [⟨R.CBUS_IFLG_TIMEOUT, .w1c, .ao, false, true⟩,
    ⟨R.CBUS_IFLG_LATEREJ, .w1c, .ao, false, true⟩,
    ⟨R.CBUS_IFLG_ABORT, .w1c, .ao, false, true⟩,
    ⟨R.CBUS_IFLG_CMDERR, .w1c, .ao, false, true⟩,
    ⟨R.CBUS_IFLG_ADDRCONF, .w1c, .ao, false, true⟩]⟩,
  ⟨0x10, 4, 1, [⟨R.CBUS_IEN_TIMEOUT, .rw, .ao, true, false⟩,
    ⟨R.CBUS_IEN_LATEREJ, .rw, .ao, true, false⟩,
    ⟨R.CBUS_IEN_ABORT, .rw, .ao, true, false⟩,
    ⟨R.CBUS_IEN_CMDERR, .rw, .ao, true, false⟩,
    ⟨R.CBUS_IEN_ADDRCONF, .rw, .ao, true, false⟩]⟩,
  ⟨0x14, 4, 1, [⟨R.CBUS_OWNER_ENG, .rw, .ao, true, false⟩,
    ⟨R.CBUS_OWNER_RZ, .rw, .ao, true, false⟩,
    ⟨R.CBUS_OWNER_USB, .rw, .ao, true, false⟩,
    ⟨R.CBUS_OWNER_CTL, .rw, .ao, true, false⟩]⟩,
  ⟨0x18, 4, 1, [⟨R.CBUS_ERRCNT_BLKERR, .rc, .ao, false, true⟩,
    ⟨R.CBUS_ERRCNT_REJ, .rc, .ao, false, true⟩]⟩,
  ⟨0x1C, 4, 1, [⟨R.CBUS_CGRP_GRP, .rw, .ao, true, false⟩]⟩,
  ⟨0x20, 4, 1, [⟨R.CBUS_ADDRCFG_NVADDR, .rw, .ao, true, false⟩,
    ⟨R.CBUS_ADDRCFG_ALTEN, .rw, .ao, true, false⟩,
    ⟨R.CBUS_ADDRCFG_ALT, .rw, .ao, true, false⟩,
    ⟨R.CBUS_ADDRCFG_ADDR, .rw, .ao, true, false⟩]⟩,
  ⟨0x24, 4, 1, [⟨R.CBUS_CFG_TOEN, .rw, .ao, true, false⟩,
    ⟨R.CBUS_CFG_ARAEN, .rw, .ao, true, false⟩,
    ⟨R.CBUS_CFG_PECREQ, .rw, .ao, true, false⟩]⟩,
  ⟨0x28, 4, 1, [⟨R.CBUS_LASTRES_REASON, .ro, .ao, false, false⟩,
    ⟨R.CBUS_LASTRES_RESULT, .ro, .ao, false, false⟩,
    ⟨R.CBUS_LASTRES_CMD, .ro, .ao, false, false⟩]⟩,
  ⟨0x2C, 4, 1, [⟨R.CBUS_PKTCNT_NOTAPPL, .ro, .ao, false, false⟩,
    ⟨R.CBUS_PKTCNT_APPLIED, .ro, .ao, false, false⟩]⟩,
  ⟨0x30, 4, 1, [⟨R.CBUS_EVCNT_TIMEOUTS, .rc, .ao, false, true⟩,
    ⟨R.CBUS_EVCNT_PECERR, .rc, .ao, false, true⟩,
    ⟨R.CBUS_EVCNT_ABORTS, .rc, .ao, false, true⟩]⟩]

/-- Page AUXB. -/
def auxbRegs : List Reg := [
  ⟨0x0, 4, 1, [⟨R.AUXB_ID_TYPE, .ro, .co, false, false⟩,
    ⟨R.AUXB_ID_INST, .ro, .co, false, false⟩,
    ⟨R.AUXB_ID_MAJOR, .ro, .co, false, false⟩,
    ⟨R.AUXB_ID_MINOR, .ro, .co, false, false⟩]⟩,
  ⟨0x4, 4, 1, [⟨R.AUXB_CTRL_ABORT, .ws, .co, false, false⟩,
    ⟨R.AUXB_CTRL_GO, .ws, .co, false, false⟩,
    ⟨R.AUXB_CTRL_SRST, .ws, .co, false, false⟩,
    ⟨R.AUXB_CTRL_EN, .rw, .rt, true, false⟩]⟩,
  ⟨0x8, 4, 1, [⟨R.AUXB_STAT_AUXSTUCK, .ro, .rt, false, false⟩,
    ⟨R.AUXB_STAT_BUSY, .ro, .co, false, false⟩,
    ⟨R.AUXB_STAT_BUSBUSY, .ro, .co, false, false⟩,
    ⟨R.AUXB_STAT_TRIES, .ro, .co, false, false⟩]⟩,
  ⟨0xC, 4, 1, [⟨R.AUXB_IFLG_PECERR, .w1c, .rt, false, true⟩,
    ⟨R.AUXB_IFLG_TIMEOUT, .w1c, .rt, false, true⟩,
    ⟨R.AUXB_IFLG_STUCK, .w1c, .rt, false, true⟩,
    ⟨R.AUXB_IFLG_ARBFAIL, .w1c, .rt, false, true⟩,
    ⟨R.AUXB_IFLG_NACK, .w1c, .rt, false, true⟩,
    ⟨R.AUXB_IFLG_DONE, .w1c, .rt, false, true⟩]⟩,
  ⟨0x10, 4, 1, [⟨R.AUXB_IEN_PECERR, .rw, .rt, true, false⟩,
    ⟨R.AUXB_IEN_TIMEOUT, .rw, .rt, true, false⟩,
    ⟨R.AUXB_IEN_STUCK, .rw, .rt, true, false⟩,
    ⟨R.AUXB_IEN_ARBFAIL, .rw, .rt, true, false⟩,
    ⟨R.AUXB_IEN_NACK, .rw, .rt, true, false⟩,
    ⟨R.AUXB_IEN_DONE, .rw, .rt, true, false⟩]⟩,
  ⟨0x14, 4, 1, [⟨R.AUXB_OWNER_ENG, .rw, .rt, true, false⟩,
    ⟨R.AUXB_OWNER_RZ, .rw, .rt, true, false⟩,
    ⟨R.AUXB_OWNER_USB, .rw, .rt, true, false⟩,
    ⟨R.AUXB_OWNER_CTL, .rw, .rt, true, false⟩]⟩,
  ⟨0x18, 4, 1, [⟨R.AUXB_ERRCNT_BLKERR, .rc, .rt, false, true⟩,
    ⟨R.AUXB_ERRCNT_REJ, .rc, .rt, false, true⟩]⟩,
  ⟨0x1C, 4, 1, [⟨R.AUXB_CGRP_GRP, .rw, .rt, true, false⟩]⟩,
  ⟨0x20, 4, 1, [⟨R.AUXB_CFG_SPEED, .rw, .rt, true, false⟩,
    ⟨R.AUXB_CFG_PEC, .rw, .rt, true, false⟩,
    ⟨R.AUXB_CFG_TOEN, .rw, .rt, true, false⟩]⟩,
  ⟨0x24, 4, 1, [⟨R.AUXB_XFER_TADDR, .rw, .rt, false, false⟩,
    ⟨R.AUXB_XFER_WLEN, .rw, .rt, false, false⟩,
    ⟨R.AUXB_XFER_RLEN, .rw, .rt, false, false⟩]⟩,
  ⟨0x28, 4, 1, [⟨R.AUXB_TXFIFO_DATA, .wo, .co, false, false⟩]⟩,
  ⟨0x2C, 4, 1, [⟨R.AUXB_RXFIFO_DATA, .ro, .co, false, false⟩]⟩,
  ⟨0x30, 4, 1, [⟨R.AUXB_RESULT_NACKPOS, .ro, .rt, false, false⟩,
    ⟨R.AUXB_RESULT_CODE, .ro, .rt, false, false⟩]⟩,
  ⟨0x34, 4, 1, [⟨R.AUXB_LEVEL_RX, .ro, .co, false, false⟩,
    ⟨R.AUXB_LEVEL_TX, .ro, .co, false, false⟩]⟩,
  ⟨0x38, 4, 1, [⟨R.AUXB_EVCNT_ARBLOST, .rc, .rt, false, true⟩,
    ⟨R.AUXB_EVCNT_RECOVER, .rc, .rt, false, true⟩,
    ⟨R.AUXB_EVCNT_XFERS, .rc, .rt, false, true⟩]⟩]

/-- Page NVM. -/
def nvmRegs : List Reg := [
  ⟨0x0, 4, 1, [⟨R.NVM_ID_TYPE, .ro, .co, false, false⟩,
    ⟨R.NVM_ID_INST, .ro, .co, false, false⟩,
    ⟨R.NVM_ID_MAJOR, .ro, .co, false, false⟩,
    ⟨R.NVM_ID_MINOR, .ro, .co, false, false⟩]⟩,
  ⟨0x4, 4, 1, [⟨R.NVM_CTRL_SRST, .ws, .co, false, false⟩,
    ⟨R.NVM_CTRL_EN, .rw, .rt, true, false⟩]⟩,
  ⟨0x8, 4, 1, [⟨R.NVM_STAT_BUSY, .ro, .co, false, false⟩,
    ⟨R.NVM_STAT_OP, .ro, .co, false, false⟩,
    ⟨R.NVM_STAT_VALIDB, .ro, .co, false, false⟩,
    ⟨R.NVM_STAT_VALIDA, .ro, .co, false, false⟩,
    ⟨R.NVM_STAT_TGT, .ro, .co, false, false⟩]⟩,
  ⟨0xC, 4, 1, [⟨R.NVM_IFLG_BOOTSKIP, .w1c, .rt, false, true⟩,
    ⟨R.NVM_IFLG_PROGERR, .w1c, .rt, false, true⟩,
    ⟨R.NVM_IFLG_OPFAIL, .w1c, .rt, false, true⟩,
    ⟨R.NVM_IFLG_OPDONE, .w1c, .rt, false, true⟩]⟩,
  ⟨0x10, 4, 1, [⟨R.NVM_IEN_BOOTSKIP, .rw, .rt, true, false⟩,
    ⟨R.NVM_IEN_PROGERR, .rw, .rt, true, false⟩,
    ⟨R.NVM_IEN_OPFAIL, .rw, .rt, true, false⟩,
    ⟨R.NVM_IEN_OPDONE, .rw, .rt, true, false⟩]⟩,
  ⟨0x14, 4, 1, [⟨R.NVM_OWNER_ENG, .rw, .rt, true, false⟩,
    ⟨R.NVM_OWNER_RZ, .rw, .rt, true, false⟩,
    ⟨R.NVM_OWNER_USB, .rw, .rt, true, false⟩,
    ⟨R.NVM_OWNER_CTL, .rw, .rt, true, false⟩]⟩,
  ⟨0x18, 4, 1, [⟨R.NVM_ERRCNT_BLKERR, .rc, .rt, false, true⟩,
    ⟨R.NVM_ERRCNT_REJ, .rc, .rt, false, true⟩]⟩,
  ⟨0x1C, 4, 1, [⟨R.NVM_CGRP_GRP, .rw, .rt, true, false⟩]⟩,
  ⟨0x20, 4, 1, [⟨R.NVM_CMD_ACTION, .wo, .co, false, false⟩]⟩,
  ⟨0x24, 4, 1, [⟨R.NVM_PADDR_ADDR, .rw, .co, false, false⟩]⟩,
  ⟨0x28, 4, 1, [⟨R.NVM_PDATA_DATA, .wo, .co, false, false⟩]⟩,
  ⟨0x2C, 4, 1, [⟨R.NVM_PLEVEL_BYTES, .ro, .co, false, false⟩]⟩,
  ⟨0x30, 4, 2, [⟨R.NVM_SEQ_SEQ 0, .ro, .co, false, false⟩]⟩,
  ⟨0x38, 4, 1, [⟨R.NVM_COPY_BANK, .rw, .co, false, false⟩,
    ⟨R.NVM_COPY_SECT, .rw, .co, false, false⟩,
    ⟨R.NVM_COPY_DST, .rw, .co, false, false⟩]⟩,
  ⟨0x3C, 4, 1, [⟨R.NVM_CRC_CRC, .ro, .co, false, false⟩]⟩,
  ⟨0x40, 4, 1, [⟨R.NVM_BOOTSKIP_COUNT, .rc, .rt, false, true⟩]⟩]

/-- Page GPIO. -/
def gpioRegs : List Reg := [
  ⟨0x0, 4, 1, [⟨R.GPIO_ID_TYPE, .ro, .co, false, false⟩,
    ⟨R.GPIO_ID_INST, .ro, .co, false, false⟩,
    ⟨R.GPIO_ID_MAJOR, .ro, .co, false, false⟩,
    ⟨R.GPIO_ID_MINOR, .ro, .co, false, false⟩]⟩,
  ⟨0x4, 4, 1, [⟨R.GPIO_CTRL_SRST, .ws, .co, false, false⟩,
    ⟨R.GPIO_CTRL_EN, .rw, .rt, true, false⟩]⟩,
  ⟨0x8, 4, 1, [⟨R.GPIO_STAT_IN, .ro, .co, false, false⟩]⟩,
  ⟨0xC, 4, 1, [⟨R.GPIO_IFLG_EDGE, .w1c, .rt, false, true⟩]⟩,
  ⟨0x10, 4, 1, [⟨R.GPIO_IEN_EDGE, .rw, .rt, true, false⟩]⟩,
  ⟨0x14, 4, 1, [⟨R.GPIO_OWNER_ENG, .rw, .rt, true, false⟩,
    ⟨R.GPIO_OWNER_RZ, .rw, .rt, true, false⟩,
    ⟨R.GPIO_OWNER_USB, .rw, .rt, true, false⟩,
    ⟨R.GPIO_OWNER_CTL, .rw, .rt, true, false⟩]⟩,
  ⟨0x18, 4, 1, [⟨R.GPIO_ERRCNT_BLKERR, .rc, .rt, false, true⟩,
    ⟨R.GPIO_ERRCNT_REJ, .rc, .rt, false, true⟩]⟩,
  ⟨0x1C, 4, 1, [⟨R.GPIO_CGRP_GRP, .rw, .rt, true, false⟩]⟩,
  ⟨0x20, 4, 8, [⟨R.GPIO_CFG_IRQ 0, .rw, .rt, true, false⟩,
    ⟨R.GPIO_CFG_PULL 0, .rw, .rt, true, false⟩,
    ⟨R.GPIO_CFG_MODE 0, .rw, .rt, true, false⟩,
    ⟨R.GPIO_CFG_DEBEN 0, .rw, .rt, true, false⟩,
    ⟨R.GPIO_CFG_FUNC 0, .rw, .rt, true, false⟩]⟩,
  ⟨0x40, 4, 1, [⟨R.GPIO_OUT_OUT, .rw, .rt, true, false⟩]⟩,
  ⟨0x44, 4, 1, [⟨R.GPIO_SET_SET, .ws, .co, false, false⟩]⟩,
  ⟨0x48, 4, 1, [⟨R.GPIO_CLR_CLR, .ws, .co, false, false⟩]⟩,
  ⟨0x4C, 4, 1, [⟨R.GPIO_STRAPS_ADDR1, .ro, .ao, false, false⟩,
    ⟨R.GPIO_STRAPS_ADDR0, .ro, .ao, false, false⟩,
    ⟨R.GPIO_STRAPS_RZROLE1, .ro, .ao, false, false⟩,
    ⟨R.GPIO_STRAPS_RZROLE0, .ro, .ao, false, false⟩]⟩]

/-- Page ACC. -/
def accRegs : List Reg := [
  ⟨0x0, 4, 1, [⟨R.ACC_ID_TYPE, .ro, .co, false, false⟩,
    ⟨R.ACC_ID_INST, .ro, .co, false, false⟩,
    ⟨R.ACC_ID_MAJOR, .ro, .co, false, false⟩,
    ⟨R.ACC_ID_MINOR, .ro, .co, false, false⟩]⟩,
  ⟨0x4, 4, 1, [⟨R.ACC_CTRL_SRST, .ws, .co, false, false⟩,
    ⟨R.ACC_CTRL_EN, .ro, .co, false, false⟩]⟩,
  ⟨0x8, 4, 1, [⟨R.ACC_STAT_HOLD, .ro, .co, false, false⟩,
    ⟨R.ACC_STAT_PEND, .ro, .co, false, false⟩]⟩,
  ⟨0xC, 4, 1, [⟨R.ACC_IFLG_RSVACC, .w1c, .rt, false, true⟩,
    ⟨R.ACC_IFLG_LATCHMISS, .w1c, .rt, false, true⟩,
    ⟨R.ACC_IFLG_WRCONF, .w1c, .rt, false, true⟩,
    ⟨R.ACC_IFLG_REJ, .w1c, .rt, false, true⟩]⟩,
  ⟨0x10, 4, 1, [⟨R.ACC_IEN_RSVACC, .rw, .rt, true, true⟩,
    ⟨R.ACC_IEN_LATCHMISS, .rw, .rt, true, true⟩,
    ⟨R.ACC_IEN_WRCONF, .rw, .rt, true, true⟩,
    ⟨R.ACC_IEN_REJ, .rw, .rt, true, true⟩]⟩,
  ⟨0x14, 4, 1, [⟨R.ACC_OWNER_ENG, .rw, .rt, true, false⟩,
    ⟨R.ACC_OWNER_RZ, .rw, .rt, true, false⟩,
    ⟨R.ACC_OWNER_USB, .rw, .rt, true, false⟩,
    ⟨R.ACC_OWNER_CTL, .rw, .rt, true, false⟩]⟩,
  ⟨0x18, 4, 1, [⟨R.ACC_ERRCNT_BLKERR, .rc, .rt, false, true⟩,
    ⟨R.ACC_ERRCNT_REJ, .rc, .rt, false, true⟩]⟩,
  ⟨0x1C, 4, 1, [⟨R.ACC_CGRP_GRP, .ro, .co, false, false⟩]⟩,
  ⟨0x20, 4, 1, [⟨R.ACC_LASTREJ_VALID, .rc, .rt, false, true⟩,
    ⟨R.ACC_LASTREJ_SRC, .ro, .rt, false, true⟩,
    ⟨R.ACC_LASTREJ_REASON, .ro, .rt, false, true⟩,
    ⟨R.ACC_LASTREJ_ADDR, .ro, .rt, false, true⟩]⟩,
  ⟨0x24, 4, 1, [⟨R.ACC_REJSRC_ENG, .rc, .rt, false, true⟩,
    ⟨R.ACC_REJSRC_RZ, .rc, .rt, false, true⟩,
    ⟨R.ACC_REJSRC_USB, .rc, .rt, false, true⟩,
    ⟨R.ACC_REJSRC_CTL, .rc, .rt, false, true⟩]⟩,
  ⟨0x28, 4, 1, [⟨R.ACC_WRCONFLICT_VALID, .rc, .rt, false, true⟩,
    ⟨R.ACC_WRCONFLICT_LOSER, .ro, .rt, false, true⟩,
    ⟨R.ACC_WRCONFLICT_WINNER, .ro, .rt, false, true⟩,
    ⟨R.ACC_WRCONFLICT_ADDR, .ro, .rt, false, true⟩]⟩,
  ⟨0x2C, 4, 1, [⟨R.ACC_WRCONFCNT_COUNT, .rc, .rt, false, true⟩]⟩,
  ⟨0x30, 4, 1, [⟨R.ACC_RSVCNT_COUNT, .rc, .rt, false, true⟩]⟩,
  ⟨0x34, 4, 1, [⟨R.ACC_LATCHMISS_COUNT, .rc, .rt, false, true⟩]⟩]

/-- The stream context (R99), 64 bytes. -/
def ctxRegs : List Reg := [
  ⟨0x0, 4, 1, [⟨R.CTX_EPT_TYPE 0, .rw, .rt, true, false⟩,
    ⟨R.CTX_EPT_INST 0, .rw, .rt, true, false⟩,
    ⟨R.CTX_EPT_FIRST 0, .rw, .rt, true, false⟩]⟩,
  ⟨0x4, 4, 1, [⟨R.CTX_FMT_NCH 0, .rw, .rt, true, false⟩,
    ⟨R.CTX_FMT_WIDTH 0, .rw, .rt, true, false⟩,
    ⟨R.CTX_FMT_DIR 0, .rw, .rt, true, false⟩,
    ⟨R.CTX_FMT_DOMAIN 0, .rw, .rt, true, false⟩,
    ⟨R.CTX_FMT_RECON 0, .rw, .rt, true, false⟩,
    ⟨R.CTX_FMT_GROUP 0, .rw, .rt, true, false⟩]⟩,
  ⟨0x8, 4, 1, [⟨R.CTX_BUF_BUFBASE 0, .rw, .rt, true, false⟩,
    ⟨R.CTX_BUF_BUFLEN 0, .rw, .rt, true, false⟩]⟩,
  ⟨0xC, 4, 1, [⟨R.CTX_OPT_AUTORATE 0, .rw, .rt, true, false⟩]⟩,
  ⟨0x10, 4, 1, [⟨R.CTX_STATUS_CAUSE 0, .ro, .co, false, false⟩,
    ⟨R.CTX_STATUS_STATE 0, .ro, .co, false, false⟩]⟩,
  ⟨0x14, 4, 1, [⟨R.CTX_STARTIDX_IDX 0, .ro, .co, false, false⟩]⟩,
  ⟨0x18, 4, 1, [⟨R.CTX_INL_COUNT 0, .ro, .co, false, false⟩]⟩,
  ⟨0x1C, 4, 1, [⟨R.CTX_INH_COUNT 0, .ro, .co, false, false⟩]⟩,
  ⟨0x20, 4, 1, [⟨R.CTX_OUTL_COUNT 0, .ro, .co, false, false⟩]⟩,
  ⟨0x24, 4, 1, [⟨R.CTX_OUTH_COUNT 0, .ro, .co, false, false⟩]⟩,
  ⟨0x28, 4, 1, [⟨R.CTX_PADL_COUNT 0, .ro, .co, false, false⟩]⟩,
  ⟨0x2C, 4, 1, [⟨R.CTX_PADH_COUNT 0, .ro, .co, false, false⟩]⟩,
  ⟨0x30, 4, 1, [⟨R.CTX_DROPL_COUNT 0, .ro, .co, false, false⟩]⟩,
  ⟨0x34, 4, 1, [⟨R.CTX_DROPH_COUNT 0, .ro, .co, false, false⟩]⟩,
  ⟨0x38, 4, 1, [⟨R.CTX_FILL_FILL 0, .ro, .co, false, false⟩]⟩,
  ⟨0x3C, 4, 1, [⟨R.CTX_EPOCH_EPOCH 0, .ro, .ao, false, false⟩]⟩]

/-- The slot table entry (R341), 16 bytes. -/
def sltRegs : List Reg := [
  ⟨0x0, 4, 1, [⟨R.SLT_MAP_GRANTED 0, .rw, .rt, false, false⟩,
    ⟨R.SLT_MAP_WRITER 0, .rw, .rt, false, false⟩]⟩,
  ⟨0x4, 4, 1, [⟨R.SLT_REQ_ACTION 0, .wo, .co, false, false⟩]⟩,
  ⟨0x8, 4, 1, [⟨R.SLT_STATE_REASON 0, .ro, .rt, false, false⟩,
    ⟨R.SLT_STATE_STATE 0, .ro, .rt, false, false⟩]⟩,
  ⟨0xC, 4, 1, [⟨R.SLT_MISS_COUNT 0, .rc, .rt, false, true⟩]⟩]

end Tab

/-- The register table of a page. -/
def Pg.regs : Pg → List Reg
  | .sys => Tab.sysRegs
  | .pwr => Tab.pwrRegs
  | .clkm => Tab.clkmRegs
  | .pll => Tab.pllRegs
  | .sap => Tab.sapRegs
  | .strm => Tab.strmRegs
  | .asrc => Tab.asrcRegs
  | .grp => Tab.grpRegs
  | .mtx => Tab.mtxRegs
  | .eng => Tab.engRegs
  | .sched => Tab.schedRegs
  | .engn => Tab.engnRegs
  | .pdm => Tab.pdmRegs
  | .priv => Tab.privRegs
  | .wake => Tab.wakeRegs
  | .peat => Tab.peatRegs
  | .fhd => Tab.fhdRegs
  | .ain => Tab.ainRegs
  | .hp => Tab.hpRegs
  | .lout => Tab.loutRegs
  | .jack => Tab.jackRegs
  | .amp => Tab.ampRegs
  | .ampg => Tab.ampgRegs
  | .spkp => Tab.spkpRegs
  | .excur => Tab.excurRegs
  | .usb => Tab.usbRegs
  | .usbd => Tab.usbdRegs
  | .rz => Tab.rzRegs
  | .rzslot => Tab.rzslotRegs
  | .lich => Tab.lichRegs
  | .lichr => Tab.lichrRegs
  | .cdac => Tab.cdacRegs
  | .cbus => Tab.cbusRegs
  | .auxb => Tab.auxbRegs
  | .nvm => Tab.nvmRegs
  | .gpio => Tab.gpioRegs
  | .acc => Tab.accRegs
  | .ctx => Tab.ctxRegs
  | .slt => Tab.sltRegs

/-- The snapshot groups of a page (R51): first offset, length in bytes, repetition. -/
def Pg.snaps : Pg → List (Nat × Nat × Nat × Nat)
  | .sys => [(0x24, 8, 4, 1), (0x40, 8, 4, 1), (0x18, 4, 4, 1)]
  | .pwr => [(0x2C, 4, 4, 1), (0x18, 4, 4, 1)]
  | .clkm => [(0x30, 4, 4, 1), (0x54, 4, 4, 1), (0x60, 4, 4, 1), (0x78, 4, 12, 12), (0x18, 4, 4, 1)]
  | .pll => [(0x20, 4, 4, 1), (0x18, 4, 4, 1)]
  | .sap => [(0x18, 4, 4, 1)]
  | .strm => [(0x18, 4, 4, 1)]
  | .asrc => [(0x28, 12, 4, 1), (0x40, 8, 4, 1), (0x18, 4, 4, 1)]
  | .grp => [(0x48, 16, 4, 1), (0x18, 4, 4, 1)]
  | .mtx => [(0x40, 12, 4, 1), (0x18, 4, 4, 1)]
  | .eng => [(0x34, 4, 4, 1), (0x2C, 8, 4, 1), (0x18, 4, 4, 1)]
  | .sched => [(0x28, 12, 4, 1), (0x44, 20, 4, 1), (0x18, 4, 4, 1)]
  | .engn => [(0x20, 16, 4, 1), (0x18, 4, 4, 1)]
  | .pdm => [(0x18, 4, 4, 1)]
  | .priv => [(0x24, 4, 4, 1), (0x18, 4, 4, 1)]
  | .wake => [(0x50, 4, 4, 1), (0x3C, 20, 4, 1), (0x18, 4, 4, 1)]
  | .peat => [(0x30, 20, 4, 1), (0x18, 4, 4, 1)]
  | .fhd => [(0x18, 4, 4, 1)]
  | .ain => [(0x18, 4, 4, 1)]
  | .hp => [(0x18, 4, 4, 1)]
  | .lout => [(0x18, 4, 4, 1)]
  | .jack => [(0x34, 4, 4, 1), (0x2C, 8, 4, 1), (0x18, 4, 4, 1)]
  | .amp => [(0x30, 4, 4, 1), (0x34, 4, 4, 1), (0x28, 8, 4, 1), (0x18, 4, 4, 1)]
  | .ampg => [(0x18, 4, 4, 1)]
  | .spkp => [(0x44, 12, 4, 1), (0x18, 4, 4, 1)]
  | .excur => [(0x2C, 4, 4, 1), (0x18, 4, 4, 1)]
  | .usb => [(0x24, 4, 4, 1), (0x18, 4, 4, 1)]
  | .usbd => [(0x38, 4, 4, 1), (0x18, 4, 4, 1)]
  | .rz => [(0x2C, 16, 4, 1), (0x3C, 8, 4, 1), (0x44, 16, 4, 1), (0x18, 4, 4, 1)]
  | .rzslot => [(0x18, 4, 4, 1)]
  | .lich => [(0xD0, 4, 4, 1), (0x18, 4, 4, 1)]
  | .lichr => [(0x20, 4, 4, 16), (0x60, 4, 4, 16), (0xA0, 4, 4, 4), (0xB0, 8, 4, 1), (0x18, 4, 4, 1)]
  | .cdac => [(0xF4, 4, 4, 1), (0x28, 8, 16, 8), (0x18, 4, 4, 1)]
  | .cbus => [(0x2C, 4, 4, 1), (0x30, 4, 4, 1), (0x18, 4, 4, 1)]
  | .auxb => [(0x38, 4, 4, 1), (0x18, 4, 4, 1)]
  | .nvm => [(0x18, 4, 4, 1)]
  | .gpio => [(0x18, 4, 4, 1)]
  | .acc => [(0x20, 4, 4, 1), (0x24, 4, 4, 1), (0x28, 4, 4, 1), (0x18, 4, 4, 1)]
  | .ctx => [(0x18, 40, 4, 1)]
  | .slt => []

/-- The pages of R29: page number of the first instance, number of instances. -/
def Pg.first : Pg → Nat × Nat
  | .sys => (0x0, 1)
  | .pwr => (0x1, 1)
  | .clkm => (0x4, 1)
  | .pll => (0x5, 1)
  | .sap => (0x8, 6)
  | .strm => (0x10, 1)
  | .asrc => (0x11, 1)
  | .grp => (0x12, 1)
  | .mtx => (0x14, 1)
  | .eng => (0x18, 1)
  | .sched => (0x19, 1)
  | .engn => (0x20, 16)
  | .pdm => (0x30, 1)
  | .priv => (0x31, 1)
  | .wake => (0x32, 1)
  | .peat => (0x33, 1)
  | .fhd => (0x34, 1)
  | .ain => (0x38, 1)
  | .hp => (0x39, 1)
  | .lout => (0x3A, 1)
  | .jack => (0x3B, 1)
  | .amp => (0x40, 4)
  | .ampg => (0x44, 1)
  | .spkp => (0x45, 1)
  | .excur => (0x46, 1)
  | .usb => (0x48, 1)
  | .usbd => (0x49, 1)
  | .rz => (0x50, 1)
  | .rzslot => (0x51, 1)
  | .lich => (0x58, 1)
  | .lichr => (0x59, 1)
  | .cdac => (0x5C, 1)
  | .cbus => (0x60, 1)
  | .auxb => (0x61, 1)
  | .nvm => (0x68, 1)
  | .gpio => (0x6C, 1)
  | .acc => (0x70, 1)
  | .ctx => (0x1000, 256)
  | .slt => (0x9000, 512)

/-- The pages of R29, in page order. -/
def Pg.all : List Pg := [.sys, .pwr, .clkm, .pll, .sap, .strm, .asrc, .grp, .mtx, .eng, .sched, .engn, .pdm, .priv, .wake, .peat, .fhd, .ain, .hp, .lout, .jack, .amp, .ampg, .spkp, .excur, .usb, .usbd, .rz, .rzslot, .lich, .lichr, .cdac, .cbus, .auxb, .nvm, .gpio, .acc]

/-- The page block that page number `n` (address [15:8]) belongs to, with the instance. -/
def Pg.ofNumber (n : Nat) : Option (Pg × Nat) :=
  (Pg.all.find? (fun p => p.first.1 ≤ n && n < p.first.1 + p.first.2)).map
    (fun p => (p, n - p.first.1))

end Sys2Proof.Machine
end

