-- ==== Sys2Proof/Machine/State.lean ====
section
/-! DEFINITION. The state of the block as plain data: the register fields, the memories, the stream
contexts, the engines, the ports and the queue of waiting commands. -/
namespace Sys2Proof.Machine
open Sys2Proof

/-- Why a step stops with a fault. -/
inductive Fault where
  /-- SAG_TRIP with its operand telling that the supplies are outside the recommended conditions: R441
  gives no behaviour there.  Safe. -/
  | outsideConditions
deriving DecidableEq, Repr

/-- Why a command has no meaning. -/
inductive Refusal where
  /-- The command has no meaning in this model yet.  Safe. -/
  | notModelled (mnemonic : String)
deriving DecidableEq, Repr

/-! The clock manager and the streams. -/

/-- The clock manager beside its registers (R72 to R80). -/
structure ClkmSt where
  /-- The build-out offset of R76, in ps. -/
  buildOut : Int
  /-- One entry for each past second of continuous LOCKED, newest first: offset (0.01 ppb), temperature
  (0.01 degrees), day count (R79). -/
  history : List (Int × Int × Nat)
  /-- DHOLD of R79, days with 16 fraction bits. -/
  dhold : Nat
  /-- The holdover target of R80, 0.01 ppb. -/
  holdTarget : Int
deriving DecidableEq, Repr

/-- The states of a stream context (R99, R102). -/
inductive CtxSt where
  | idle | armed | running | stalled | draining
deriving DecidableEq, Repr

/-- The requests of STRM.CMD (R102, R116). -/
inductive Req where
  | arm | start | stop | drain | release
deriving DecidableEq, Repr

/-- A channel's gate on a serial port (R97). -/
inductive Gate where
  | closed | opened
  /-- Waiting for a zero crossing to open. -/
  | waitOpen
  /-- Waiting for a zero crossing to close. -/
  | waitClose
  /-- A 1-block ramp-in, since the sample index given. -/
  | rampOpen (since : Nat)
  /-- A 1-block fade-out, since the sample index given. -/
  | rampClose (since : Nat)
deriving DecidableEq, Repr

/-- A channel of a context on a serial port: its gate (R97), its port gain (R98) and its last sample. -/
structure Chan where
  gate : Gate
  /-- The gain code in force (R98); 0 is mute. -/
  gain : Nat
  /-- A committed gain that waits for this channel's zero crossing. -/
  next : Option Nat
  /-- A change that found no zero crossing: the ramp to `gain`, since this sample index, from this gain code. -/
  ramp : Option (Nat × Nat)
  /-- The sample before, 0 where there was none. -/
  prev : Sample
deriving DecidableEq, Repr

/-- The ledger of R117 as one reading: IN, OUT, PAD, DROP, FILL. -/
structure Ledger where
  cin : BitVec 48
  cout : BitVec 48
  cpad : BitVec 48
  cdrop : BitVec 48
  fill : Nat
deriving DecidableEq, Repr

/-- The rate converter of an ASRC context (R126 to R130). -/
structure Conv where
  locked : Bool
  hold : Bool
  /-- Endpoint frames per SYSRATE frame, 8.24. -/
  ratio : Nat
  /-- Part of the next endpoint frame already taken or given, in 2^-32 frame. -/
  frac : Nat
  /-- The input rate AUTO_RATE has taken over, 1/16 Hz (R114); 0 for the nominal rate. -/
  inRate : Nat
  /-- RATIO, FRAC and POSIDX as the last boundary recorded them (R137). -/
  pubRatio : Nat
  pubFrac : Nat
  pubIdx : Nat
  /-- A rate that AUTO_RATE has taken over is still to be locked (R114). -/
  retune : Bool
deriving DecidableEq, Repr

/-- A stream context beside its configuration words (R99 to R121). -/
structure Ctx where
  st : CtxSt
  /-- STATUS.CAUSE. -/
  cause : Nat
  /-- A START that is kept (R102, R103). -/
  kept : Bool
  /-- A STOP applied, the gates still closing (R102). -/
  stopping : Bool
  /-- A stalled context resumes at the next boundary (R113). -/
  resume : Bool
  /-- A stalled context resumes at the first boundary after its converter has locked (R114, R130). -/
  resumeOnLock : Bool
  /-- The 1-block ramp-in after a resume or a group slip, since this sample index (R102, R133). -/
  rampIn : Option Nat
  /-- Frames left of the FASTRAMP fade of a stalled sink (R111). -/
  fade : Nat
  /-- A sink that STRM.CTRL.SRST has sent to IDLE fades out over the block from this sample index (R102). -/
  fadeOut : Option Nat
  startIdx : Nat
  epoch : BitVec 32
  cin : BitVec 48
  cout : BitVec 48
  cpad : BitVec 48
  cdrop : BitVec 48
  /-- FILL: the frames held, which stand in Thallus from BUFBASE on (R99, R158). -/
  fill : Nat
  /-- The place in the buffer, from 0 to BUFLEN - 1, of the next frame written. -/
  wpos : Nat
  /-- The values of the last boundary, which reads return (R18). -/
  pub : Ledger
  conv : Conv
  chans : List Chan
  /-- The last frame passed on. -/
  last : Frame
deriving DecidableEq, Repr

/-- Nothing counted. -/
def Ledger.zero : Ledger := ⟨0, 0, 0, 0, 0⟩

/-- A converter that is not bound. -/
def Conv.none : Conv := ⟨false, false, 0, 0, 0, 0, 0, 0, false⟩

/-- A context that was never armed. -/
def Ctx.zero : Ctx :=
  ⟨.idle, 0, false, false, false, false, Option.none, 0, Option.none, 0, 0, 0, 0, 0, 0, 0, 0, .zero, .none, [], []⟩

/-- A serial port beside its registers (R96, R108 to R113). -/
structure SapSt where
  /-- The sample index at which the master clocks started. -/
  startedAt : Nat
  leadDone : Bool
  /-- Consecutive period errors (R110). -/
  errRun : Nat
  /-- Consecutive clean frames that each context of the port has seen, up to 8 (R113, R115). -/
  clean : FMap Nat
deriving DecidableEq, Repr

/-- Ports in their reset condition. -/
def SapSt.zero : SapSt := ⟨0, false, 0, []⟩

/-- The streams. -/
structure StrmSt where
  /-- The contexts that differ from `Ctx.zero`, by number. -/
  ctxs : FMap Ctx
  /-- Requests accepted and not yet applied, in the order accepted (R102). -/
  reqs : List (Nat × Req)
  /-- STRM.CTRL.SRST stands for the next boundary (R102). -/
  srst : Bool
  saps : FMap SapSt
deriving DecidableEq, Repr

/-- The steering loop (R124, R125). -/
structure AsrcSt where
  /-- The integrator I, 0.01 ppb. -/
  integ : Int
  /-- The integrator is held. -/
  frozen : Bool
  /-- The STEER context that runs (kept beside the contexts for the clock manager's tables). -/
  steerRunning : Bool
  /-- A context with RECON = STEER or ASRC runs (R75). -/
  reconRunning : Bool
deriving DecidableEq, Repr

/-- A group slip in progress (R133). -/
structure Slip where
  /-- The sample period at which it began. -/
  since : Nat
  /-- The members that underran, each with its FILL at the last boundary before. -/
  under : List (Nat × Nat)
deriving DecidableEq, Repr

/-- The aligned groups. -/
structure GrpSt where
  slips : List (Nat × Slip)
  /-- The halves of STARTAT written so far in a pending state: bit 0 LO, bit 1 HI (R138). -/
  pend : FMap Nat
deriving DecidableEq, Repr

/-! The routing matrix. -/

/-- A crosspoint change in progress (R151). -/
structure XChg where
  /-- The coefficient at its start. -/
  c0 : Int
  /-- Samples of the ramp done, of `len`. -/
  n : Nat
  len : Nat
  /-- It still waits for a zero crossing. -/
  waiting : Bool
deriving DecidableEq, Repr

/-- The routing matrix beside its registers. -/
structure MtxSt where
  /-- The two halves of MXT: 16-bit entries by index e. -/
  half0 : FMap Nat
  half1 : FMap Nat
  chg : FMap XChg
  /-- CTRL.EN as the last boundary took it (R156). -/
  en : Bool
  /-- A COMMIT of the MTX group is applied; the halves swap at the next boundary (R148). -/
  swapDue : Bool
  /-- The previous sample of each input, for zero crossings. -/
  prev : FMap Sample
  /-- One entry for each sample period: the frames by context that were read in the block before and are still to be
  mixed, and those read in the present block, oldest first (R19, R146). -/
  work : List (FMap Frame)
  gather : List (FMap Frame)
  /-- PEAK and the sum of squares of each output in the meter window. -/
  met : FMap (Nat × Nat)
  /-- The sample index at which the meter window began, and the METWIN in force (R154). -/
  metStart : Nat
  metWin : Nat
  /-- Outputs saturated in this block. -/
  satBlk : Bool
deriving DecidableEq, Repr

/-! The engines and the scheduler. -/

/-- A buffer word of a buffer list (R169). -/
structure BufW where
  port : Bool
  chans : Nat
  first : Nat
  /-- Port number, or the Thallus offset of an intermediate buffer. -/
  at' : Nat
deriving DecidableEq, Repr

/-- A task descriptor (R169). -/
structure TaskD where
  depcnt : Nat
  shed : Bool
  prio : Nat
  kid : Nat
  param : Nat
  wcet : Nat
  ins : List BufW
  outs : List BufW
  /-- S0, S1 and the XLIST, in that order. -/
  succs : List Nat
  /-- STATE, INLIST and OUTLIST. -/
  state : Nat
  inList : Nat
  outList : Nat
deriving DecidableEq, Repr

/-- A descriptor of zeros. -/
def TaskD.zero : TaskD := ⟨0, false, 0, 0, 0, 0, [], [], [], 0, 0, 0⟩

/-- A graph as its header, port table and descriptors give it (R167 to R169). -/
structure Graph where
  hdr : Nat
  /-- DESCBASE. -/
  desc : Nat
  /-- PERIOD in blocks, 1 to 16. -/
  period : Nat
  tokens : Nat
  /-- Direction (true: output) and context of each port. -/
  ports : List (Bool × Nat)
  tasks : List TaskD
deriving DecidableEq, Repr

/-- The candidate of R170. -/
structure Cand where
  slot : Nat
  newset : Bool
  /-- GLOAD.EMPTY. -/
  empty : Bool
  hdr : Nat
  graph : Option Graph
  /-- DROOP_FLOOR and UTIL_CAP as they stood when its admission started (R173). -/
  floor : Nat
  cap : Nat
deriving DecidableEq, Repr

/-- A graph slot and the period it runs (R175 to R183). -/
structure Slot where
  g : Option Graph
  /-- The boundary from which its periods recur. -/
  startAt : Nat
  /-- A period is in progress. -/
  busy : Bool
  /-- The boundary at which the period in progress began. -/
  began : Nat
  /-- DEPCNT copies. -/
  cnt : List Nat
  /-- Tasks completed in this period. -/
  done : List Nat
  /-- Tokens consumed in this period. -/
  used : Nat
  /-- Tasks whose bank bit is 1 (R165). -/
  bank : List Nat
  /-- Tasks shed in this period, and from the next period on (R188). -/
  shed : List Nat
  shedNext : List Nat
  /-- The frames input ports took, by context. -/
  taken : FMap (List Frame)
  /-- The frames produced, by port. -/
  made : FMap (List Frame)
  /-- A double-bit error was met in this period (R181). -/
  bad : Bool
deriving DecidableEq, Repr

/-- An empty slot. -/
def Slot.empty : Slot := ⟨none, 0, false, 0, [], [], 0, [], [], [], [], [], false⟩

/-- What an engine runs: slot, task, whether it is an aborted task run again. -/
structure Job where
  slot : Nat
  task : Nat
  again : Bool
deriving DecidableEq, Repr

/-- A loaded kernel image (R162): the header fields that are used, its code and its constant data. -/
structure Kern where
  kid : Nat
  crc : Nat
  wcpf : Nat
  wcfix : Nat
  stateSz : Nat
  entry : Nat
  code : List Byte
  data : List Byte
deriving DecidableEq, Repr

/-- A Frond engine beside its registers (R157, R163, R164, R177 to R187). -/
structure Eng where
  deque : List Job
  job : Option Job
  /-- Packets queued by the running task (R166). -/
  queue : List Packet
  /-- The engine drains for a rolling update. -/
  forRoll : Bool
  /-- Self-test or reload passed; ACTIVE at the next boundary. -/
  ready : Bool
  /-- What the last register-service call returned (R166). -/
  code : Nat
  /-- ARG0 to ARG6: as a kernel found them on entry, and ARG0 with its status once it has returned (R164). -/
  args : List Nat
  /-- The kernel set it holds: SETVER, and the images in the order they stand in IMEM and DMEM (R163). -/
  ver : Nat
  kerns : List Kern
  /-- The DMEM scratch and the accumulators, as the last completed task left them (R157). -/
  scratch : List Byte
  macs : BitVec 72 × BitVec 72
deriving DecidableEq, Repr

/-- An engine with nothing to do and nothing loaded. -/
def Eng.zero : Eng := ⟨[], none, [], false, false, 0, [], 0, [], [], (0, 0)⟩

/-- The IMEM of an engine: the code of its images in list order (R163). -/
def Eng.imem (e : Eng) : List Byte := e.kerns.flatMap (fun k => k.code)

/-- The lower DMEM of an engine: the constant data of its images in list order (R157, R163). -/
def Eng.dmem (e : Eng) : List Byte := e.kerns.flatMap (fun k => k.data)

/-- Where the code and the data of kernel `kid` stand in IMEM and DMEM (R163). -/
def Eng.placeOf (e : Eng) (kid : Nat) : Nat × Nat :=
  (e.kerns.takeWhile (fun k => k.kid != kid)).foldl (fun a k => (a.1 + k.code.length, a.2 + k.data.length)) (0, 0)

/-- The engines, the scheduler and Thallus errors. -/
structure EngSt where
  engs : FMap Eng
  overflow : List Job
  slots : FMap Slot
  cand : Option Cand
  /-- The last frame each port delivered, by 32 × slot + port (R182). -/
  lastOut : FMap Frame
  /-- Ports whose next produced frames enter with a ramp. -/
  rampPorts : List Nat
  /-- Frames that graphs took from a source context at a period's start, from the sample period named (R177). -/
  ahead : FMap (Nat × List Frame)
  /-- Thallus words in double-bit error (R185), by word address. -/
  ded : List Nat
  /-- The kernel set in service and the set being rolled. -/
  set : List Kern
  rollSet : List Kern
  rollVer : Nat
  carry : Bool
  /-- Engines still to update in the roll. -/
  todo : List Nat
deriving DecidableEq, Repr

/-! Power, the arbiter and the buses. -/

/-- The cause of a request for a power mode: a write to MODEREQ, or the WAKESRC bit of another event
(R397). -/
inductive Why where
  | modereq | usb | wakeseq | jack | auto
deriving DecidableEq, Repr

/-- Power and boot beside their registers (R395 to R407). -/
structure PwrSt where
  /-- The mode a move in progress goes to. -/
  target : Option Nat
  /-- A request made during a move. -/
  queued : Option (Nat × Why)
  /-- The path is prepared for a START (R396). -/
  pathReady : Bool
  /-- Between a reset and the end of its boot: no source is served (R41, R407). -/
  booting : Bool
  /-- The cause codes of the stop orders that a FULL reset still runs (R404). -/
  stopping : Bool
deriving DecidableEq, Repr

/-- How a command was answered (R39, R375). -/
inductive Reply where
  | none
  | applied
  | data (bytes : List Byte)
  | rejected (reason addr : Nat)
  /-- NACKed or NAKed without a rejection: an earlier packet waits, or the data is not ready. -/
  | notReady
  /-- Not acknowledged at all, not served in this mode, or a PEC mismatch. -/
  | refused
deriving DecidableEq, Repr

/-- A staged value of an RWS register, or of an MXT word (R45 to R50). -/
structure Staged where
  addr : Nat
  /-- The window the writing source had selected. -/
  win : Nat
  val : Nat
  src : Src
  /-- Staged in the present staging window. -/
  fresh : Bool
deriving DecidableEq, Repr

/-- A value taken for the next block boundary. -/
structure Taken where
  grp : Nat
  addr : Nat
  win : Nat
  val : Nat
deriving DecidableEq, Repr

/-- A snapshot latch (R51): the first address of the group it holds and its bytes. -/
structure Latch where
  base : Nat
  bytes : List Byte
deriving DecidableEq, Repr

/-- On whose behalf a packet was issued, which its outcome settles: a source's own, the START and STOP of AUTOSTART
(R295), the clock selector (R299), a feature unit's SET_CUR with the unit, channel and host values it found, and for
an MXT word its entry and new GAIN (R302), or the wake sequencer (R218). -/
inductive Own where
  | plain
  | auto
  | selector
  | feature (unit ch mute vol : Nat) (word : Option (Nat × Nat))
  | sequencer
deriving DecidableEq, Repr

/-- A packet held by R149. -/
structure Held where
  src : Src
  pec : Pec
  pkt : Packet
  own : Own
deriving DecidableEq, Repr

/-- The arbiter beside the ACC page. -/
structure AccSt where
  /-- The last answer to each source, by source code. -/
  replies : FMap Reply
  latches : FMap Latch
  /-- Addresses of RWL registers that have been written (R5). -/
  locked : List Nat
  staged : List Staged
  taken : List Taken
  /-- Packets held by R149, in arrival order. -/
  held : List Held
  /-- The first words written back into the packets of the engines, the newest first, the last 64 (R166). -/
  engWords : List Nat
deriving DecidableEq, Repr

/-- The control bus beside the CBUS page. -/
structure CbusSt where
  /-- A write to ADDRCFG has been applied; its probe starts at the next STOP (R373). -/
  reprobe : Bool
  /-- The address the running probe tries, and whether it is ALT. -/
  addr : Nat
  onAlt : Bool
  /-- A conflict was seen in the running probe. -/
  conflict : Bool
  /-- What an Alert Response read was answered with last (R387). -/
  alert : Option Nat
deriving DecidableEq, Repr

/-- The auxiliary bus beside the AUXB page. -/
structure AuxSt where
  tx : List Byte
  rx : List Byte
  /-- The device waits for the bus-free time and its backoff (R389). -/
  waiting : Bool
  /-- ABORT is set for the transfer in progress (R391). -/
  aborting : Bool
  /-- The bytes the device sends in the present transfer, or sent in the last (R388). -/
  sent : List Byte
deriving DecidableEq, Repr

/-- The flash beside the NVM page. -/
structure NvmSt where
  /-- The programming FIFO (R415). -/
  fifo : List Byte
  /-- Lines programmed since their bank's last erase, by line address. -/
  done : List Nat
  /-- The operation in progress is a FLUSH, not the programming of the lines that the FIFO holds (R415, R416). -/
  flushing : Bool
  /-- A GRAPH section of the image waits for its GLOAD: slot, header, and whether it was issued (R414). -/
  graphs : List (Nat × Nat × Bool)
  /-- Engines whose EN the PRELOAD section sets. -/
  engines : List Nat
deriving DecidableEq, Repr

/-! Microphones and wake. -/

/-- The start sequence of the microphones (R201). -/
inductive MicPh where
  | off
  /-- Step 1, the LIVE probe. -/
  | probe
  /-- Step 2, the MICVDD wait. -/
  | vddWait
  /-- The clocks run. -/
  | running
deriving DecidableEq, Repr

/-- Microphones, privacy, Peat and the wake stages beside their registers (R195 to R225). -/
structure MicSt where
  ph : MicPh
  /-- Microphones whose SETTLE time runs: their decimators deliver zeros. -/
  settling : List Nat
  /-- A LIVE fault was seen in the running probe (R209). -/
  probeBad : Bool
  /-- Peat is being overwritten with zeros (R204). -/
  zeroing : Bool
  /-- WIDX at the last change of PEAT.CFG (R211). -/
  cfgAt : Nat
  /-- Onsets marked and not yet rejected: Peat index, hops since (R215). -/
  onsets : List (Nat × Nat)
  /-- The last onset marked (R214). -/
  lastOnset : Option Nat
  /-- The read index of each TYPE 13 context that has started (R219, R223). -/
  ridx : FMap Nat
  /-- Bytes of a Fiddlehead model being loaded (R225). -/
  model : List Byte
  loading : Bool
  /-- The weights in the weight SRAM. -/
  weights : List Byte
  /-- The wake sequencer's next step, 0 when it has none (R218). -/
  seq : Nat
  /-- The frames of the last catch-up transfer to a SAP target: valid word and samples (R224). -/
  cuSent : List Frame
deriving DecidableEq, Repr

/-! Rhizome. -/

/-- A command packet under reassembly (R331). -/
structure Reasm where
  src : Nat
  tag : Nat
  frags : List (Nat × List Byte)
  last : Option Nat
deriving DecidableEq, Repr

/-- The last forward of a source (R332). -/
structure Fwd where
  tag : Nat
  /-- Its result is still awaited. -/
  busy : Bool
  /-- It forwards a read. -/
  read : Bool
  data : List Byte
deriving DecidableEq, Repr

/-- A slot sample: the sample, and whether it came after the start of its period (R322). -/
structure SlotRx where
  x : Sample
  late : Bool
deriving DecidableEq, Repr

/-- The slots read for one master index; `spent`: its period has passed (R322, R325). -/
structure SlotRow where
  spent : Bool
  slots : FMap SlotRx
deriving DecidableEq, Repr

/-- A cell that a device forwards: the pass it came on, TYPE and OUT (R329, R330). -/
structure Passing where
  ret : Bool
  typ : Nat
  out : Bool
  cell : Cell
deriving DecidableEq, Repr

/-- A cell sent on a port and not yet acknowledged (R330). -/
structure Sent where
  portB : Bool
  typ : Nat
  out : Bool
  lseq : Nat
  cell : Cell
  /-- How often it has been put into a frame. -/
  times : Nat
  /-- It goes into the next frame that the port sends. -/
  due : Bool
deriving DecidableEq, Repr

/-- The Rhizome ports beside their registers (R311 to R338); receivers and ports are numbered 0 for A and
1 for B. -/
structure RzSt where
  /-- Consecutive good, and consecutive missing or bad, headers of each receiver. -/
  good : FMap Nat
  miss : FMap Nat
  /-- REF10 is treated as available while the outbound pass is sought (R313). -/
  ref10Hold : Bool
  /-- The address is fixed; an index has been adopted (R318, R323). -/
  addressed : Bool
  adopted : Bool
  /-- Compensated master index minus SYS.SAMPIDX, at the last outbound frame. -/
  lag : Int
  /-- A MASTER listens before it first emits, and has heard frames of its domain (R338). -/
  listening : Bool
  heard : Bool
  /-- PRESD of the last header, in force from the next boundary (R322). -/
  presHdr : Nat
  /-- Master: the domain is a ring; the return delays measured on each port. -/
  ring : Bool
  circA : Option Nat
  circB : Option Nat
  /-- Cells waiting to be sent: TYPE and cell. -/
  txq : List (Nat × Cell)
  unacked : List Sent
  seq : FMap Nat
  rseq : FMap Nat
  reasm : List Reasm
  /-- Packets that the arbiter holds: sender, tag, broadcast, in order (R149, R331). -/
  owed : List (Nat × Nat × Bool)
  fwd : FMap Fwd
  tag : Nat
  /-- Master with two branches: cells that came back unclaimed on one branch (TRUE: port B), R329. -/
  strays : List (Bool × Nat × Cell)
  /-- Runs claimed and not yet answered: first slot, count. -/
  claims : List (Nat × Nat)
  /-- The slots read, by master index (R322, R325). -/
  rx : FMap SlotRow
  /-- The frames each TYPE 3 sink passed on with their sample periods, newest first, and the slots written into the last
  frame (R322, R325). -/
  out : FMap (List (Nat × Frame))
  sent : List (Nat × Sample)
  /-- Master: the MIDX of the last frame it emitted. -/
  emitted : Option Nat
  /-- Master: the slots that came VALID with the last return pass on each port (R329). -/
  back : FMap (List (Nat × Sample))
  /-- The cells of others on their way through this device (R329, R330). -/
  passing : List Passing
  /-- For each port the credits to return, and the ports whose next frame carries a NAK, a RESYNC, the answer to one
  (R327, R330). -/
  credits : FMap Nat
  naks : List Nat
  resyncs : List Nat
  answers : List Nat
  /-- The last frame that each transmitter sent (R312, R315). -/
  tx : FMap RzFrame
  /-- The last 16 round trips measured on each link, in 50 ps (R319). -/
  echoes : FMap (List Nat)
deriving DecidableEq, Repr

/-! USB. -/

/-- An alternate setting of interface 1 (OUT) or 2 (IN) at one speed (R291, R293). -/
structure Alt where
  isIn : Bool
  high : Bool
  k : Nat
  nch : Nat
  subslot : Nat
  bits : Nat
  rates : List Nat
deriving DecidableEq, Repr

/-- The USB function beside its registers (R289 to R308). -/
structure UsbSt where
  alts : List Alt
  /-- The clock sources in use, 1 to 8. -/
  sources : List Nat
  vendor : Nat
  product : Nat
  /-- The terminals' types, by entity ID (R291). -/
  terminals : List (Nat × Nat)
  /-- The descriptor records of the section: KIND, INDEX and the descriptor (R291, R413). -/
  records : List (Nat × Nat × List Byte)
  /-- The USB address and the configuration the host has set (R306, R309). -/
  address : Nat
  /-- STATE before suspend or L1. -/
  before : Nat
  /-- The bRemoteWake bit of the LPM token that led to L1. -/
  l1Wake : Bool
  /-- The device signals resume (R308). -/
  resuming : Bool
  /-- Mute and Volume of master channel 0, by unit (R301). -/
  master : FMap (Nat × Nat)
  /-- Validity last reported of each clock source (R299). -/
  valid : List (Nat × Bool)
  /-- The messages sent on endpoint 0x83, newest first (R292, R299). -/
  messages : List (List Byte)
  /-- The answer to the last request on endpoint 0. -/
  reply : Reply
  /-- The bytes of the last packet on endpoint 0x82 (R294, R296). -/
  sentIn : List Byte
  /-- The packets of the last transfer on endpoint 0x85 (R224, R292). -/
  bulk : List (List Byte)
  /-- Phone Mute is reported by HIDMUTE (R305). -/
  phoneMute : Bool
  /-- Feedback M in 2^-16 frame per packet. -/
  fbM : Nat
deriving DecidableEq, Repr

/-! Analog inputs, outputs and the jack. -/

/-- The phase of an output stage in its start and stop order (R239, R240). -/
inductive OutPh where
  | off
  /-- Step 2, the charge-pump soft start. -/
  | pump
  /-- Steps 3 and 4, biased and clamped, the servo acquiring. -/
  | servo
  /-- Step 5 done; step 6 at the next boundary. -/
  | opened
  /-- Playing; the 1-block ramp-in begun at the sample index given still runs. -/
  | on (ramp : Option Nat)
  /-- Ramped to zero from a sample index on, over so many samples: the stop order, or the fast mute of a plug that has
  left (R240, R247). -/
  | fade (since len : Nat) (plug : Bool)
deriving DecidableEq, Repr

/-- A volume that ramps linearly from `c0` to `c1` (R237, R264), in 2^-23. -/
structure VolSt where
  c0 : Int
  c1 : Int
  since : Nat
  len : Nat
deriving DecidableEq, Repr

/-- Gain code 0xD00, 0 dB. -/
def VolSt.unity : VolSt := ⟨8388608, 8388608, 0, 0⟩

/-- Analog inputs and output stages beside their registers. -/
structure AnaSt where
  /-- The PGA settings in force, and the last sample of each input (R233). -/
  pga : FMap Nat
  prev : FMap Sample
  clipBlk : Bool
  /-- The stages: 0 headphone, 1 and 2 the line outputs. -/
  outs : FMap OutPh
  /-- AIN3 delivers zeros because of a button (R251). -/
  btnMute : Bool
  /-- The MICBIAS outputs that are off on overcurrent, as a mask (R235). -/
  biasOff : Nat
  /-- The volumes in force: 0 and 1 HPL and HPR, 2 and 3 LOUT0 and LOUT1, 4 to 7 the amplifier. -/
  vols : FMap VolSt
  /-- The last sample each of these outputs carried. -/
  dac : FMap Sample
deriving DecidableEq, Repr

/-- The jack beside its registers (R243 to R252). -/
structure JackSt where
  /-- The level of HP_DET is high. -/
  pin : Bool
  /-- The state that REMDEB left. -/
  before : Nat
  /-- The class of measurement A of the pass in progress, the classes of the pass before, passes done. -/
  classA : Option Nat
  last : Option (Nat × Nat)
  passes : Nat
  /-- ZL, measured, with ZR to come. -/
  left : Option Nat
  /-- The HID controls pressed, bit k - 1 for code k. -/
  pressed : Nat
  /-- The result that Lichen has passed to the jack, in microvolts (R347). -/
  conv : Option Nat
deriving DecidableEq, Repr

/-! The speaker amplifier. -/

/-- An amplifier channel beside its registers (R258 to R283).  Gains are in 2^-30, temperatures in
10^-9 degrees. -/
structure AmpCh where
  /-- RUN at the next boundary, with a ramp-in of so many blocks. -/
  toRun : Option Nat
  /-- Blocks left of the ramp-in. -/
  ramp : Nat
  /-- The sample index at which the ramp to zero of a stop began (R266). -/
  fade : Option Nat
  /-- The cycle-by-cycle limit acted in this block. -/
  cbc : Bool
  gT : Nat
  gX : Nat
  gP : Nat
  gD : Nat
  tc : Int
  tm : Int
  /-- The last valid Re estimate, micro-ohm; 0 for none. -/
  re : Nat
  /-- Sum of squared current samples and their number since the last millisecond. -/
  sumI2 : Nat
  nI : Nat
  /-- Excursion: the last two displacements (2^-20 micrometre) and drive samples. -/
  x1 : Int
  x2 : Int
  v1 : Int
  v2 : Int
  /-- Magnitudes over the look-ahead window, newest first: displacement, and |s × VOL|. -/
  xs : List Nat
  vs : List Nat
  /-- Largest displacement of this millisecond, and of each of the last 100. -/
  xmax : Nat
  xmaxs : List Nat
  /-- The delay line of s × VOL. -/
  line : List Sample
  /-- The sensed voltage (1 mV) and current (0.5 mA) of the last millisecond, newest first (R279). -/
  vi : List (Int × Int)
  /-- The excursion record taken at the next boundary (R273). -/
  record : Option (List Nat)
deriving DecidableEq, Repr

/-- A channel at reset. -/
def AmpCh.zero : AmpCh :=
  ⟨none, 0, none, false, 2 ^ 30, 2 ^ 30, 2 ^ 30, 2 ^ 30, 0, 0, 0, 0, 0, 0, 0, 0, 0, [], [], 0, [], [], [], none⟩

/-- The amplifier. -/
structure AmpSt where
  chans : FMap AmpCh
  /-- Channels whose DC load test runs or waits, in order (R279). -/
  tests : List Nat
  /-- What Lichen has passed to the test that runs, in microvolts: the terminal, then the differential voltage (R279,
  R347). -/
  conv : List Int
  /-- The last temperature of each NTC, and the NTCs that are stale, as a mask (R269). -/
  ntc : FMap Int
  ntcStale : Nat
deriving DecidableEq, Repr

/-! Lichen. -/

/-- An entry of a regular sequence or of the injected queue (R343, R346). -/
structure LEnt where
  /-- The sequence entry, or the trigger of an injected entry. -/
  k : Nat
  /-- It runs on LB. -/
  onB : Bool
  ratio : Bool
  ch : Nat
  shift : Nat
  avg : Nat
deriving DecidableEq, Repr

/-- Lichen beside its registers (R342 to R352). -/
structure LichSt where
  /-- The entries of the pass in progress that have not ended, as they stood at its start (R345). -/
  passA : List LEnt
  passB : List LEnt
  /-- A pass has fallen due that could not start yet (R345). -/
  dueA : Bool
  dueB : Bool
  /-- Injected entries queued or running, in the order they are served (R346, R347). -/
  inj : List LEnt
  /-- A plausibility check is due or running: input and n (R348). -/
  plaus : Option (Nat × Nat)
  /-- The triggers a pending calibration serves first (R350). -/
  calFor : List Nat
  /-- ANA has been powered and the calibration before the first conversion is still to run (R350). -/
  calOwed : Bool
  /-- Results written since the last snapshot, by 64 × source code + result register (R351). -/
  counts : FMap Nat
deriving DecidableEq, Repr

/-! Control DACs. -/

/-- The control DACs beside their registers (R356 to R367). -/
structure CdacSt where
  /-- Bit n: the ball of CDn sinks a current (else it drives a voltage). -/
  sinks : Nat
  /-- The channels are held as before the NVM load (R363). -/
  held : Bool
  /-- Channels whose power-up slew has not ended (R363). -/
  powerUp : List Nat
  /-- The WDG cause stands (R365). -/
  wdg : Bool
  /-- The current frame of each running TYPE 9 context (R362). -/
  frames : FMap Frame
deriving DecidableEq, Repr

/-- The time base: the boundary that began the block, and the sample periods begun since (R12, R13). -/
structure BlkSt where
  base : Nat
  pos : Nat
deriving DecidableEq, Repr

/-- The state of the block. -/
structure State where
  /-- The commands that wait, first in first out. -/
  pending : List Instr
  /-- Register fields that do not hold their reset value, by `Fld.key`. -/
  regs : List (Nat × Nat)
  /-- Thallus, Peat, the NVM banks and the factory area (R25), in canonical form. -/
  mem : List Host.Cell
  /-- The index of the next free value (the model's own). -/
  free : Nat
  blk : BlkSt
  clkm : ClkmSt
  strm : StrmSt
  asrc : AsrcSt
  grp : GrpSt
  mtx : MtxSt
  eng : EngSt
  pwr : PwrSt
  acc : AccSt
  cbus : CbusSt
  aux : AuxSt
  nvm : NvmSt
  mic : MicSt
  rz : RzSt
  usb : UsbSt
  ana : AnaSt
  jack : JackSt
  amp : AmpSt
  lich : LichSt
  cdac : CdacSt
  /-- The instruction of the boundary-scan TAP (R431). -/
  tap : Nat
  /-- LPCLK comes from the 32.768 kHz crystal, not the internal RC (R407, R428). -/
  lpXtal : Bool
deriving DecidableEq, Repr

/-! Each part right after reset. -/

def ClkmSt.zero : ClkmSt := ⟨0, [], 0, 0⟩
def StrmSt.zero : StrmSt := ⟨[], [], false, []⟩
def AsrcSt.zero : AsrcSt := ⟨0, false, false, false⟩
def GrpSt.zero : GrpSt := ⟨[], []⟩
/-- METWIN resets to 0x60 (R158). -/
def MtxSt.zero : MtxSt := ⟨[], [], [], false, false, [], [], [], [], 0, 0x60, false⟩
def EngSt.zero : EngSt := ⟨[], [], [], none, [], [], [], [], [], [], 0, false, []⟩
def PwrSt.zero : PwrSt := ⟨none, none, false, true, false⟩
def AccSt.zero : AccSt := ⟨[], [], [], [], [], [], []⟩
def CbusSt.zero : CbusSt := ⟨false, 0, false, false, none⟩
def AuxSt.zero : AuxSt := ⟨[], [], false, false, []⟩
def NvmSt.zero : NvmSt := ⟨[], [], false, [], []⟩
def MicSt.zero : MicSt := ⟨.off, [], false, false, 0, [], none, [], [], false, [], 0, []⟩
def RzSt.zero : RzSt :=
  ⟨[], [], false, false, false, 0, false, false, 0, false, none, none, [], [], [], [], [], [], [], 0, [], [], [], [],
    [], none, [], [], [], [], [], [], [], []⟩
def UsbSt.zero : UsbSt := ⟨[], [], 0, 0, [], [], 0, 0, false, false, [], [], [], .none, [], [], false, 0⟩
def AnaSt.zero : AnaSt := ⟨[], [], false, [], false, 0, [], []⟩
def JackSt.zero : JackSt := ⟨true, 0, none, none, 0, none, 0, none⟩
def AmpSt.zero : AmpSt := ⟨[], [], [], [], 0⟩
def LichSt.zero : LichSt := ⟨[], [], false, false, [], none, [], true, []⟩
def CdacSt.zero : CdacSt := ⟨0, true, [], false, []⟩

/-- The state right after a POR (R403, R407): every register field at its reset value, the boot running and
no source served, nothing written to memory. DESIGN CHOICE, notes/assumptions/5.md. -/
def State.reset : State where
  pending := []
  regs := []
  mem := []
  free := 0
  blk := ⟨0, 0⟩
  clkm := .zero
  strm := .zero
  asrc := .zero
  grp := .zero
  mtx := .zero
  eng := .zero
  pwr := .zero
  acc := .zero
  cbus := .zero
  aux := .zero
  nvm := .zero
  mic := .zero
  rz := .zero
  usb := .zero
  ana := .zero
  jack := .zero
  amp := .zero
  lich := .zero
  cdac := .zero
  tap := 0xF
  lpXtal := false

end Sys2Proof.Machine
end

