-- ==== Sys2Proof/Machine/Ops.lean ====
section
/-! DEFINITION. The named operations over the state: register fields, the byte memories, contexts,
ports, slots and engines, and the time base (R3, R11 to R14, R25). -/
namespace Sys2Proof.Machine
open Sys2Proof

/-! Register fields. -/

/-- The value of a field: the bits its width has. -/
def State.get (s : State) (f : Fld) : Nat := Map.get f.rst s.regs f.key % 2 ^ f.w

/-- Store a field; the value is taken modulo the field's width. -/
def State.set (s : State) (f : Fld) (v : Nat) : State :=
  { s with regs := Map.set f.rst s.regs f.key (v % 2 ^ f.w) }

/-- The field is not 0. -/
def State.on (s : State) (f : Fld) : Bool := s.get f != 0

/-- Store a one-bit field. -/
def State.setB (s : State) (f : Fld) (b : Bool) : State := s.set f (b2n b)

/-- The field read as a signed number. -/
def State.geti (s : State) (f : Fld) : Int := toSigned f.w (s.get f)

/-- Store a signed number. -/
def State.seti (s : State) (f : Fld) (i : Int) : State := s.set f (ofSigned f.w i)

/-- Add to a counter that saturates at its largest value. -/
def State.addSat (s : State) (f : Fld) (n : Nat) : State := s.set f (min (s.get f + n) (2 ^ f.w - 1))

/-- Count one event in a saturating counter. -/
def State.bump (s : State) (f : Fld) : State := s.addSat f 1

/-- Count one event in a counter that wraps. -/
def State.bumpWrap (s : State) (f : Fld) : State := s.set f (s.get f + 1)

/-- Store one bit of a field. -/
def State.setBit (s : State) (f : Fld) (n : Nat) (b : Bool) : State := s.set f (putBit (s.get f) n b)

/-! The byte memories of R25: Thallus, Peat, the two NVM banks and the factory area, by byte address. -/

/-- What a byte that nothing has written reads as: an erased flash byte in the NVM banks and the factory
area, 0 in Thallus and Peat. DESIGN CHOICE, notes/assumptions/7.md. -/
def memDefault (a : Nat) : Byte := if 0xA00000 ≤ a then 0xFF else 0

/-- The memory is in its canonical form: addresses strictly rising, no entry equal to what its address reads as
unlisted. -/
def Memory.wf (m : List Host.Cell) : Bool := Map.wf memDefault m

/-- The memory of a state is in its canonical form. -/
def State.memWf (s : State) : Bool := Memory.wf s.mem

/-- Read one byte. -/
def State.byte (s : State) (a : Nat) : Byte := Map.get (memDefault a) s.mem a

/-- Write one byte. -/
def State.setByte (s : State) (a : Nat) (b : Byte) : State :=
  { s with mem := Map.set (memDefault a) s.mem a b }

/-- Read `n` bytes at ascending addresses. -/
def State.bytes (s : State) (a n : Nat) : List Byte := (List.range n).map (fun i => s.byte (a + i))

/-- Write bytes at ascending addresses. -/
def State.setBytes (s : State) (a : Nat) : List Byte → State
  | [] => s
  | b :: bs => (s.setByte a b).setBytes (a + 1) bs

/-- Read a little-endian 32-bit word. -/
def State.word (s : State) (a : Nat) : Nat := leNat (s.bytes a 4)

/-- Write a little-endian 32-bit word. -/
def State.setWord (s : State) (a w : Nat) : State := s.setBytes a (wordBytes w)

/-- Drop every byte of a range, so that it reads as if nothing had written it. -/
def State.clearBytes (s : State) (lo hi : Nat) : State :=
  { s with mem := Map.keep (fun a => !(decide (lo ≤ a) && decide (a < hi))) s.mem }

/-- Thallus begins here (R25). -/
def thallus : Nat := 0x400000
/-- Thallus holds 4 MiB. -/
def thallusSize : Nat := 0x400000
/-- Peat begins here (R25). -/
def peatBase : Nat := 0x800000
/-- Peat holds 384 KiB. -/
def peatSize : Nat := 0x60000

/-- A Thallus word as a reader of the device sees it: 0 for a word in double-bit error (R185). -/
def State.thWord (s : State) (off : Nat) : Nat :=
  if s.eng.ded.contains ((thallus + off) / 4 * 4) then 0 else s.word (thallus + off)

/-- A read meets a double-bit error at address `a`: counted and recorded (R185). -/
def State.dedRead (s : State) (a : Nat) : State :=
  ((s.bump R.ENG_TDED_COUNT).set R.ENG_TDEDADDR_ADDR a).set R.ENG_IFLG_TDED 1

/-- A whole word written has fresh check bits (R185). -/
def State.dedWritten (s : State) (a : Nat) : State :=
  { s with eng := { s.eng with ded := s.eng.ded.filter (fun w => w != a / 4 * 4) } }

/-- The device writes a word of Thallus, by its offset; past the end of Thallus it writes nothing. -/
def State.thPut (s : State) (off w : Nat) : State :=
  if off + 4 ≤ thallusSize then (s.setWord (thallus + off) w).dedWritten (thallus + off) else s

/-- The device writes words of Thallus from an offset on. -/
def State.thPuts (s : State) (off : Nat) : List Nat → State
  | [] => s
  | w :: ws => (s.thPut off w).thPuts (off + 4) ws

/-- The words in double-bit error among the `n` bytes of Thallus from an offset on. -/
def State.dedIn (s : State) (off n : Nat) : List Nat :=
  s.eng.ded.filter (fun w => decide (thallus + off < w + 4) && decide (w < thallus + off + n))

/-- A read of `n` bytes of Thallus from an offset on meets every error among them (R185). -/
def State.thMeet (s : State) (off n : Nat) : State := (s.dedIn off n).foldl State.dedRead s

/-- A 16-bit number in Thallus. -/
def State.thHalf (s : State) (off : Nat) : Nat :=
  if s.eng.ded.contains ((thallus + off) / 4 * 4) then 0 else leNat (s.bytes (thallus + off) 2)

/-! Parts of the state by number. -/

/-- Context `c`. -/
def State.ctx (s : State) (c : Nat) : Ctx := Map.get Ctx.zero s.strm.ctxs c

/-- Replace context `c`. -/
def State.setCtx (s : State) (c : Nat) (x : Ctx) : State :=
  { s with strm := { s.strm with ctxs := Map.set Ctx.zero s.strm.ctxs c x } }

/-- Change context `c`. -/
def State.updCtx (s : State) (c : Nat) (f : Ctx → Ctx) : State := s.setCtx c (f (s.ctx c))

/-- Serial port `p`. -/
def State.sap (s : State) (p : Nat) : SapSt := Map.get SapSt.zero s.strm.saps p

/-- Replace serial port `p`. -/
def State.setSap (s : State) (p : Nat) (x : SapSt) : State :=
  { s with strm := { s.strm with saps := Map.set SapSt.zero s.strm.saps p x } }

/-- Graph slot `k`. -/
def State.slot (s : State) (k : Nat) : Slot := Map.get Slot.empty s.eng.slots k

/-- Replace graph slot `k`. -/
def State.setSlot (s : State) (k : Nat) (x : Slot) : State :=
  { s with eng := { s.eng with slots := Map.set Slot.empty s.eng.slots k x } }

/-- Engine `n`. -/
def State.engine (s : State) (n : Nat) : Eng := Map.get Eng.zero s.eng.engs n

/-- Replace engine `n`. -/
def State.setEngine (s : State) (n : Nat) (x : Eng) : State :=
  { s with eng := { s.eng with engs := Map.set Eng.zero s.eng.engs n x } }

/-! The time base. -/

/-- BLOCK_LEN in samples (R12, R419). -/
def State.blkLen (s : State) : Nat := 8 * 2 ^ s.get R.SYS_SYSCFG_BLKLEN

/-- SYSRATE in Hz (R419). -/
def State.sysRate (s : State) : Nat :=
  match s.get R.SYS_SYSCFG_SYSRATE with
  | 0 => 44100
  | 1 => 48000
  | 2 => 88200
  | _ => 96000

/-- SYSRATE is 88.2 or 96 kHz. -/
def State.highRate (s : State) : Bool := 2 ≤ s.get R.SYS_SYSCFG_SYSRATE

/-- SYSCLK cycles in one block (R12). -/
def State.blockCycles (s : State) : Nat := (if s.highRate then 2048 else 4096) * s.blkLen

/-- The 64-bit sample index SYS.SAMPIDX (R13): the boundary that began the block, plus the sample
periods begun since. -/
def State.sampIdx (s : State) : Nat := (s.blk.base + s.blk.pos) % 2 ^ 64

/-- The power mode, in the codes of R395. -/
def State.mode (s : State) : Nat := s.get R.SYS_STAT_MODE

/-- STANDBY or LISTEN. -/
def State.lowPower (s : State) : Bool := s.mode == 1 || s.mode == 2

/-- The next index that is used for a free value. -/
def State.tick (s : State) : State := { s with free := s.free + 1 }

/-- What the device has noted by sample index moves by `d`, where the index restarts or adopts another numbering, so
that it changes no period in progress (R13, R323). DEDUCED, notes/assumptions/19.md. -/
def State.retime (s : State) (d : Int) : State :=
  let mv : Nat → Nat := fun t => ((t : Int) + d).toNat
  let sl : Slot → Slot := fun x => { x with startAt := mv x.startAt, began := mv x.began }
  let ph : OutPh → OutPh := fun p =>
    match p with
    | .on (some t) => .on (if t + s.blkLen ≤ s.sampIdx then none else some (mv t))
    | .fade t n p => if t + n ≤ s.sampIdx then .fade 0 0 p else .fade (mv t) n p
    | q => q
  let vo : VolSt → VolSt := fun v =>
    if v.since + v.len ≤ s.sampIdx then ⟨v.c1, v.c1, 0, 0⟩ else { v with since := mv v.since }
  { s with
    strm := { s.strm with
      ctxs := s.strm.ctxs.map (fun e => (e.1, { e.2 with fadeOut := e.2.fadeOut.map mv }))
      saps := s.strm.saps.map (fun e => (e.1, { e.2 with startedAt := mv e.2.startedAt })) }
    amp := { s.amp with chans := s.amp.chans.map (fun e => (e.1, { e.2 with fade := e.2.fade.map mv })) }
    eng := { s.eng with slots := s.eng.slots.map (fun e => (e.1, sl e.2)), ahead := [] }
    mtx := { s.mtx with metStart := mv s.mtx.metStart }
    ana := { s.ana with
      outs := s.ana.outs.map (fun e => (e.1, ph e.2))
      vols := (s.ana.vols.map (fun e => (e.1, vo e.2))).filter (fun e => e.2 != .unity) } }

/-! The configuration words of a context (R99). -/

def State.cType (s : State) (c : Nat) : Nat := s.get (R.CTX_EPT_TYPE c)
def State.cInst (s : State) (c : Nat) : Nat := s.get (R.CTX_EPT_INST c)
def State.cFirst (s : State) (c : Nat) : Nat := s.get (R.CTX_EPT_FIRST c)
def State.cNch (s : State) (c : Nat) : Nat := s.get (R.CTX_FMT_NCH c)
/-- The context is a sink (DIR = 1). -/
def State.cSink (s : State) (c : Nat) : Bool := s.on (R.CTX_FMT_DIR c)
def State.cRecon (s : State) (c : Nat) : Nat := s.get (R.CTX_FMT_RECON c)
def State.cGroup (s : State) (c : Nat) : Nat := s.get (R.CTX_FMT_GROUP c)
def State.cBufLen (s : State) (c : Nat) : Nat := s.get (R.CTX_BUF_BUFLEN c)

/-- The numbers of the contexts that are not `Ctx.zero`; every context that is not IDLE is among them. -/
def State.ctxNums (s : State) : List Nat := s.strm.ctxs.map (fun e => e.1)

/-- The context is IDLE. -/
def State.idle (s : State) (c : Nat) : Bool := (s.ctx c).st == .idle

/-- RUNNING, STALLED or DRAINING. -/
def CtxSt.live : CtxSt → Bool
  | .running | .stalled | .draining => true
  | _ => false

/-- The context is RUNNING, STALLED or DRAINING. -/
def State.live (s : State) (c : Nat) : Bool := (s.ctx c).st.live

/-- The contexts that satisfy `p`, by rising number. -/
def State.ctxsWhere (s : State) (p : Nat → Bool) : List Nat := s.ctxNums.filter p

/-- Step 1 of a move down is over: no context runs, is stalled or drains, and what is left stops in turn (R398). -/
def State.winding (s : State) : Bool :=
  match s.pwr.target with
  | some m => decide (m < 3) && s.ctxsWhere s.live == []
  | none => false

/-- A frame of zeros of `n` channels. -/
def zeroFrame (n : Nat) : Frame := List.replicate n 0

end Sys2Proof.Machine
end

