-- ==== Sys2Proof/Machine/Flags.lean ====
section
/-! DEFINITION. The flag computations: which pages have a pending interrupt, the interrupt summary and
IRQ_N (R32, R56, R57, R401). -/
namespace Sys2Proof.Machine
open Sys2Proof

/-- A field of the table moved to instance `n` of its page. -/
def Fld.inst (f : Fld) (n : Nat) : Fld := ⟨f.addr + 256 * n, f.lo, f.w, f.rst⟩

/-- The word a list of field rows holds, for page instance `n` and window `w`. -/
def State.fieldWord (s : State) (n w : Nat) (fs : List FRow) : Nat :=
  fs.foldl (fun a r => a + s.get ((r.f.inst n).win w) * 2 ^ r.f.lo) 0

/-- The stored word of the register at offset `off` of page instance `(p, n)`. -/
def State.rawWord (s : State) (p : Pg) (n off : Nat) : Nat :=
  match p.regs.find? (fun r => r.off == off) with
  | some r => s.fieldWord n 0 r.fields
  | none => 0

/-- The pages of the AO domain (R401). -/
def Pg.ao : Pg → Bool
  | .sys | .pwr | .priv | .wake | .peat | .fhd | .jack | .cbus => true
  | _ => false

/-- Page instance `(p, n)` has a pending interrupt: IFLG AND IEN is not 0; in STANDBY and LISTEN only the
AO-domain pages count (R56, R401). -/
def State.pendingPage (s : State) (p : Pg) (n : Nat) : Bool :=
  (!s.lowPower || p.ao) && (s.rawWord p n 0x0C &&& s.rawWord p n 0x10) != 0

/-- SYS.ISUMk (R56). -/
def State.isum (s : State) (k : Nat) : Nat :=
  maskOf 32 (fun b => match Pg.ofNumber (32 * k + b) with
    | some (p, n) => s.pendingPage p n
    | none => false)

/-- SYS.ISUMTOP (R56). -/
def State.isumTop (s : State) : Nat := maskOf 8 (fun k => s.isum k != 0)

/-- IRQ_N is low (R57). -/
def State.irq (s : State) : Bool := s.isumTop != 0

end Sys2Proof.Machine
end

