-- ==== Sys2Proof/Machine/ClkmOps.lean ====
section
/-! DEFINITION. The clock manager's operations (R59 to R87, R459): qualification of references,
choice of a reference, the states of R72, holdover and the movement of the DPLL offset. -/
namespace Sys2Proof.Machine.Clkm
open Sys2Proof Sys2Proof.Machine

/-! The codes of CLKM.STAT.STATE (R86). -/
def FREERUN : Nat := 0
def ACQUIRE : Nat := 1
def LOCKED : Nat := 2
def SWITCHING : Nat := 3
def HOLDOVER : Nat := 4
def RECOVERY : Nat := 5
def TEST : Nat := 6

/-! The codes of CLKM.REFSTAT (R86). -/
def DISABLED : Nat := 0
def FAILED : Nat := 1
def WTR : Nat := 2
def QUALIFIED : Nat := 3

/-- The clock manager state. -/
def state (s : State) : Nat := s.get R.CLKM_STAT_STATE

/-- The selected reference, 15 for none. -/
def selRef (s : State) : Nat := s.get R.CLKM_STAT_SELREF

/-- The qualification state of REFn (R66); REF0 is always QUALIFIED (R61). -/
def refState (s : State) (n : Nat) : Nat :=
  if n = 0 then QUALIFIED else bits (s.get R.CLKM_REFSTAT_ST) (2 * n + 1) (2 * n)

/-- Store the qualification state of REFn, for n from 1 to 11. -/
def setRefState (s : State) (n v : Nat) : State :=
  let old := s.get R.CLKM_REFSTAT_ST
  s.set R.CLKM_REFSTAT_ST (old - bits old (2 * n + 1) (2 * n) * 4 ^ n + v % 4 * 4 ^ n)

/-- REFn is enabled: its own EN and the page's EN (R66, R68). -/
def refEnabled (s : State) (n : Nat) : Bool :=
  s.on (R.CLKM_REFCFG_EN n) && s.on R.CLKM_CTRL_EN

/-- The availability column of R59: a SAP port that is master, a USB function that is not configured
or is suspended, the upstream receiver without frame lock (R313), no STEER context running. -/
def refAvailable (s : State) (n : Nat) : Bool :=
  if 3 ≤ n ∧ n ≤ 8 then !s.on (R.SAP_CTRL_MASTER (n - 3))
  else if n = 9 then s.get R.USB_STAT_STATE == 3
  else if n = 10 then s.on (if s.on R.RZ_STAT_UPB then R.RZ_STAT_LOCKB else R.RZ_STAT_LOCKA) || s.rz.ref10Hold
  else if n = 11 then s.asrc.steerRunning
  else true

/-- The offset of REFn in units of 0.1 ppm, as its last gate left it. -/
def refOffset (s : State) (n : Nat) : Int := s.geti (R.CLKM_REFMON_OFFSET n)

/-- STATE changes: IFLG.STATECHG, and on an entry into HOLDOVER its flag and count (R86). -/
def goState (s : State) (st : Nat) : State :=
  let s := if state s = st then s else s.set R.CLKM_IFLG_STATECHG 1
  let s := if st = HOLDOVER ∧ state s ≠ HOLDOVER then
      (s.set R.CLKM_IFLG_HOLD 1).bump R.CLKM_EVCNT_HOLDENT else s
  let s := if (st = SWITCHING ∨ st = RECOVERY) ∧ state s ≠ st then
      s.bump R.CLKM_EVCNT_SWITCHES else s
  let s := if st = LOCKED then s else { s with clkm := { s.clkm with history := [] } }
  s.set R.CLKM_STAT_STATE st

/-- A reference leaves QUALIFIED or WTR for FAILED (R66). -/
def refFail (s : State) (n : Nat) : State :=
  if n = 0 ∨ 11 < n then s
  else if refState s n = QUALIFIED then
    ((setRefState s n FAILED).set R.CLKM_IFLG_REFFAIL 1).bump R.CLKM_ERRCNT_BLKERR
  else if refState s n = WTR then setRefState s n FAILED
  else s

/-- A change of nominal frequency (R62): the reference fails, and the gate in progress is discarded
with its result. -/
def nomChange (s : State) (n : Nat) : State := refFail s n

/-- The reference enters QUALIFIED (R66). -/
def refQualify (s : State) (n : Nat) : State :=
  (setRefState s n QUALIFIED).set R.CLKM_IFLG_REFQUAL 1

/-- A gate of REFn ends with an offset in 0.1 ppm (R64, R66, R67).  A result beyond the range of OFFSET is held at its
nearer end: the model's choice. DESIGN CHOICE, notes/assumptions/91.md. -/
def gate (s : State) (n : Nat) (off : Int) : State :=
  if n = 0 ∨ 11 < n ∨ !refEnabled s n then s
  else if n = 9 ∧ !refAvailable s n then s
  else
    let off := clampInt (-32767) 32767 off
    let s := s.seti (R.CLKM_REFMON_OFFSET n) off
    if !refAvailable s n then refFail s n
    else if refState s n = FAILED ∧ off.natAbs ≤ s.get (R.CLKM_REFLIM_ACCEPT n) then
      if s.get (R.CLKM_REFMON_WTR n) = 0 then refQualify s n else setRefState s n WTR
    else if refState s n = WTR ∧ s.get (R.CLKM_REFLIM_ACCEPT n) < off.natAbs then refFail s n
    else if refState s n = QUALIFIED ∧ s.get (R.CLKM_REFLIM_REJECT n) < off.natAbs then refFail s n
    else s

/-- REFn follows its enables (R66, R68): monitors start in FAILED, or the reference is DISABLED. -/
def refFollowEnable (s : State) (n : Nat) : State :=
  if n = 0 ∨ 11 < n then s
  else if refEnabled s n then
    if refState s n = DISABLED then setRefState s n FAILED else s
  else
    let s := if refState s n = QUALIFIED then s.set R.CLKM_IFLG_REFFAIL 1 else s
    setRefState s n DISABLED

/-- All references follow their enables. -/
def refsFollowEnable (s : State) : State :=
  (List.range 12).foldl refFollowEnable s

/-- The candidates of R69. -/
def candidates (s : State) (sel : Nat) : List Nat :=
  (List.range 12).filter (fun n => n ≠ 0 && refEnabled s n && refState s n == QUALIFIED && n != sel)

/-- Two references disagree (R71). -/
def disagree (s : State) (a b : Nat) : Bool :=
  decide (s.get R.CLKM_SELCFG_DISAGREE < (refOffset s a - refOffset s b).natAbs)

/-- The best candidates: those of the lowest RANK (R69). -/
def bestOf (s : State) (cs : List Nat) : List Nat :=
  cs.filter (fun n => cs.all (fun m => decide (s.get (R.CLKM_REFCFG_RANK n) ≤ s.get (R.CLKM_REFCFG_RANK m))))

/-- The candidate of the highest score, the lower index on a tie (`cs` rising). -/
def argMax (score : Nat → Nat) : List Nat → Option Nat
  | [] => none
  | n :: ns =>
    match argMax score ns with
    | none => some n
    | some m => if score n < score m then some m else some n

/-- A fresh choice among the best candidates (R71, rules 2 to 4). -/
def choose (s : State) (cs : List Nat) : Option Nat :=
  match bestOf s cs with
  | [] => none
  | [a] => some a
  | [a, b] =>
    if disagree s a b then
      if (refOffset s b).natAbs < (refOffset s a).natAbs then some b else some a
    else some a
  | bs => argMax (fun n => (bs.filter (fun m => m != n && !disagree s n m)).length) bs

/-- The selection mode in force (R68): MODE 4 with EN clear. -/
def mode (s : State) : Nat := if s.on R.CLKM_CTRL_EN then s.get R.CLKM_SELCFG_MODE else 4

/-- Take a reference: TARGET and SELREF name it, and the phase difference to it goes into the
build-out offset (R76). -/
def take (s : State) (n : Nat) (st : Nat) (phase : Int) : State :=
  let s := goState s st
  let s := { s with clkm := { s.clkm with buildOut := phase } }
  (s.set R.CLKM_STAT_SELREF n).set R.CLKM_STAT_TARGET (if st = LOCKED then 15 else n)

/-- Move to REF0: through `via`, or directly from FREERUN, and LOCKED at once (R72).
DEDUCED, notes/assumptions/32.md. -/
def toRef0 (s : State) (via : Nat) (phase : Int) : State :=
  take (if state s = FREERUN then s else goState s via) 0 LOCKED phase

/-- LOCKED on REF0 at the end of ACQUIRE, of TEST or by SRST, where no evaluation measures the phase difference that
goes into the build-out offset (R76): it is free. DESIGN CHOICE, notes/assumptions/26.md. -/
def lockRef0 (s : State) : State := take s.tick 0 LOCKED (Config.freeValue s.free).toInt

/-- The AO timebase day count with 16 fraction bits (R80). -/
def dayNow (s : State) : Nat := s.get R.SYS_TBDAY_DAY * 65536 + s.get R.SYS_TBFRAC_FRAC

/-- The crystal polynomial P of R80 in units of 1e-12 ppb, for a temperature step in 0.01 degrees. -/
def poly (s : State) (x : Int) : Int :=
  s.geti (R.CLKM_TC_C 0) * x * 10000 + s.geti (R.CLKM_TC_C 1) * x * x * 100
    + s.geti (R.CLKM_TC_C 2) * x * x * x

/-- The holdover target of R80 in units of 0.01 ppb, rounded to the nearest unit. -/
def holdoverTarget (s : State) : Int :=
  let t0 := s.geti R.CLKM_TREF_T0
  let temp := if s.get R.CLKM_TREF_TSRC = 0 then 0
    else poly s (s.geti R.CLKM_TEMP_TNOW - t0) - poly s (s.geti R.CLKM_TEMP_THOLD - t0)
  let age := s.geti R.CLKM_AGE_AGE * ((dayNow s : Int) - (s.clkm.dhold : Int))
  let d : Nat := 65536 * 10 ^ 10
  roundDiv (s.geti R.CLKM_HOLDOFF_OFF * d - temp * 65536 - age * 10 ^ 8) d

/-- Enter HOLDOVER: no reference is selected, and the offset goes to HOLDOFF plus its correction (R72, R80). -/
def toHoldover (s : State) : State :=
  let s := goState s HOLDOVER
  let s := { s with clkm := { s.clkm with holdTarget := holdoverTarget s } }
  (s.set R.CLKM_STAT_SELREF 15).set R.CLKM_STAT_TARGET 15

/-- Enter FREERUN (R68, MODE 4). -/
def toFreerun (s : State) : State :=
  ((goState s FREERUN).set R.CLKM_STAT_SELREF 15).set R.CLKM_STAT_TARGET 15

/-- Holdover is available (R72). -/
def holdValid (s : State) : Bool := s.on R.CLKM_STAT_HOLDVALID

/-- No reference can be chosen: HOLDOVER where it is available, else REF0. -/
def fallBack (s : State) (via : Nat) (phase : Int) : State :=
  if holdValid s then (if state s = HOLDOVER then s else toHoldover s)
  else if selRef s = 0 ∧ state s = LOCKED then s else toRef0 s via phase

/-- The reference the mode asks for when it chooses afresh (R68, R71): `some 0` is REF0 by MANREF 0. -/
def wanted (s : State) (sel : Nat) : Option Nat :=
  if mode s = 2 then
    if s.get R.CLKM_SELCFG_MANREF = 0 then some 0
    else if refState s (s.get R.CLKM_SELCFG_MANREF) = QUALIFIED then some (s.get R.CLKM_SELCFG_MANREF)
    else none
  else choose s (candidates s sel)

/-- Choose afresh and start the move through state `via` (R78 for a lost target); in MODE 0 and 1 HOLDOVER ends in
LOCKED directly for REF11 (R72). -/
def afresh (s : State) (via : Nat) (phase : Int) : State :=
  match wanted s 15 with
  | none => fallBack s via phase
  | some 0 => toRef0 s via phase
  | some n => if state s = HOLDOVER ∧ n = 11 ∧ mode s ≠ 2 then take s n LOCKED phase else take s n via phase

/-- MODE 3 (R68): HOLDOVER, or LOCKED on REF0 while HOLDVALID is 0. -/
def forcedHoldover (s : State) (phase : Int) : State :=
  if holdValid s then (if state s = HOLDOVER then s else toHoldover s)
  else if selRef s = 0 ∧ state s = LOCKED then s else take s 0 LOCKED phase

/-- Selection while LOCKED (R68, R71, R72).  In MODE 0 and 1 the device stays LOCKED on REF0 while there is no candidate,
also where HOLDVALID is 1: REF0 is never lost, and R61 and R72 name no move then. DEDUCED, notes/assumptions/110.md. -/
def evalLocked (s : State) (phase : Int) : State :=
  let sel := selRef s
  if mode s = 4 then toFreerun s
  else if mode s = 3 then forcedHoldover s phase
  else if mode s = 2 then
    match wanted s sel with
    | none => fallBack s SWITCHING phase
    | some 0 => if sel = 0 then s else toRef0 s SWITCHING phase
    | some n => if sel = n then s else take s n SWITCHING phase
  else if sel = 0 then
    match choose s (candidates s 0) with
    | none => s
    | some n => take s n SWITCHING phase
  else if refState s sel = QUALIFIED then
    if mode s = 0 then
      match choose s ((candidates s sel).filter
          (fun n => decide (s.get (R.CLKM_REFCFG_RANK n) < s.get (R.CLKM_REFCFG_RANK sel)))) with
      | none => s
      | some n => take s n SWITCHING phase
    else s
  else afresh s SWITCHING phase

/-- The selection of R70 to R78, by the state of R72.  A switch or recovery in progress runs on until
it locks or its target is lost. DEDUCED, notes/assumptions/31.md. -/
def evaluate (s : State) (phase : Int) : State :=
  let st := state s
  if st = ACQUIRE ∨ st = TEST then s
  else if st = LOCKED then evalLocked s phase
  else if st = SWITCHING ∨ st = RECOVERY then
    if refState s (selRef s) = QUALIFIED then s
    else if mode s = 4 then toFreerun s
    else if mode s = 3 then forcedHoldover s phase
    else afresh s st phase
  else if mode s = 4 then (if st = FREERUN then s else toFreerun s)
  else if mode s = 3 then forcedHoldover s phase
  else afresh s RECOVERY phase

/-- STAT.RANKDIS (R71, rule 1), and its flag on a rise. -/
def rankDis (s : State) : State :=
  let sel := selRef s
  let d := 1 ≤ sel && sel ≤ 11 && refState s sel == QUALIFIED &&
    (candidates s sel).any (fun n =>
      s.get (R.CLKM_REFCFG_RANK n) == s.get (R.CLKM_REFCFG_RANK sel) && disagree s n sel)
  let s := if d ∧ !s.on R.CLKM_STAT_RANKDIS then s.set R.CLKM_IFLG_RANKDIS 1 else s
  s.set R.CLKM_STAT_RANKDIS (b2n d)

/-- The pull range of R459 in units of 0.01 ppb: 250 ppm. -/
def pull (i : Int) : Int := clampInt (-25000000) 25000000 i

/-- The offset the DPLL moves to, in 0.01 ppb, confined to the pull range (R459); `none` while it is
held (ACQUIRE, or the selected reference lost until the next evaluation, R70). -/
def targetOffset (s : State) : Option Int :=
  let st := state s
  if st = ACQUIRE then none
  else if st = TEST then some (pull (s.geti R.CLKM_TESTWORD_OFF))
  else if st = FREERUN then some 0
  else if st = HOLDOVER then some (pull s.clkm.holdTarget)
  else if selRef s = 0 then some 0
  else if refState s (selRef s) = QUALIFIED then
    some (pull (if selRef s = 11 then s.geti R.ASRC_STEEROUT_U else refOffset s (selRef s) * 10000))
  else none

/-- Where the next millisecond takes the offset before the slew limit: in LOCKED on a reference the DPLL follows it with
the bandwidth of DPLLCFG.BW, else it goes to its target (R77). -/
def nextOffset (s : State) (t : Int) : Int :=
  if state s = LOCKED ∧ selRef s ≠ 0 then
    pull (Config.dpllFollow (s.get R.CLKM_DPLLCFG_BW) (s.geti R.CLKM_DPLLOFF_OFF) t)
  else t

/-- One millisecond of movement of the DPLL offset: at most SLEW × 0.1 ppm/s, which is SLEW × 10 units of
0.01 ppb (R77). -/
def slew (s : State) : State :=
  match targetOffset s with
  | none => s
  | some t => s.seti R.CLKM_DPLLOFF_OFF
      (approach (s.geti R.CLKM_DPLLOFF_OFF) (nextOffset s t) (10 * s.get R.CLKM_DPLLCFG_SLEW))

/-- TESTWORD written in TEST takes effect without the slew limit (R77). -/
def testWord (s : State) : State :=
  if state s = TEST then s.seti R.CLKM_DPLLOFF_OFF (pull (s.geti R.CLKM_TESTWORD_OFF)) else s

/-- The mean of a list of integers, rounded to the nearest. DEDUCED, notes/assumptions/34.md. -/
def mean (l : List Int) : Int := if l = [] then 0 else roundDiv (l.foldl (· + ·) 0) l.length

/-- The once-per-second holdover history (R79).  `history` holds, newest first, the offset, temperature
and day of each past second of continuous LOCKED on this reference. -/
def historyUpdate (s : State) : State :=
  if state s ≠ LOCKED ∨ selRef s = 0 ∨ selRef s = 15 then s
  else
    let n := s.get R.CLKM_DPLLCFG_HOLDAVG
    let h := s.clkm.history
    let s := if n ≤ h.length ∧ 0 < n then
        let w := h.take n
        let s := s.seti R.CLKM_HOLDOFF_OFF (mean (w.map (fun e => e.1)))
        let s := s.seti R.CLKM_TEMP_THOLD (mean (w.map (fun e => e.2.1)))
        let s := { s with clkm := { s.clkm with dhold := (w.headD (0, 0, 0)).2.2 } }
        s.set R.CLKM_STAT_HOLDVALID 1
      else s
    let e : Int × Int × Nat :=
      (s.geti R.CLKM_DPLLOFF_OFF, s.geti R.CLKM_TEMP_TNOW, dayNow s)
    { s with clkm := { s.clkm with history := (e :: h).take 65 } }

/-- A new temperature from the source TSRC selects (R81), in 0.01 degrees. -/
def newTemperature (s : State) (t : Int) : State :=
  (s.seti R.CLKM_TEMP_TNOW t).set R.CLKM_STAT_TSTALE 0

/-- The page number of the APLL that drives SYSCLK: 0 for APLLA, 1 for APLLB (R11). -/
def activeApll (s : State) : Nat :=
  if s.get R.SYS_SYSCFG_SYSRATE = 0 ∨ s.get R.SYS_SYSCFG_SYSRATE = 2 then 1 else 0

/-- The lock field of an APLL. -/
def lockField (n : Nat) : Fld := if n = 0 then R.PLL_STAT_LOCKA else R.PLL_STAT_LOCKB

/-- Enter ACQUIRE (R72): the offset is HOLDOFF where HOLDVALID is 1, else 0. -/
def toAcquire (s : State) : State :=
  let s := goState s ACQUIRE
  let s := (s.set R.CLKM_STAT_SELREF 15).set R.CLKM_STAT_TARGET 15
  s.seti R.CLKM_DPLLOFF_OFF (if holdValid s then s.geti R.CLKM_HOLDOFF_OFF else 0)

/-- ACQUIRE ends on APLL lock (R72). -/
def leaveAcquire (s : State) : State :=
  if state s ≠ ACQUIRE then s
  else if mode s = 4 then toFreerun s
  else if holdValid s then toHoldover s
  else lockRef0 s

/-- Enter TEST: the offset goes to TESTWORD under the slew limit (R72, R77). -/
def enterTest (s : State) : State :=
  ((goState s TEST).set R.CLKM_STAT_SELREF 15).set R.CLKM_STAT_TARGET 15

/-- Leave TEST (R72). -/
def leaveTest (s : State) : State :=
  if state s ≠ TEST then s else if holdValid s then toHoldover s else lockRef0 s

/-- CLKM.CTRL.SRST (R86). DEDUCED, notes/assumptions/35.md. -/
def srst (s : State) : State :=
  let s := s.set R.CLKM_STAT_HOLDVALID 0
  let s := (List.range 12).foldl (fun s n =>
    if n = 0 then s else setRefState s n (if refEnabled s n then FAILED else DISABLED)) s
  let s := { s with clkm := { s.clkm with history := [], dhold := 0 } }
  if state s = ACQUIRE ∨ state s = TEST then s
  else if s.on R.CLKM_CTRL_EN then lockRef0 s else toFreerun s

/-- The contexts of R73 may leave ARMED in this clock manager state.  `sync` tells RECON = SYNC, `dom` the
context's DOMAIN (15: SYS). -/
def mayLeaveArmed (s : State) (sync : Bool) (dom : Nat) : Bool :=
  let st := state s
  if st = ACQUIRE ∨ st = RECOVERY ∨ st = TEST then
    sync && (dom == 15 || dom == selRef s)
  else true

/-- Values the CLKM page forbids (R65, R68, R86): reason 6, or 7 for MODE 3 without HOLDVALID and for
TEST while a STEER or ASRC context runs (R75). -/
def check (s : State) (off d : Nat) : Option Nat :=
  if off = 0x04 then
    if bit d 2 ∧ s.asrc.reconRunning then some 7 else none
  else if off = 0x20 then
    if 4 < bits d 2 0 ∨ 11 < bits d 11 8 then some 6
    else if bits d 2 0 = 3 ∧ !holdValid s then some 7 else none
  else if off = 0x24 then
    if bits d 25 16 = 0 ∨ 1000 < bits d 25 16 ∨ bits d 6 0 = 0 ∨ 64 < bits d 6 0 then some 6 else none
  else if off = 0x28 ∨ off = 0x2C then
    if d < 0x0001F400 ∨ 0x2EE00000 < d then some 6 else none
  else if 0x70 ≤ off ∧ off < 0x70 + 144 then
    let n := (off - 0x70) / 12
    let r := (off - 0x70) % 12
    if n = 0 then some 2
    else if r = 0 then
      if bits d 23 16 = 0 ∨ bits d 9 0 = 0 ∨ 1000 < bits d 9 0 then some 6 else none
    else if r = 4 then
      if bits d 31 16 < bits d 15 0 ∨ 2500 < bits d 31 16 ∨ bits d 15 0 = 0 then some 6 else none
    else none
  else none

/-- What a write of a CLKM register does beside storing its fields. -/
def wrote (s old : State) (off d : Nat) : State :=
  if off = 0x04 then
    let s := if s.on R.CLKM_CTRL_EN = old.on R.CLKM_CTRL_EN then s else refsFollowEnable s
    let s := if bit d 1 then srst s else s
    if s.on R.CLKM_CTRL_TEST ∧ !old.on R.CLKM_CTRL_TEST then enterTest s
    else if !s.on R.CLKM_CTRL_TEST then leaveTest s else s
  else if off = 0x28 then nomChange s 1
  else if off = 0x2C then nomChange s 2
  else if off = 0x5C then testWord s
  else if 0x70 ≤ off ∧ off < 0x70 + 144 ∧ (off - 0x70) % 12 = 0 then refFollowEnable s ((off - 0x70) / 12)
  else s

end Sys2Proof.Machine.Clkm

namespace Sys2Proof.Machine.Pll
open Sys2Proof Sys2Proof.Machine

/-- PLL.CTRL.EN governs the APLL of the other family: cleared, that APLL stops (R83, R87). -/
def wrote (s : State) (off : Nat) : State :=
  if off = 0x04 ∧ !s.on R.PLL_CTRL_EN then s.set (Clkm.lockField (1 - Clkm.activeApll s)) 0 else s

end Sys2Proof.Machine.Pll
end

