-- ==== Sys2Proof/Machine/StrmOps.lean ====
section
/-! DEFINITION. Serial ports and stream contexts (R88 to R116), the ledger (R117 to R121), the rate
converters (R126 to R130) and the aligned groups (R131 to R135): what a frame, a request and a block
boundary do to a context. -/
namespace Sys2Proof.Machine.Strm
open Sys2Proof Sys2Proof.Machine

/-! The gain code shared with the matrix (R144). -/

/-- `m` is not above `2^23 × 10^(k/640)` plus one half, tested on 640th powers; `up` and `down` are the
positive and the negative part of `k`. -/
def coefLe (up down m : Nat) : Bool :=
  decide ((2 * m - 1) ^ 640 * 10 ^ down ≤ 2 ^ (24 * 640) * 10 ^ up)

/-- The largest `m` below `acc + 2^n` with `coefLe`. -/
def coefSearch (up down : Nat) : Nat → Nat → Nat
  | 0, acc => acc
  | n + 1, acc =>
    if coefLe up down (acc + 2 ^ n) then coefSearch up down n (acc + 2 ^ n) else coefSearch up down n acc

/-- The magnitude of R144: round(2^23 × 10^((GAIN − 3,328) / 640)), and 0 for GAIN 0.
DEDUCED, notes/assumptions/33.md. -/
def coef (g : Nat) : Nat :=
  if g = 0 then 0 else if g = 3328 then 8388608 else coefSearch (g - 3328) (3328 - g) 28 0

/-- The port gain of R98 on one audio word. -/
def portGain (g : Nat) (x : Sample) : Sample :=
  if g = 0 then 0 else satSample ((x.toInt * coef g / 2 ^ 19 + 8) / 16)

/-! Serial ports. -/

/-- 16, 20, 24 or 32 bits (R115). -/
def widthOf (c : Nat) : Nat :=
  match c with
  | 0 => 16
  | 1 => 20
  | 2 => 24
  | _ => 32

/-- The number of slots of a port (R92). -/
def slots (s : State) (p : Nat) : Nat :=
  if s.get (R.SAP_FMT_MODE p) = 0 then s.get (R.SAP_FMT_SLOTS p) + 1 else 2

/-- The frame length in BCLK (R92). -/
def frameLen (s : State) (p : Nat) : Nat := slots s p * widthOf (s.get (R.SAP_FMT_SWIDTH p))

/-- f(APLL) in Hz: APLLA or APLLB (R83). -/
def apllHz (src : Nat) : Nat := if src = 0 then 196608000 else 180633600

/-- The frame rate a master port's divider gives, in 1/16 Hz, rounded (R89, R106). -/
def dividerRate (s : State) (p : Nat) : Nat :=
  let d := (s.get (R.SAP_CLKDIV_N p) * 2 ^ 24 + s.get (R.SAP_DIVF_F p)) * frameLen s p
  if d = 0 then 0 else (2 * 16 * apllHz (s.get (R.SAP_CLKDIV_SRC p)) * 2 ^ 24 + d) / (2 * d)

/-- In a master port FRATE holds the rate of the divider (R106). -/
def trackRate (s : State) (p : Nat) : State :=
  if s.on (R.SAP_CTRL_MASTER p) then s.set (R.SAP_FRATE_RATE p) (dividerRate s p) else s

/-- A port format that R94 refuses at frame rate `r` (1/16 Hz). -/
def badFormat (s : State) (p r : Nat) : Bool :=
  decide (widthOf (s.get (R.SAP_FMT_SWIDTH p)) < widthOf (s.get (R.SAP_FMT_DWIDTH p))) ||
  (s.get (R.SAP_FMT_MODE p) == 0 && decide (frameLen s p ≤ s.get (R.SAP_FMT_OFFSET p))) ||
  decide (r < 8000 * 16) || decide (768000 * 16 < r) ||
  decide (49152000 * 16 < frameLen s p * r) ||
  (s.get (R.SAP_FMT_MODE p) == 0 && decide (384000 * 16 < r))

/-- The APLL of the SYSRATE family: 0 for APLLA, 1 for APLLB (R11). -/
def ownApll (s : State) : Nat := if s.get R.SYS_SYSCFG_SYSRATE % 2 = 0 then 1 else 0

/-- The context is bound to port `p`. -/
def onPort (s : State) (p c : Nat) : Bool := s.cType c == 1 && s.cInst c == p

/-! Reading a context's endpoint. -/

/-- The nominal rate of a context's endpoint in 1/16 Hz (R101, R126). -/
def endpointRate (s : State) (c : Nat) : Nat :=
  match s.cType c with
  | 1 => s.get (R.SAP_FRATE_RATE (s.cInst c))
  | 2 => 16 * s.get R.USBD_SAMFREQ_RATE
  | 4 => 16 * ([8000, 16000, 24000, 32000, 48000, 96000].getD (s.get (R.PDM_GRPCFG_RATE (s.cInst c))) 0)
  | 13 => 16 * (if s.on R.PEAT_CFG_RATE then 16000 else 8000)
  | _ => 16 * s.sysRate

/-- The ratio of a context's endpoint to SYSRATE at rate `r` (1/16 Hz), 8.24, rounded. -/
def ratioOf (s : State) (r : Nat) : Nat :=
  (2 * r * 2 ^ 24 + 16 * s.sysRate) / (2 * 16 * s.sysRate)

/-- A rate (1/16 Hz) is within 1/16 to 16 of SYSRATE (R126). -/
def rateInRange (s : State) (r : Nat) : Bool :=
  decide (s.sysRate ≤ r) && decide (r ≤ 256 * s.sysRate)

/-- A measured ratio (8.24) is within 1/16 to 16 (R130). -/
def ratioInRange (r : Nat) : Bool := decide (2 ^ 20 ≤ r) && decide (r ≤ 2 ^ 28)

/-! The ledger (R117 to R121). -/

/-- The Thallus offset of place `k` of a context's buffer: frames of NCH interleaved words from BUFBASE on (R99).
Frames take the places in turn, from place 0 at the ARM: the model's choice. DESIGN CHOICE, notes/assumptions/93.md. -/
def placeAt (s : State) (c k : Nat) : Nat := 64 * s.get (R.CTX_BUF_BUFBASE c) + 4 * s.cNch c * k

/-- The place of the oldest frame held. -/
def oldestPlace (s : State) (c : Nat) : Nat :=
  ((s.ctx c).wpos + s.cBufLen c - (s.ctx c).fill) % s.cBufLen c

/-- The words of a frame, one for each channel of context `c`. -/
def frameWords (s : State) (c : Nat) (f : Frame) : List Nat :=
  (List.range (s.cNch c)).map (fun ch => (f.getD ch 0).toNat)

/-- The frame at place `k`, as a reader of Thallus sees it (R185). -/
def frameAt (s : State) (c k : Nat) : Frame :=
  (List.range (s.cNch c)).map (fun ch => BitVec.ofNat 32 (s.thWord (placeAt s c k + 4 * ch)))

/-- A frame is put at the next place of the buffer. -/
def hold (s : State) (c : Nat) (f : Frame) : State :=
  (s.thPuts (placeAt s c (s.ctx c).wpos) (frameWords s c f)).updCtx c (fun x =>
    { x with fill := x.fill + 1, wpos := (x.wpos + 1) % s.cBufLen c })

/-- The buffer takes another frame. -/
def room (s : State) (c : Nat) : Bool := decide ((s.ctx c).fill < s.cBufLen c)

/-- A frame is written into the buffer: held, or at a full buffer discarded and dropped (R119). -/
def push (s : State) (c : Nat) (f : Frame) : State :=
  (if room s c then hold s c f else s.updCtx c (fun x => { x with cdrop := x.cdrop + 1 })).updCtx c
    (fun x => { x with cin := x.cin + 1 })

/-- A frame that arrives where none is accepted but is counted: IN and DROP (R102, R111). -/
def refuse (x : Ctx) : Ctx := { x with cin := x.cin + 1, cdrop := x.cdrop + 1 }

/-- A frame the context creates in place of one it did not have, into the buffer (R108, R182, R321). -/
def pushPad (s : State) (c : Nat) (f : Frame) : State :=
  (if room s c then hold s c f else s.updCtx c (fun x => { x with cdrop := x.cdrop + 1 })).updCtx c
    (fun x => { x with cpad := x.cpad + 1 })

/-- A frame is due: the oldest held one, or a zero frame in its place (R119). -/
def pop (s : State) (c : Nat) : Frame × State :=
  if (s.ctx c).fill = 0 then
    (zeroFrame (s.cNch c), s.updCtx c (fun x => { x with cout := x.cout + 1, cpad := x.cpad + 1 }))
  else
    (frameAt s c (oldestPlace s c), (s.thMeet (placeAt s c (oldestPlace s c)) (4 * s.cNch c)).updCtx c
      (fun x => { x with cout := x.cout + 1, fill := x.fill - 1 }))

/-- A due frame is padded and the buffer is held (R111, R133). -/
def padDue (x : Ctx) : Ctx := { x with cout := x.cout + 1, cpad := x.cpad + 1 }

/-- The oldest `k` frames, or all, are discarded and dropped. -/
def dropFrames (k : Nat) (x : Ctx) : Ctx :=
  { x with cdrop := x.cdrop + BitVec.ofNat 48 (min k x.fill), fill := x.fill - k }

/-- The ledger returns to zero (R121), published with the change of EPOCH (R18). -/
def zeroLedger (x : Ctx) : Ctx :=
  { x with cin := 0, cout := 0, cpad := 0, cdrop := 0, fill := 0, wpos := 0, pub := .zero, epoch := x.epoch + 1 }

/-- Step 1 of a boundary: the values a read returns become those through the last sample (R18). -/
def publish (b : Nat) (x : Ctx) : Ctx :=
  { x with pub := ⟨x.cin, x.cout, x.cpad, x.cdrop, x.fill⟩
           conv := { x.conv with pubRatio := x.conv.ratio, pubFrac := x.conv.frac, pubIdx := b } }

/-- The state a context keeps in ARMED: nothing kept, nothing on its way. -/
def toArmed (x : Ctx) : Ctx :=
  { x with st := .armed, kept := false, stopping := false, resume := false, resumeOnLock := false
           rampIn := none, fade := 0, chans := [] }

/-- Back to IDLE: the buffer is freed, and the ledger, EPOCH, CAUSE and STARTIDX stand. -/
def toIdle (x : Ctx) : Ctx :=
  { toArmed x with st := .idle, conv := .none, last := [] }

/-- Back to IDLE with the ledger zeroed and EPOCH incremented, for a context that was not IDLE
(R105, R121). -/
def resetIdle (x : Ctx) : Ctx := if x.st = .idle then x else zeroLedger (toIdle x)

/-! Gates and port gains (R97, R98). -/

/-- The gain code in force for a context of port `p`, from PGAIN; a set MUTE bit gives 0. -/
def codeOf (s : State) (p : Nat) (sink : Bool) : Nat :=
  if sink then (if s.on (R.SAP_PGAIN_OMUTE p) then 0 else s.get (R.SAP_PGAIN_OGAIN p))
  else if s.on (R.SAP_PGAIN_IMUTE p) then 0 else s.get (R.SAP_PGAIN_IGAIN p)

/-- A zero crossing: a sample of 0, or a change of sign from the sample before (R97, R151).  A sample of 0 has no sign,
so a step from 0 to either side is none, and 0 stands too where there is no sample before: the model's choice.
DESIGN CHOICE, notes/assumptions/89.md. -/
def crosses (prev x : Sample) : Bool := x == 0 || (prev != 0 && prev.msb != x.msb)

/-- One sample through a channel's port gain and gate, at sample index `p` with blocks of `len`. -/
def through (p len : Nat) (ch : Chan) (x : Sample) : Sample × Chan :=
  let z := crosses ch.prev x
  let ch := match ch.next with
    | some g => if z then { ch with gain := g, next := none, ramp := none } else ch
    | none => ch
  let ch := { ch with
    prev := x
    gate := match ch.gate with
      | .waitOpen => if z then .opened else .waitOpen
      | .waitClose => if z then .closed else .waitClose
      | g => g }
  let y := portGain ch.gain x
  let y := match ch.ramp with
    | some (t, g) => if p < t + len then Config.blend (p - t) len (portGain g x) y else y
    | none => y
  let y := match ch.gate with
    | .opened | .waitClose => y
    | .closed | .waitOpen => 0
    | .rampOpen t => if p < t + len then Config.ramp (p - t) len y else y
    | .rampClose t => if p < t + len then Config.ramp (len - (p - t)) len y else 0
  (y, ch)

/-- A frame through the channels of a port's context. -/
def throughAll (p len : Nat) : List Chan → Frame → Frame × List Chan
  | ch :: chs, x :: xs =>
    let r := through p len ch x
    let t := throughAll p len chs xs
    (r.1 :: t.1, r.2 :: t.2)
  | chs, xs => (xs, chs)

/-- At a boundary a ramp that has run its block ends. -/
def settleGate (b len : Nat) (ch : Chan) : Chan :=
  { ch with
    gate := match ch.gate with
      | .rampOpen t => if t + len ≤ b then .opened else .rampOpen t
      | .rampClose t => if t + len ≤ b then .closed else .rampClose t
      | g => g
    ramp := match ch.ramp with
      | some (t, g) => if t + len ≤ b then none else some (t, g)
      | none => none }

/-- A frame passed on: its gates and gains on a serial port, its ramp-in after a resume. -/
def shape (s : State) (c : Nat) (x : Ctx) (f : Frame) : Frame × Ctx :=
  let p := s.sampIdx
  let f := match x.rampIn with
    | some t => if p < t + s.blkLen then f.map (Config.ramp (p - t) s.blkLen) else f
    | none => f
  if s.cType c = 1 then
    let r := throughAll p s.blkLen x.chans f
    (r.1, { x with chans := r.2, last := r.1 })
  else (f, { x with last := f })

/-- A frame that a context supplies in place of its own still moves the gates and gains of its channels (R97,
R98): a zero sample is a zero crossing. DEDUCED, notes/assumptions/80.md. -/
def standIn (s : State) (c : Nat) (x : Ctx) (f : Frame) : Ctx :=
  if s.cType c = 1 then { x with chans := (throughAll s.sampIdx s.blkLen x.chans f).2, last := f }
  else { x with last := f }

/-! Frames arriving and leaving. -/

/-- A frame from SAPn_DIN as the device takes it: left-justified words, 0 below DWIDTH (R95). -/
def entering (s : State) (p : Nat) (f : Frame) : Frame :=
  let k := 32 - widthOf (s.get (R.SAP_FMT_DWIDTH p))
  f.map (fun x : Sample => (x >>> k) <<< k)

/-- One endpoint frame arrives at context `c`, from its endpoint (source) or its producer (sink): counted
and held by the context's state (R102, R111, R117, R119). -/
def arrive (s : State) (c : Nat) (f : Frame) : State :=
  let x := s.ctx c
  match x.st with
  | .running => push s c f
  | .draining => if s.cSink c then s.setCtx c (refuse x) else s
  | .stalled => if s.cSink c then s.setCtx c (refuse x) else s
  | _ => s

/-- The converter of an ASRC context advances by its ratio: whole endpoint frames, and the fraction left
(R120, R137). -/
def advance (v : Conv) : Nat × Conv :=
  let t := v.frac + v.ratio * 256
  (t / 2 ^ 32, { v with frac := t % 2 ^ 32 })

/-- Pop `n` frames (an ASRC source), giving the frames taken. -/
def popN (s : State) (c : Nat) : Nat → List Frame × State
  | 0 => ([], s)
  | n + 1 =>
    let r := pop s c
    let t := popN r.2 c n
    (r.1 :: t.1, t.2)

/-- A producer delivers one SYSRATE frame to a sink (R117, R120): an ASRC context's converter writes the
endpoint frames of its ratio. -/
def deliver (s : State) (c : Nat) (f : Frame) : State :=
  if s.cSink c ∧ s.cRecon c = 2 then
    let r := advance (s.ctx c).conv
    let s := s.updCtx c (fun x => { x with conv := r.2 })
    let out := (List.range (s.cNch c)).map (fun ch => Config.asrcSample ch r.2.frac [f])
    (List.replicate r.1 out).foldl (fun s g => arrive s c g) s
  else arrive s c f

/-! Aligned groups (R131 to R135). -/

/-- Context `c` is a member of group `g`. -/
def member (s : State) (g c : Nat) : Bool := g < 64 && s.cGroup c == g

/-- The group is in a slip. -/
def slipping (s : State) (g : Nat) : Bool := s.grp.slips.any (fun e => e.1 == g)

/-- The group slips on an underrun (its MODE bit). -/
def slipMode (s : State) (g : Nat) : Bool := bit (s.get (R.GRP_MODE_SLIP (g / 32))) (g % 32)

/-- The frames an endpoint or a consumer is to take from context `c` in this sample period: 1, or for an
ASRC source what its converter advances over. -/
def dueCount (s : State) (c : Nat) : Nat :=
  if !s.cSink c ∧ s.cRecon c = 2 then (advance (s.ctx c).conv).1 else 1

/-- The due frames that context `c`, RUNNING, does not hold: so many underruns if they were due now (R119, R120). -/
def shortBy (s : State) (c : Nat) : Nat :=
  if (s.ctx c).st = .running then dueCount s c - (s.ctx c).fill else 0

/-- Context `c`, RUNNING, would underrun if its frames were due now (R119). -/
def wouldUnderrun (s : State) (c : Nat) : Bool := decide (0 < shortBy s c)

/-- The underruns of a RUNNING group member in this sample period are counted, one for each frame (R119, R138). -/
def countUnder (s : State) (c : Nat) : State :=
  let g := s.cGroup c
  let n := shortBy s c
  if g < 64 ∧ 0 < n then
    let s := (s.addSat R.GRP_ERRCNT_BLKERR n).addSat (R.GRP_PADEV_COUNT.win (g + 1)) n
    if slipMode s g then s else s.set R.GRP_IFLG_MEMBERPAD 1
  else s

/-- Before any member passes its frame, judge the underruns of the groups that slip (R133, 1). -/
def startSlips (s : State) (due : List Nat) : State :=
  let bad := due.filter (fun c => wouldUnderrun s c && decide (s.cGroup c < 64) &&
    slipMode s (s.cGroup c) && !slipping s (s.cGroup c))
  let gs := (bad.map (fun c => s.cGroup c)).eraseDups
  let s := bad.foldl countUnder s
  let new := gs.map (fun g => (g, (⟨s.sampIdx,
    (bad.filter (fun c => s.cGroup c == g)).map (fun c => (c, (s.ctx c).pub.fill))⟩ : Slip)))
  if new = [] then s
  else { s.set R.GRP_IFLG_SLIP 1 with grp := { s.grp with slips := s.grp.slips ++ new } }

/-- The due frames of a sample period are padded and the buffer is held: one, or for an ASRC source the endpoint frames
that its converter advances over (R111, R120, R133). -/
def padPeriod (s : State) (c : Nat) (x : Ctx) : Ctx :=
  if !s.cSink c ∧ s.cRecon c = 2 then
    let a := advance x.conv
    (List.replicate a.1 ()).foldl (fun y _ => padDue y) { x with conv := a.2 }
  else padDue x

/-- The frame that the endpoint of sink `c` holds now: the last one passed on, or the fade-out of SRST (R102). -/
def onWire (s : State) (c : Nat) : Frame :=
  let x := s.ctx c
  match x.fadeOut with
  | some t => if s.sampIdx < t + s.blkLen then
      x.last.map (Config.ramp (s.blkLen - (s.sampIdx - t)) s.blkLen) else zeroFrame (s.cNch c)
  | none => x.last

/-- One due frame of context `c` in the sample period (R102, R111, R119, R133), giving the frame its
consumers or endpoint see. -/
def passOne (s : State) (c : Nat) : Frame × State :=
  let x := s.ctx c
  let nch := s.cNch c
  match x.st with
  | .running | .draining =>
    if x.st = .running ∧ slipping s (s.cGroup c) then
      (zeroFrame nch, s.setCtx c (standIn s c (padPeriod s c x) (zeroFrame nch)))
    else
      let s := countUnder s c
      if !s.cSink c ∧ s.cRecon c = 2 then
        let a := advance x.conv
        let t := popN (s.updCtx c (fun y => { y with conv := a.2 })) c a.1
        let f := (List.range nch).map (fun ch => Config.asrcSample ch a.2.frac t.1)
        let r := shape t.2 c (t.2.ctx c) f
        (r.1, t.2.setCtx c r.2)
      else
        let t := pop s c
        let r := shape t.2 c (t.2.ctx c) t.1
        (r.1, t.2.setCtx c r.2)
  | .stalled =>
    if s.cSink c then
      let f := if x.fade = 0 then zeroFrame nch
        else x.last.map (Config.ramp x.fade (x.fade + 1))
      (f, s.setCtx c (standIn s c { x with fade := x.fade - 1 } f))
    else (zeroFrame nch, s.setCtx c (standIn s c (padPeriod s c x) (zeroFrame nch)))
  | _ =>
    (match x.fadeOut with
     | some _ => onWire s c
     | none => zeroFrame nch, s)

/-- Samples in a Rhizome frame: 2 at half rate, where SYSRATE is 88.2 or 96 kHz (R314). -/
def slotPeriods (s : State) : Nat := if s.highRate then 2 else 1

/-- The frame of a TYPE 3 source for master index `i`: per channel the slot sample read, if one was (R322). -/
def slotFrame (s : State) (c i : Nat) : List (Option SlotRx) :=
  let row := (s.rz.rx.find? (fun e => e.1 == i && !e.2.spent)).map (fun e => e.2.slots)
  (List.range (s.cNch c)).map (fun j => (List.range (slotPeriods s)).findSome? (fun k =>
    ((row.getD []).find? (fun e => e.1 == s.cFirst c + slotPeriods s * j + k)).map (fun e => e.2)))

/-- The slots of index `i` that context `c` reads were read with VALID 0 (R341). -/
def countMiss (s : State) (c i : Nat) (xs : List (Option SlotRx)) : State :=
  if s.rz.rx.any (fun e => e.1 == i && !e.2.spent) then
    xs.zipIdx.foldl (fun s e => if e.1.isNone then
      s.bump (R.SLT_MISS_COUNT (s.cFirst c + slotPeriods s * e.2 + i % slotPeriods s)) else s) s
  else s

/-- A TYPE 3 source takes the samples of master index `i`: a sample missing on every pass, or late, is a zero, and its
frame is counted in PAD (R322). -/
def takeSlots (s : State) (c i : Nat) : State :=
  let xs := slotFrame s c i
  let val : Option SlotRx → Option Sample := fun e => match e with
    | some y => if y.late then none else some y.x
    | none => none
  let f : Frame := xs.map (fun e => (val e).getD 0)
  let s := countMiss s c i xs
  if xs.all (fun e => (val e).isSome) then push s c f else pushPad s c f

/-- In sample period `p` a RUNNING TYPE 3 source takes the samples of master index p - PRESD (R322).
DESIGN CHOICE, notes/assumptions/108.md. -/
def slotsDue (s : State) (c : Nat) : State :=
  if s.cType c = 3 ∧ !s.cSink c ∧ (s.ctx c).st = .running then
    if s.sampIdx < s.get R.RZ_PRES_PRESD then pushPad s c (zeroFrame (s.cNch c))
    else takeSlots s c (s.sampIdx - s.get R.RZ_PRES_PRESD)
  else s

/-- The due frames of several contexts in one sample period, group slips judged first. -/
def passAll (s : State) (due : List Nat) : List (Nat × Frame) × State :=
  due.foldl (fun (a : List (Nat × Frame) × State) c =>
    let r := passOne a.2 c
    (a.1 ++ [(c, r.1)], r.2)) ([], startSlips (due.foldl slotsDue s) due)

/-- What several contexts pass in the sample period `i` periods ahead. -/
def passAhead (s : State) (i : Nat) (due : List Nat) : List (Nat × Frame) × State :=
  let r := passAll { s with blk := { s.blk with pos := s.blk.pos + i } } due
  (r.1, { r.2 with blk := s.blk })

/-- The frame of sample period `q` that a graph took from context `c` ahead of its other consumers (R139, R177). -/
def aheadAt (s : State) (c q : Nat) : Option Frame :=
  let e := Map.get (0, []) s.eng.ahead c
  if e.1 ≤ q then e.2[q - e.1]? else none

/-- The due frames of this sample period: one that a graph has taken already is counted once, and its other
consumers see the same frame (R139). -/
def passFrom (s : State) (due : List Nat) : List (Nat × Frame) × State :=
  let q := s.sampIdx
  let t := passAll s (due.filter (fun c => aheadAt s c q == none))
  (due.map (fun c => (c, match aheadAt s c q with
    | some f => if s.live c then f else zeroFrame (s.cNch c)
    | none => ((t.1.find? (fun e => e.1 == c)).map (fun e => e.2)).getD (zeroFrame (s.cNch c)))), t.2)

/-- A graph's input ports take `k` frames from the contexts `cs` from sample period `q` on, each frame counted once
however many graphs read it (R139, R177). DEDUCED, notes/assumptions/15.md. -/
def takeAhead (s : State) (q k : Nat) (cs : List Nat) : FMap (List Frame) × State :=
  let held : Nat → List Frame := fun c =>
    let e := Map.get (0, []) s.eng.ahead c
    if e.1 ≤ q then e.2.drop (q - e.1) else []
  let r := (List.range k).foldl (fun (a : FMap (List Frame) × State) i =>
    let t := passAhead a.2 i (cs.filter (fun c => decide ((held c).length ≤ i)))
    (t.1.foldl (fun m e => Map.insert e.1 (Map.get [] m e.1 ++ [e.2]) (Map.erase e.1 m)) a.1, t.2)) ([], s)
  let all : Nat → List Frame := fun c => held c ++ Map.get [] r.1 c
  let ahead := cs.foldl (fun m c => Map.insert c (q, all c) (Map.erase c m)) r.2.eng.ahead
  (cs.foldl (fun m c => Map.insert c ((all c).take k) (Map.erase c m)) [],
   { r.2 with eng := { r.2.eng with ahead := ahead } })

/-! Stalls (R108 to R114). -/

/-- A RUNNING or DRAINING context enters STALLED at once (R110, R111). -/
def stall (s : State) (c cause : Nat) : State :=
  let x := s.ctx c
  if x.st = .running ∨ x.st = .draining then
    let fade := if s.cType c = 1 then
        s.get (R.SAP_SEQ_FASTRAMP (s.cInst c)) *
          (if x.conv.inRate = 0 then endpointRate s c else x.conv.inRate) / 160000 else 0
    let s := s.setCtx c { x with st := .stalled, cause := cause, rampIn := none
                                 resume := false, resumeOnLock := false, fade := fade }
    let s := if s.cRecon c = 2 ∧ !x.conv.hold then
        (s.set R.ASRC_IFLG_HOLD 1).bump R.ASRC_ERRCNT_BLKERR else s
    let s := s.updCtx c (fun x => { x with conv := { x.conv with hold := s.cRecon c == 2 } })
    (s.set R.STRM_IFLG_STALL 1).bump R.STRM_ERRCNT_BLKERR
  else s

/-- The contexts of port `p` that are RUNNING or DRAINING. -/
def portLive (s : State) (p : Nat) : List Nat :=
  s.ctxsWhere (fun c => onPort s p c && ((s.ctx c).st == .running || (s.ctx c).st == .draining))

/-- The contexts of a slave port enter STALLED together (R110). -/
def stallPort (s : State) (p cause : Nat) : State :=
  if s.on (R.SAP_CTRL_MASTER p) ∨ portLive s p = [] then s
  else
    let s := (portLive s p).foldl (fun s c => stall s c cause) s
    (s.set (R.SAP_IFLG_STALL p) 1).bump (R.SAP_STALLCNT_COUNT p)

/-- A glitched frame of a port (R108): each source writes a zero frame counted in PAD, each sink sends
the frame that was due. -/
def glitch (s : State) (p : Nat) : State :=
  let s := startSlips s ((portLive s p).filter s.cSink)
  (portLive s p).foldl (fun s c =>
    if s.cSink c then (passOne s c).2
    else if (s.ctx c).st = .running then
      pushPad s c (zeroFrame (s.cNch c))
    else s) s

/-- A period error of slave port `p` (R107, R108, R110). -/
def periodError (s : State) (p : Nat) : State :=
  if s.on (R.SAP_CTRL_MASTER p) ∨ 5 < p then s
  else
    let n := (s.sap p).errRun + 1
    let s := s.setSap p { s.sap p with errRun := n, clean := [] }
    let s := (s.bump (R.SAP_ERRCNT_BLKERR p)).set (R.SAP_IFLG_FRAMEERR p) 1
    let s := (s.set (R.SAP_STAT_FRAMELOCK p) 0).setB (R.SAP_STAT_BCLKACT p) (s.on (R.SAP_CTRL_EN p))
    if 3 ≤ n ∧ portLive s p ≠ [] then stallPort s p 2 else glitch s p

/-- A frame that context `c` of an enabled slave port takes or sends on time: it ends a run of period errors (R110),
BCLK has edges, and at the eighth in a row the port has frame lock (R115). DEDUCED, notes/assumptions/29.md. -/
def cleanFrame (s : State) (c : Nat) : State :=
  let p := s.cInst c
  if s.cType c = 1 ∧ !s.on (R.SAP_CTRL_MASTER p) ∧ s.on (R.SAP_CTRL_EN p) then
    let n := min 8 (Map.get 0 (s.sap p).clean c + 1)
    let s := s.setSap p { s.sap p with errRun := 0, clean := Map.set 0 (s.sap p).clean c n }
    let s := s.set (R.SAP_STAT_BCLKACT p) 1
    if n = 8 then s.set (R.SAP_STAT_FRAMELOCK p) 1 else s
  else s

/-- BCLK or FSYNC of a slave port is missing, or its BCLK is lost: its flags, then the stall of its contexts
(R109, R110). DEDUCED, notes/assumptions/29.md. -/
def stallDetected (s : State) (p : Nat) (loss : Bool) : State :=
  if s.on (R.SAP_CTRL_MASTER p) then s
  else
    let s := (s.set (R.SAP_STAT_FRAMELOCK p) 0).setSap p { s.sap p with clean := [] }
    let s := if loss then s.set (R.SAP_STAT_BCLKACT p) 0 else s
    stallPort s p (if loss then 1 else 2)

/-- R114 for one stalled context of a port: the new rate `r` (1/16 Hz) is taken over where it lies in the converter's
range and passes the slot limit of R94, or the cause becomes 3. -/
def rateChange (s : State) (c r : Nat) : State :=
  let x := s.ctx c
  let fits := decide (frameLen s (s.cInst c) * r ≤ 49152000 * 16)
  if s.on (R.CTX_OPT_AUTORATE c) ∧ s.cRecon c = 2 ∧ rateInRange s r ∧ fits then
    s.setCtx c { x with resumeOnLock := true, conv := { x.conv with inRate := r, locked := false, retune := true } }
  else
    let s := s.setCtx c { x with cause := 3, resume := false, resumeOnLock := false }
    let s := s.set R.STRM_IFLG_RATECHG 1
    if s.cType c = 1 then s.set (R.SAP_IFLG_RATECHG (s.cInst c)) 1 else s

/-- A 256-frame measurement of slave port `p` ends with rate `r` (R106, R113, R114). -/
def measured (s : State) (p r : Nat) : State :=
  if s.on (R.SAP_CTRL_MASTER p) ∨ 5 < p then s
  else
    let s := s.set (R.SAP_MEASRATE_RATE p) r
    let s := (s.set (R.SAP_STAT_FRAMELOCK p) 1).set (R.SAP_STAT_BCLKACT p) 1
    let s := s.setSap p { s.sap p with errRun := 0 }
    let f := s.get (R.SAP_FRATE_RATE p)
    let close := decide (((r : Int) - f).natAbs * 1000 ≤ f)
    let cs := s.ctxsWhere (fun c => onPort s p c && (s.ctx c).st == .stalled &&
      ((s.ctx c).cause == 1 || (s.ctx c).cause == 2 || (s.ctx c).cause == 4))
    cs.foldl (fun s c =>
      if !close then rateChange s c r
      else if (s.ctx c).cause = 4 then s.updCtx c (fun x => { x with resumeOnLock := true })
      else s.updCtx c (fun x => { x with resume := true })) s

/-! Requests and boundaries. -/

/-- The state a context is in once a request behind an unfinished STOP is applied (R102). -/
def afterReq (canRun : Bool) : CtxSt → Req → CtxSt
  | .idle, .arm => .armed
  | .armed, .arm => .armed
  | .armed, .start => if canRun then .running else .armed
  | .armed, .release => .idle
  | .running, .drain => .draining
  | .running, .stop => .armed
  | .stalled, .stop => .armed
  | .draining, .stop => .armed
  | st, _ => st

/-- The table of R102 allows the request in this state. -/
def allowed : CtxSt → Req → Bool
  | .idle, .arm => true
  | .armed, .arm => true
  | .armed, .start => true
  | .armed, .release => true
  | .running, .stop => true
  | .running, .drain => true
  | .stalled, .stop => true
  | .draining, .stop => true
  | _, _ => false

/-- The context bound to alternate setting `k` of the IN or the OUT interface (R294, R310). -/
def altCtx (s : State) (isIn : Bool) (k : Nat) : Nat :=
  let i := k - 1
  let w := s.get (if isIn then R.USBD_ALTIN_CTX (i / 4) else R.USBD_ALTOUT_CTX (i / 4))
  bits w (8 * (i % 4) + 7) (8 * (i % 4))

/-- Microphones are held by mute or refusal (R204, R209). -/
def micsCut (s : State) : Bool := s.on R.PRIV_STAT_MUTED || s.on R.PRIV_STAT_LIVEFLT

/-- Microphone `m` runs: its clock runs and its settle time is over (R201). -/
def micRuns (s : State) (m : Nat) : Bool :=
  bit (s.get R.PDM_STAT_CLKRUN) (m / 8) && !s.mic.settling.contains m

/-- The start sequence has ended for the microphones a PDM context covers, or mute or refusal holds them
(R103). -/
def micsReady (s : State) (c : Nat) : Bool :=
  micsCut s || (List.range (s.cNch c)).all (fun i => micRuns s (s.cFirst c + i))

/-- The endpoint of context `c` is ready for START (R103, R127). -/
def ready (s : State) (c : Nat) : Bool :=
  let i := s.cInst c
  (match s.cType c with
   | 1 => if s.on (R.SAP_CTRL_MASTER i) then s.on (R.SAP_CTRL_EN i)
          else s.on (R.SAP_CTRL_EN i) && s.on (R.SAP_STAT_FRAMELOCK i)
   | 2 => s.get R.USB_STAT_STATE == 3 &&
      (let k := s.get (if s.cSink c then R.USBD_STAT_ALTIN else R.USBD_STAT_ALTOUT)
       k != 0 && altCtx s (s.cSink c) k == c)
   | 3 => s.on R.RZ_STAT_ALIGN || s.get R.RZ_STAT_ROLE == 3 || s.get R.RZ_STAT_ROLE == 4
   | 4 => micsReady s c
   | _ => true) &&
  (s.cRecon c != 2 || (s.ctx c).conv.locked)

/-- Mode ACTIVE, or IDLE with the path prepared (R396). -/
def pathReady (s : State) : Bool := s.mode == 4 || s.pwr.pathReady

/-- The context may leave ARMED now (R73, R102, R103, R396), the lead of its port apart. -/
def mayRun (s : State) (c : Nat) : Bool :=
  Clkm.mayLeaveArmed s (s.cRecon c == 0) (s.get (R.CTX_FMT_DOMAIN c)) && ready s c && pathReady s

/-- The channels of a context that begins to run: gates that open, the port's gain in force. -/
def openChans (s : State) (c b : Nat) : List Chan :=
  if s.cType c = 1 then
    let p := s.cInst c
    let g := codeOf s p (s.cSink c)
    List.replicate (s.cNch c)
      ⟨if s.on (R.SAP_CTRL_MASTER p) then .rampOpen b else .waitOpen, g, none, none, 0⟩
  else []

/-- A member that leaves RUNNING no longer holds its group's slip (R133, 2). -/
def leaveSlip (s : State) (c : Nat) : State :=
  { s with grp := { s.grp with
      slips := s.grp.slips.map (fun e => (e.1, { e.2 with under := e.2.under.filter (fun u => u.1 != c) })) } }

/-- Enter RUNNING from ARMED at boundary `b` (R97, R99, R102). -/
def enterRunning (s : State) (c b : Nat) : State :=
  (leaveSlip s c).updCtx c (fun x =>
    { x with st := .running, kept := false, startIdx := b % 2 ^ 32, chans := openChans s c b, rampIn := none })

/-- ARMED is reached after a STOP: the frames still held are dropped (R102). -/
def stopped (x : Ctx) : Ctx := toArmed (dropFrames x.fill x)

/-- A STOP ends where every channel's gate has closed (R102). -/
def endStop (x : Ctx) : Ctx :=
  if x.stopping ∧ x.chans.all (fun ch => ch.gate == .closed) then stopped x else x

/-- Begin a STOP at boundary `b`: the gates close, or ARMED is reached at once (R97, R102). -/
def beginStop (s : State) (c b : Nat) : State :=
  let x := s.ctx c
  if s.cType c = 1 ∧ x.chans ≠ [] then
    let cl : Gate → Gate := fun g =>
      if g = .closed then .closed
      else if s.on (R.SAP_CTRL_MASTER (s.cInst c)) then .rampClose b
      else if g = .waitOpen then .closed else .waitClose
    s.setCtx c (endStop { x with stopping := true, chans := x.chans.map (fun ch => { ch with gate := cl ch.gate }) })
  else s.setCtx c (stopped x)

/-- The master clocks of port `p` start at boundary `b` for a kept START (R96). -/
def startClocks (s : State) (b p : Nat) : State :=
  if s.on (R.SAP_CTRL_MASTER p) ∧ s.on (R.SAP_CTRL_EN p) ∧ !s.on (R.SAP_STAT_CLKRUN p) ∧
      (s.ctxsWhere (fun c => onPort s p c && (s.ctx c).kept)) ≠ [] then
    let s := (s.set (R.SAP_STAT_CLKRUN p) 1).set (R.SAP_STAT_LEADTRAIL p) 1
    s.setSap p { s.sap p with startedAt := b, leadDone := false }
  else s

/-- The lead of a master port has passed at boundary `b` (R96). -/
def leadPassed (s : State) (b p : Nat) : State :=
  if s.on (R.SAP_STAT_CLKRUN p) ∧ !(s.sap p).leadDone ∧
      s.get (R.SAP_SEQ_LEAD p) * 16 * s.sysRate ≤ (b - (s.sap p).startedAt) * s.get (R.SAP_FRATE_RATE p) then
    (s.set (R.SAP_STAT_LEADTRAIL p) 0).setSap p { s.sap p with leadDone := true }
  else s

/-- The port runs its clocks past its lead: it is in its trail from the moment no context of it is live or holds a
START (R96). -/
def trailing (s : State) (p : Nat) : State :=
  if s.on (R.SAP_STAT_CLKRUN p) ∧ (s.sap p).leadDone then
    s.set (R.SAP_STAT_LEADTRAIL p)
      (b2n ((s.ctxsWhere (fun c => onPort s p c && (s.live c || (s.ctx c).kept))) == []))
  else s

/-- The clocks of a context's master port run and its lead has passed. -/
def clocksUp (s : State) (c : Nat) : Bool :=
  s.cType c != 1 || !s.on (R.SAP_CTRL_MASTER (s.cInst c)) ||
    (s.on (R.SAP_STAT_CLKRUN (s.cInst c)) && (s.sap (s.cInst c)).leadDone)

/-- Context `c` can enter RUNNING at this boundary. -/
def canStart (s : State) (c : Nat) : Bool := mayRun s c && clocksUp s c

/-- The group has started: a member is RUNNING, STALLED or DRAINING (R131). -/
def grpStarted (s : State) (g : Nat) : Bool := (s.ctxsWhere (fun c => member s g c && s.live c)) != []

/-- STARTAT of a group. -/
def startAt (s : State) (g : Nat) : Nat :=
  s.get ((R.GRP_STARTAT_IDX 0).win (g + 1)) + 2 ^ 32 * s.get ((R.GRP_STARTAT_IDX 1).win (g + 1))

/-- Kept STARTs take effect at boundary `b`: single contexts and members of a group that has started at
once, a group afresh on its conditions (R102, R131). -/
def startGroup (s : State) (b g : Nat) : State :=
  let ms := s.ctxsWhere (fun c => member s g c && (s.ctx c).st == .armed)
  if ms.any (fun c => (s.ctx c).kept) && !grpStarted s g then
    if ms.all (canStart s) && Map.get 0 s.grp.pend g == 0 && decide (startAt s g ≤ b) then
      let s := ms.foldl (fun s c => enterRunning s c b) s
      let s := s.set ((R.GRP_STARTIDX_IDX 0).win (g + 1)) (b % 2 ^ 32)
      let s := s.set ((R.GRP_STARTIDX_IDX 1).win (g + 1)) (b / 2 ^ 32)
      (s.set (R.GRP_SLIP_SAMPLES.win (g + 1)) 0).set R.GRP_IFLG_START 1
    else s
  else s

/-- Kept STARTs at boundary `b`. -/
def startKept (s : State) (b : Nat) : State :=
  let one := s.ctxsWhere (fun c => (s.ctx c).st == .armed && (s.ctx c).kept &&
    (decide (64 ≤ s.cGroup c) || grpStarted s (s.cGroup c)))
  let s := one.foldl (fun s c => if canStart s c then enterRunning s c b else s) s
  (List.range 64).foldl (fun s g => startGroup s b g) s

/-- A START of context `c` is kept, and takes effect at boundary `b` where its conditions hold: the clocks of a
master port and its lead first (R96), a group together (R102, R131).  A START that names a member of a group that has
started holds for every ARMED member, and each enters RUNNING at its own boundary: the model's choice.
DESIGN CHOICE, notes/assumptions/90.md. -/
def applyStart (s : State) (b c : Nat) : State :=
  let g := s.cGroup c
  let cs := if g < 64 then s.ctxsWhere (fun d => member s g d && (s.ctx d).st == .armed) else [c]
  let s := cs.foldl (fun s d => s.updCtx d (fun y => { y with kept := true })) s
  let s := (List.range 6).foldl (fun s p => leadPassed (startClocks s b p) b p) s
  if g < 64 ∧ !grpStarted s g then startGroup s b g
  else cs.foldl (fun s d => if canStart s d then enterRunning s d b else s) s

/-- Apply one accepted request at boundary `b` (R102); one behind an unfinished STOP stays queued.  RATIO of a converter
that has not locked stands at the nominal ratio from its ARM on, and a STOP, or a DRAIN, of a START that is kept drops
it: the model's choice. DESIGN CHOICE, notes/assumptions/90.md. -/
def applyReq (s : State) (b : Nat) (e : Nat × Req) : State :=
  let c := e.1
  let x := s.ctx c
  if x.stopping then
    { s with strm := { s.strm with reqs := s.strm.reqs ++ [e] } }
  else match e.2, x.st with
  | .arm, .idle | .arm, .armed =>
    s.setCtx c (zeroLedger { toArmed x with
      conv := ⟨false, false, ratioOf s (endpointRate s c), 0, 0, 0, 0, 0, false⟩ })
  | .start, .armed => applyStart s b c
  | .release, .armed => s.setCtx c (toIdle x)
  | .stop, .running | .stop, .stalled | .stop, .draining => beginStop s c b
  | .drain, .running => s.setCtx c { x with st := .draining }
  | .stop, .armed | .drain, .armed => s.setCtx c { x with kept := false }
  | _, _ => s

/-- The accepted requests applied at boundary `b`, in the order accepted (R102). -/
def applyAll (s : State) (b : Nat) : State :=
  s.strm.reqs.foldl (fun s e => applyReq s b e) { s with strm := { s.strm with reqs := [] } }

/-- The state a context will have once the requests accepted so far are applied at the next boundary, those behind an
unfinished STOP after it (R102).  An SRST that stands is not counted: the model's choice.
DESIGN CHOICE, notes/assumptions/90.md. -/
def predicted (s : State) (c : Nat) : CtxSt :=
  let t := applyAll s (s.blk.base + s.blkLen)
  let st := if (t.ctx c).stopping then .armed else (t.ctx c).st
  (t.strm.reqs.filter (fun e => e.1 == c)).foldl (fun st e => afterReq (canStart t c) st e.2) st

/-- A context's gates at boundary `b`, and the end of its STOP (R102). -/
def settle (b len : Nat) (x : Ctx) : Ctx :=
  let x := { x with chans := x.chans.map (settleGate b len)
                    rampIn := match x.rampIn with
                      | some t => if t + len ≤ b then none else some t
                      | none => none }
  endStop (match x.fadeOut with
    | some t => if t + len ≤ b then { x with fadeOut := none, last := [] } else x
    | none => x)

/-- DRAINING contexts whose buffer is empty return to ARMED (R102). -/
def drained (s : State) (c : Nat) : State :=
  let x := s.ctx c
  if x.st = .draining ∧ x.fill = 0 ∧ !x.stopping then (s.setCtx c (toArmed x)).set R.STRM_IFLG_DRAINED 1
  else s

/-- The clock manager's states that hold every converter (R129). -/
def clkHolds (s : State) : Bool :=
  s.get R.CLKM_STAT_STATE == 5 || s.get R.CLKM_STAT_STATE == 6

/-- Stalled contexts that may resume do so at boundary `b` (R113, R114, R130). -/
def resumed (s : State) (b c : Nat) : State :=
  let x := s.ctx c
  if x.st = .stalled ∧ (x.resume ∨ (x.resumeOnLock ∧ x.conv.locked)) then
    let s := s.setCtx c { x with st := .running, resume := false, resumeOnLock := false
                                 rampIn := some b, fade := 0
                                 conv := { x.conv with hold := clkHolds s } }
    let s := s.set R.STRM_IFLG_RESUME 1
    if s.cType c = 1 then s.set (R.SAP_IFLG_RESUME (s.cInst c)) 1 else s
  else s

/-- The group slips that end at boundary `b` (R133, 2 and 3). -/
def endSlips (s : State) (b : Nat) : State :=
  let s := (s.ctxsWhere (fun c => (s.ctx c).st != .running)).foldl leaveSlip s
  let ends := s.grp.slips.filter (fun e =>
    e.2.under.all (fun u => decide (u.2 ≤ (s.ctx u.1).fill)))
  let s := ends.foldl (fun s e =>
    let s := s.addSat (R.GRP_SLIP_SAMPLES.win (e.1 + 1)) (b - e.2.since)
    let ms := s.ctxsWhere (fun c => member s e.1 c && (s.ctx c).st == .running)
    (ms.foldl (fun s c => s.updCtx c (fun x => { x with rampIn := some b })) s).set R.GRP_IFLG_RESUME 1) s
  { s with grp := { s.grp with slips := s.grp.slips.filter (fun e => !ends.any (fun d => d.1 == e.1)) } }

/-- SRST of a context that is not IDLE at boundary `b`: IDLE, and a sink fades its last frame out over one block
(R102). -/
def srstOne (s : State) (b c : Nat) : State :=
  let x := s.ctx c
  let y := resetIdle x
  s.setCtx c (if s.cSink c ∧ x.st.live then { y with last := x.last, fadeOut := some b } else y)

/-- STRM.CTRL.SRST at a boundary: every context that is not IDLE returns to IDLE (R102).  The requests accepted in the
same block are dropped with it, whether they came before or after it: the model's choice.
DESIGN CHOICE, notes/assumptions/90.md. -/
def srstAll (s : State) (b : Nat) : State :=
  if s.strm.srst then
    let s := s.ctxNums.foldl (fun s c => srstOne s b c) s
    { s with strm := { s.strm with srst := false, reqs := [] } }
  else s

/-- The flags of the STEER context and of running converters that the clock manager's tables read. -/
def noteRecon (s : State) : State :=
  { s with asrc := { s.asrc with
      steerRunning := (s.ctxsWhere (fun c => (s.ctx c).st == .running && s.cRecon c == 1)) != []
      frozen := s.asrc.frozen && (s.ctxsWhere (fun c => s.cRecon c == 1 &&
        ((s.ctx c).st == .running || (s.ctx c).st == .stalled))) != []
      reconRunning := (s.ctxsWhere (fun c => (s.ctx c).st == .running && s.cRecon c != 0)) != [] } }

/-- Step 2 of boundary `b` (R15, R102): gates and STOPs, requests in the order accepted, drained and
resumed contexts, clocks, kept STARTs, the ends of group slips. -/
def step2 (s : State) (b : Nat) : State :=
  let s := srstAll s b
  let s := endSlips s b
  let s := s.ctxNums.foldl (fun s c => s.updCtx c (settle b s.blkLen)) s
  let s := s.ctxNums.foldl drained s
  let s := s.ctxNums.foldl (fun s c => resumed s b c) s
  let s := applyAll ((List.range 6).foldl (fun s p => leadPassed s b p) s) b
  let s := (List.range 6).foldl (fun s p => leadPassed (startClocks s b p) b p) s
  noteRecon ((List.range 6).foldl trailing (startKept s b))

/-- Step 1 of boundary `b` for the contexts (R15, R18). -/
def step1 (s : State) (b : Nat) : State := s.ctxNums.foldl (fun s c => s.updCtx c (publish b)) s

/-- The port's trail ends: no context of the port runs or holds a START (R96). -/
def trailEnd (s : State) (p : Nat) : State :=
  if s.on (R.SAP_STAT_CLKRUN p) ∧
      (s.ctxsWhere (fun c => onPort s p c && (s.live c || (s.ctx c).kept))) = [] then
    ((s.set (R.SAP_STAT_CLKRUN p) 0).set (R.SAP_STAT_LEADTRAIL p) 0).setSap p
      { s.sap p with leadDone := false }
  else s

/-- A channel's zero-crossing timeout (R97, R98). -/
def zcTimeout (s : State) (c ch : Nat) : State :=
  let x := s.ctx c
  let t := s.sampIdx
  let hit := x.chans.getD ch ⟨.closed, 0, none, none, 0⟩
  if s.cType c = 1 ∧ ch < x.chans.length ∧
      (hit.gate = .waitOpen ∨ hit.gate = .waitClose ∨ hit.next ≠ none) then
    let new := { hit with
      gate := match hit.gate with
        | .waitOpen => .rampOpen t
        | .waitClose => .rampClose t
        | g => g
      gain := hit.next.getD hit.gain
      ramp := if hit.next = none then hit.ramp else some (t, hit.gain)
      next := none }
    (s.setCtx c { x with chans := x.chans.set ch new }).set (R.SAP_IFLG_ZCTO (s.cInst c)) 1
  else s

/-- A committed PGAIN reaches the channels of the port's contexts (R98). -/
def gainCommitted (s : State) (p : Nat) : State :=
  (s.ctxsWhere (onPort s p)).foldl (fun s c =>
    let g := codeOf s p (s.cSink c)
    s.updCtx c (fun x => { x with chans := x.chans.map (fun ch =>
      { ch with next := if g = ch.gain then none else some g }) })) s

/-- A converter locks (R127), on a master port while its clocks run (R96).  Its ratio is the measured one; a converter
that holds keeps its last tracked ratio (R129), unless it locks first after its ARM or to a rate that AUTO_RATE has
taken over (R114). -/
def convLock (s : State) (c ratio : Nat) : State :=
  let x := s.ctx c
  let p := s.cInst c
  let run := s.cType c != 1 || !s.on (R.SAP_CTRL_MASTER p) || s.on (R.SAP_STAT_CLKRUN p)
  if s.cRecon c = 2 ∧ x.st ≠ .idle ∧ ratioInRange ratio ∧ run then
    let s := s.set R.ASRC_IFLG_LOCK 1
    let keeps := x.conv.hold && !x.conv.retune && (x.conv.locked || x.st != .armed)
    s.setCtx c { x with conv := { x.conv with
      locked := true, retune := false, ratio := if keeps then x.conv.ratio else ratio } }
  else s

/-- The measured ratio of a RUNNING ASRC context leaves 1/16 to 16 (R130); the check of a slave port comes before the
resume.  A PDM context never enters STALLED (R199). -/
def rangeExit (s : State) (c : Nat) : State :=
  if s.cRecon c = 2 ∧ (s.ctx c).st = .running ∧ s.cType c ≠ 4 then
    let s := (stall s c 4).set R.ASRC_IFLG_RANGE 1
    s.updCtx c (fun x => { x with
      resumeOnLock := s.cType c != 1 || s.on (R.SAP_CTRL_MASTER (s.cInst c))
      conv := { x.conv with locked := false, retune := false } })
  else s

/-- A converter's hold follows its reasons; an entry is flagged and counted (R129, R137). -/
def followHold (s : State) (c : Nat) : State :=
  let x := s.ctx c
  if s.cRecon c = 2 ∧ x.st ≠ .idle then
    let h := x.st == .stalled || clkHolds s
    let s := if h ∧ !x.conv.hold then (s.set R.ASRC_IFLG_HOLD 1).bump R.ASRC_ERRCNT_BLKERR else s
    s.setCtx c { x with conv := { x.conv with hold := h } }
  else s

/-- Every converter follows the clock manager and its context (R129). -/
def followHolds (s : State) : State := s.ctxNums.foldl followHold s

/-- A tracked ratio of a converter that is not held (R128): the measured ratio with a trim of at most
100 ppm. -/
def trackRatio (s : State) (c ratio : Nat) (trim : Int) : State :=
  let x := s.ctx c
  if s.cRecon c = 2 ∧ x.st = .running ∧ x.conv.locked ∧ !x.conv.hold ∧ ratioInRange ratio then
    let lim : Int := (ratio : Int) * 100 / 1000000
    s.setCtx c { x with conv := { x.conv with ratio := ((ratio : Int) + clampInt (-lim) lim trim).toNat } }
  else s

/-! The steering loop (R124, R125). -/

/-- STEERLIM in units of 0.01 ppb. -/
def steerLim (s : State) : Int := s.get R.ASRC_STEERLIM_LIM * 10000

/-- e(b) of context `c`. -/
def steerErr (s : State) (c : Nat) : Int := ((s.ctx c).fill : Int) - (s.cBufLen c / 2 : Nat)

/-- The proportional term KP × e, in units of 0.01 ppb. -/
def steerProp (s : State) (e : Int) : Int := s.get R.ASRC_STEERCFG_KP * e * 100

/-- One update of the loop for the STEER context `c`. -/
def steerStep (s : State) (c : Nat) : State :=
  let e := steerErr s c
  let sg : Int := if s.cSink c then -1 else 1
  let i2 := s.asrc.integ + s.get R.ASRC_STEERCFG_KI * e
  let u2 := sg * (steerProp s e + i2)
  let cur := s.geti R.ASRC_STEEROUT_U
  let atClamp := (cur = steerLim s ∧ 0 < sg * e) ∨ (cur = - steerLim s ∧ sg * e < 0)
  let held := decide ((s.ctx c).st = .stalled) || s.get R.CLKM_STAT_STATE == 5 ||
    s.get R.CLKM_STAT_SELREF != 11 || decide atClamp
  let s := s.seti R.ASRC_STEERERR_E e
  if held then { s with asrc := { s.asrc with frozen := true } }
  else
    let s := s.seti R.ASRC_STEEROUT_U (clampInt (- steerLim s) (steerLim s) u2)
    { s with asrc := { s.asrc with integ := i2, frozen := false } }

/-- At the boundary where the STEER context enters RUNNING, I is preset so that u equals the DPLL
offset (R124). -/
def steerPreset (s : State) (c : Nat) : State :=
  let sg : Int := if s.cSink c then -1 else 1
  let u := s.geti R.CLKM_DPLLOFF_OFF
  let s := s.seti R.ASRC_STEEROUT_U (clampInt (- steerLim s) (steerLim s) u)
  let s := s.seti R.ASRC_STEERERR_E (steerErr s c)
  { s with asrc := { s.asrc with integ := sg * u - steerProp s (steerErr s c) } }

/-! What the balls of a port carry (R92, R93, R95): read from the state, changed by nothing of their own. -/

/-- Data and FSYNC are sampled on the rising edge of BCLK, and launched on the other (R92). -/
def samplesRising (s : State) (p : Nat) : Bool := !s.on (R.SAP_FMT_BCLKPOL p)

/-- The level of FSYNC at the sampling edge `b` BCLK after the frame edge (R93). -/
def fsyncHigh (s : State) (p b : Nat) : Bool :=
  let l := frameLen s p
  let half := decide (b % l < l / 2)
  let up := match s.get (R.SAP_FMT_MODE p) with
    | 0 => if s.on (R.SAP_FMT_FSW p) then half else b % l == 0
    | 1 => !half
    | _ => half
  up != s.on (R.SAP_FMT_FSPOL p)

/-- The slot and its data bit, counted from the most significant, that BCLK `b` after the frame edge carries; `none`
where it carries no data bit (R92). -/
def dataBit (s : State) (p b : Nat) : Option (Nat × Nat) :=
  let l := frameLen s p
  let sw := widthOf (s.get (R.SAP_FMT_SWIDTH p))
  let dw := widthOf (s.get (R.SAP_FMT_DWIDTH p))
  let start := match s.get (R.SAP_FMT_MODE p) with
    | 0 => s.get (R.SAP_FMT_OFFSET p)
    | 1 => 1
    | _ => 0
  let pos := (b + l - start % l) % l
  let pad := if s.get (R.SAP_FMT_MODE p) = 3 then sw - dw else 0
  let j := pos % sw
  if pad ≤ j ∧ j < pad + dw then some (pos / sw, j - pad) else none

/-- What SAPn_DOUT drives in slot `k` of a frame: the top DWIDTH bits of the word of the sink bound to the slot; in
every other slot Hi-Z (`none`) with TRI set, else zeros (R95). -/
def dout (s : State) (p k : Nat) : Option Nat :=
  match s.ctxsWhere (fun c => onPort s p c && s.cSink c && (s.live c || (s.ctx c).fadeOut.isSome) &&
      decide (s.cFirst c ≤ k) && decide (k < s.cFirst c + s.cNch c)) with
  | c :: _ =>
    some (((onWire s c).getD (k - s.cFirst c) 0).toNat / 2 ^ (32 - widthOf (s.get (R.SAP_FMT_DWIDTH p))))
  | [] => if s.on (R.SAP_CTRL_TRI p) then none else some 0

end Sys2Proof.Machine.Strm
end

