-- ==== Sys2Proof/Machine/MtxOps.lean ====
section
/-! DEFINITION. The routing matrix (R139 to R156): coefficients and their changes, one sample period,
the half swap and the meters. -/
namespace Sys2Proof.Machine.Mtx
open Sys2Proof Sys2Proof.Machine

/-- The active half of MXT. -/
def active (s : State) : FMap Nat := if s.on R.MTX_STAT_HALF then s.mtx.half1 else s.mtx.half0

/-- Store a half of MXT: `true` for half 1. -/
def putHalf (s : State) (h : Bool) (m : FMap Nat) : State :=
  if h then { s with mtx := { s.mtx with half1 := m } } else { s with mtx := { s.mtx with half0 := m } }

/-- The signed coefficient of an entry (R143, R144). -/
def coefOf (e : Nat) : Int :=
  let m : Int := Strm.coef (bits e 11 0)
  if bit e 12 then -m else m

/-- Round to the nearest integer, halves away from zero. -/
def roundAway (n : Int) (d : Nat) : Int :=
  if 0 ≤ n then (2 * n + d) / (2 * d) else -((2 * (-n) + d) / (2 * d))

/-- The coefficient in force of crosspoint `e` (R151). -/
def inForce (s : State) (e : Nat) : Int :=
  let c1 := coefOf (Map.get 0 (active s) e)
  match Map.get (none : Option XChg) (s.mtx.chg.map (fun p => (p.1, some p.2))) e with
  | none => c1
  | some x => if x.waiting ∨ x.len = 0 then x.c0 else roundAway (x.c0 * x.len + (c1 - x.c0) * x.n) x.len

/-- The number of outputs computed (R146). -/
def outputs (s : State) : Nat := if s.highRate then 64 else 128

/-- The crosspoints of a row that can carry a coefficient: every other one is muted and stays at 0. -/
def rowKeys (s : State) (o : Nat) : List Nat :=
  (((active s).map (fun p => p.1)) ++ (s.mtx.chg.map (fun p => p.1))).eraseDups.filter
    (fun e => decide (96 * o ≤ e) && decide (e < 96 * o + 96))

/-- One output sample before saturation (R145): the accumulator and its rounding. -/
def mac (s : State) (x : Nat → Sample) (o : Nat) : Int :=
  ((rowKeys s o).foldl (fun (a : Int) e => a + (x (e - 96 * o)).toInt * inForce s e / 2 ^ 19) 0 + 8) / 16

/-! Bindings (R139 to R141). -/

/-- The window of MTX.MAP for a side (0: MI, 1: MO) and an index. -/
def mapWin (side i : Nat) : Nat := 1 + 128 * side + i

/-- The active MAP entry of a side and index: enable, context, channel. -/
def mapEn (s : State) (side i : Nat) : Bool := s.on (R.MTX_MAP_EN.win (mapWin side i))
def mapCtx (s : State) (side i : Nat) : Nat := s.get (R.MTX_MAP_CTX.win (mapWin side i))
def mapCh (s : State) (side i : Nat) : Nat := s.get (R.MTX_MAP_CH.win (mapWin side i))

/-- A context of TYPE `t` that is not IDLE covers MI or MO `i`. -/
def coveredBy (s : State) (t i : Nat) : List Nat :=
  s.ctxsWhere (fun c => !s.idle c && s.cType c == t && decide (s.cFirst c ≤ i) &&
    decide (i < s.cFirst c + s.cNch c))

/-- The frames that the matrix reads in a sample period, of those passed: a context that is not RUNNING is read as
zeros, and is not listed (R104, R139). -/
def reads (s : State) (fs : List (Nat × Frame)) : FMap Frame :=
  (fs.filter (fun e => (s.ctx e.1).st == .running && (!s.cSink e.1 || s.cType e.1 == 11))).foldl
    (fun m e => Map.set [] m e.1 e.2) []

/-- The sample of MI `i` from the frames of a sample period (R139). -/
def input (s : State) (fs : FMap Frame) (i : Nat) : Sample :=
  if mapEn s 0 i then (Map.get [] fs (mapCtx s 0 i)).getD (mapCh s 0 i) 0
  else
    match coveredBy s 11 i with
    | c :: _ => (Map.get [] fs c).getD (i - s.cFirst c) 0
    | [] => 0

/-- Tap `k` as the active registers give it: enabled, output, context, channel (R155). -/
def tap (s : State) (k : Nat) : Bool × Nat × Nat × Nat :=
  (s.on (R.MTX_TAP_EN k), s.get (R.MTX_TAP_MO k), s.get (R.MTX_TAP_CTX k), s.get (R.MTX_TAP_CH k))

/-- The (output, channel) pairs that the matrix writes into context `c` (R140, R155). -/
def feeds (s : State) (c : Nat) : List (Nat × Nat) :=
  ((List.range (outputs s)).filter (fun o => mapEn s 1 o && mapCtx s 1 o == c)).map (fun o => (o, mapCh s 1 o))
  ++ ((List.range 16).filter (fun k => (tap s k).1 && (tap s k).2.2.1 == c &&
      decide ((tap s k).2.1 < outputs s))).map (fun k => ((tap s k).2.1, (tap s k).2.2.2))

/-- The sinks the matrix writes: those an enabled MO entry or tap names (R140). -/
def sinks (s : State) : List Nat :=
  s.ctxsWhere (fun c => s.cSink c && feeds s c != [])

/-- The frame the matrix writes into sink `c`; channels that nothing names carry 0 (R140). -/
def sinkFrame (s : State) (ys : List Sample) (c : Nat) : Frame :=
  (List.range (s.cNch c)).map (fun ch =>
    match (feeds s c).find? (fun p => p.2 == ch) with
    | some p => ys.getD p.1 0
    | none => 0)

/-- Advance the crosspoint changes by one sample (R151), the inputs being `x`. -/
def advanceChanges (s : State) (x : Nat → Sample) : State :=
  let step : Nat × XChg → Option (Nat × XChg) := fun p =>
    let i := p.1 % 96
    let c := p.2
    let go := if c.waiting then Strm.crosses (Map.get 0 s.mtx.prev i) (x i) else true
    if !go then some p
    else if c.len = 0 ∨ c.len ≤ c.n then none
    else some (p.1, { c with waiting := false, n := c.n + 1 })
  { s with mtx := { s.mtx with chg := s.mtx.chg.filterMap step } }

/-- STAT.RAMP and STAT.ZCPEND (R151). -/
def note (s : State) : State :=
  (s.setB R.MTX_STAT_RAMP (s.mtx.chg.any (fun p => !p.2.waiting))).setB R.MTX_STAT_ZCPEND
    (s.mtx.chg.any (fun p => p.2.waiting))

/-- One output's saturation and meters (R145, R154). -/
def meter (s : State) (o : Nat) (y : Int) : State :=
  let v := (satSample y).toInt.natAbs
  let m := Map.get (0, 0) s.mtx.met o
  let s := { s with mtx := { s.mtx with met := Map.set (0, 0) s.mtx.met o (max m.1 v, m.2 + v * v) } }
  if y < -2147483648 ∨ 2147483647 < y then
    let s := (s.setBit (R.MTX_SAT_SAT (o / 32)) (o % 32) true).set R.MTX_IFLG_SAT 1
    { s with mtx := { s.mtx with satBlk := true } }
  else s

/-- One sample period of the matrix (R139, R145, R146, R151, R155).  The frames passed are kept for the next block's pass;
the inputs are those of the same period of the block that was complete at the last boundary (R19), and the frames made
of them go into the matrix's sinks and TYPE 12 contexts. DEDUCED, notes/assumptions/92.md. -/
def period (s : State) (fs : List (Nat × Frame)) : State :=
  let m := s.mtx.work.headD []
  let s := { s with mtx := { s.mtx with work := s.mtx.work.tail, gather := s.mtx.gather ++ [reads s fs] } }
  let xs := (List.range 96).map (input s m)
  let x : Nat → Sample := fun i => xs.getD i 0
  let s := advanceChanges s x
  let ys0 := (List.range (outputs s)).map (fun o => if s.mtx.en then mac s x o else 0)
  let s := (ys0.zipIdx).foldl (fun s p => if p.1 = 0 then s else meter s p.2 p.1) s
  let ys := ys0.map satSample
  let s := (sinks s).foldl (fun s c => Strm.deliver s c (sinkFrame s ys c)) s
  let t12 := s.ctxsWhere (fun c => s.cType c == 12 && !s.idle c)
  let s := t12.foldl (fun s c => Strm.arrive s c
    ((List.range (s.cNch c)).map (fun k => ys.getD (s.cFirst c + k) 0))) s
  let s := { s with mtx := { s.mtx with
    prev := xs.zipIdx.foldl (fun m p => Map.set 0 m p.2 p.1) s.mtx.prev } }
  note s

/-! Swaps (R148 to R153). -/

/-- RAMPSEL as a ramp length in samples (R143). -/
def rampLen (s : State) (e : Nat) : Nat :=
  match bits e 15 14 with
  | 0 => 0
  | 1 => s.blkLen
  | 2 => 8 * s.blkLen
  | _ => 64 * s.blkLen

/-- Put a 32-bit MXT word into a half: two entries (R26, R142). -/
def putWord (m : FMap Nat) (addr d : Nat) : FMap Nat :=
  let e := (addr - 0x200000) / 2
  Map.set 0 (Map.set 0 m e (d % 65536)) (e + 1) (d / 65536 % 65536)

/-- The entries become those of `new`: a changed crosspoint starts its change from the coefficient in
force, an unchanged one keeps its own (R151 to R153). -/
def changeTo (s : State) (new : FMap Nat) : State :=
  let old := active s
  let keys := ((old.map (fun p => p.1)) ++ (new.map (fun p => p.1))).eraseDups
  let changed := keys.filter (fun e => Map.get 0 old e != Map.get 0 new e)
  let chg := changed.foldl (fun (m : FMap (Option XChg)) e =>
    let w := Map.get 0 new e
    let len := rampLen s w
    if len = 0 ∧ !bit w 13 then Map.erase e m
    else Map.set none m e (some ⟨inForce s e, 0, len, bit w 13⟩))
    (s.mtx.chg.map (fun p => (p.1, some p.2)))
  { s with mtx := { s.mtx with chg := chg.filterMap (fun p => p.2.map (fun x => (p.1, x))) } }

/-- The halves swap at a boundary with the staged MXT words `ws` (address, value); the refill of the
other half begins (R148, R150). -/
def swap (s : State) (ws : List (Nat × Nat)) : State :=
  let new := ws.foldl (fun m p => putWord m p.1 p.2) (active s)
  let s := changeTo s new
  let h := !s.on R.MTX_STAT_HALF
  let s := (putHalf s h new).setB R.MTX_STAT_HALF h
  let s := (s.set R.MTX_STAT_REFILL 1).set R.MTX_IFLG_SWAP 1
  note { s with mtx := { s.mtx with swapDue := false } }

/-- The refill completes: the inactive half is a copy of the active one with the words `ws` staged since
(R148). -/
def refillDone (s : State) (ws : List (Nat × Nat)) : State :=
  if s.on R.MTX_STAT_REFILL then
    let copy := ws.foldl (fun m p => putWord m p.1 p.2) (active s)
    (putHalf s (!s.on R.MTX_STAT_HALF) copy).set R.MTX_STAT_REFILL 0
  else s

/-- A crosspoint change finds no zero crossing: it starts with its own ramp, or a 1-block ramp (R151). -/
def zcTimeout (s : State) (e : Nat) : State :=
  if s.mtx.chg.any (fun p => p.1 == e && p.2.waiting) then
    let f : Nat × XChg → Nat × XChg := fun p =>
      if p.1 = e ∧ p.2.waiting then
        (p.1, { p.2 with waiting := false, len := if p.2.len = 0 then s.blkLen else p.2.len })
      else p
    note ({ s with mtx := { s.mtx with chg := s.mtx.chg.map f } }.set R.MTX_IFLG_ZCTO 1)
  else s

/-- A ramp whose last sample has been computed is over (R151). -/
def rampEnd (s : State) (e : Nat) : State :=
  note { s with mtx := { s.mtx with chg := s.mtx.chg.filter (fun p =>
    !(p.1 == e && !p.2.waiting && decide (p.2.len ≤ p.2.n))) } }

/-- Every change is completed at once (R156, on entry to STANDBY or LISTEN). -/
def completeAll (s : State) : State := note { s with mtx := { s.mtx with chg := [] } }

/-! Meters (R154). -/

/-- The integer square root, bit by bit. -/
def isqrt (n : Nat) : Nat → Nat → Nat
  | 0, acc => acc
  | k + 1, acc => if (acc + 2 ^ k) * (acc + 2 ^ k) ≤ n then isqrt n k (acc + 2 ^ k) else isqrt n k acc

/-- Report the meters of a window of `n` samples that ends at boundary `b`, for the outputs below `os`. -/
def report (s : State) (os n b : Nat) : State :=
  let s := (List.range os).foldl (fun s o =>
    let m := Map.get (0, 0) s.mtx.met o
    let s := s.set (R.MTX_PEAK_PEAK.win (o + 1)) m.1
    let s := s.set (R.MTX_RMS_RMS.win (o + 1)) (if n = 0 then 0 else isqrt (m.2 / n) 32 0)
    s.set (R.MTX_METIDX_IDX.win (o + 1)) (b % 2 ^ 32)) s
  s.set R.MTX_IFLG_METER 1

/-- The meter window at boundary `b` (R154): it ends, or a new METWIN discards it. -/
def meterStep (s : State) (b : Nat) : State :=
  let blk := b / s.blkLen
  let w := s.mtx.metWin
  let w2 := s.get R.MTX_CFG_METWIN
  if w ≠ 0 ∧ blk % w = 0 then
    let s := report s (outputs s) (b - s.mtx.metStart) b
    { s with mtx := { s.mtx with met := [], metStart := b, metWin := w2 } }
  else if w ≠ w2 then { s with mtx := { s.mtx with met := [], metStart := b, metWin := w2 } }
  else s

/-- Step 1 of boundary `b` for the matrix: meters, the count of saturated blocks, and the block of input that is now
complete (R19, R145, R154). -/
def step1 (s : State) (b : Nat) : State :=
  let s := if s.mtx.satBlk then s.bump R.MTX_ERRCNT_BLKERR else s
  let s := { s with mtx := { s.mtx with satBlk := false } }
  let s := meterStep s b
  { s with mtx := { s.mtx with en := s.on R.MTX_CTRL_EN, work := s.mtx.gather, gather := [] } }

end Sys2Proof.Machine.Mtx
end

