-- ==== Sys2Proof/Machine/SchedOps.lean ====
section
/-! DEFINITION. Graphs: reading a header from Thallus, validation, admission, shedding (R160 to R174,
R188), and the kernel sets (R162, R163). -/
namespace Sys2Proof.Machine.Sched
open Sys2Proof Sys2Proof.Machine

/-! The codes of ENGn.STAT.STATE (R194). -/
def OFF : Nat := 0
def SELFTEST : Nat := 1
def ACTIVE : Nat := 2
def DRAINING : Nat := 3
def UPDATING : Nat := 4
def QUARANTINED : Nat := 5

/-- The state of engine `n`. -/
def engState (s : State) (n : Nat) : Nat := s.get (R.ENGN_STAT_STATE n)

/-- The ACTIVE engines, by rising number. -/
def actives (s : State) : List Nat := (List.range 16).filter (fun n => engState s n == ACTIVE)

/-- The ACTIVE count. -/
def nActive (s : State) : Nat := (actives s).length

/-! Kernel sets (R162, R163). -/

/-- The bytes of Thallus a reader sees. -/
def thBytes (s : State) (off n : Nat) : List Byte :=
  (List.range n).map (fun i =>
    if s.eng.ded.contains ((thallus + off + i) / 4 * 4) then 0 else s.byte (thallus + off + i))

/-- Read the image at Thallus offset `o` (R162); `none` where its own header or CRC is wrong. -/
def readImage (s : State) (o : Nat) : Option Kern :=
  let w := fun i => s.thWord (o + i)
  let code := w 0x0C
  let data := w 0x10
  if w 0 = 0x4B524E46 ∧ 0x100 ≤ w 4 ∧ w 4 ≤ 0x1FF ∧ code % 4 = 0 ∧ 4 ≤ code ∧ code ≤ 32768 ∧
      data % 4 = 0 ∧ data ≤ 16384 ∧ w 0x14 % 4 = 0 ∧ w 0x14 ≤ 16384 ∧ w 0x18 ≤ 49152 ∧
      w 0x24 % 4 = 0 ∧ w 0x24 < code ∧ o + 48 + code + data ≤ thallusSize ∧
      crc32 (thBytes s o 0x2C ++ thBytes s (o + 48) (code + data)) = w 0x2C then
    some ⟨w 4, w 0x2C, w 0x1C, w 0x20, w 0x14, w 0x24, thBytes s (o + 48) code, thBytes s (o + 48 + code) data⟩
  else none

/-- All images of a list of offsets, or `none` if one is bad. -/
def readImages (s : State) (base : Nat) : List Nat → Option (List (Kern × Nat))
  | [] => some []
  | o :: os =>
    match readImage s (base + o), readImages s base os with
    | some i, some r => some ((i, o) :: r)
    | _, _ => none

/-- The offsets of a set's images. -/
def imageOffs (s : State) (b : Nat) : List Nat :=
  (List.range (min (s.thWord (b + 4)) 32)).map (fun k => s.thWord (b + 16 + 4 * k))

/-- The bytes of an image: its header, code and data. -/
def Kern.len (k : Kern) : Nat := 48 + k.code.length + k.data.length

/-- The kernel set at Thallus offset `b` (R163): its kernels and SETVER, or `none` if it is invalid. -/
def readSet (s : State) (b : Nat) : Option (List Kern × Nat) :=
  let n := s.thWord (b + 4)
  if b % 64 = 0 ∧ s.thWord b = 0x54534B46 ∧ 1 ≤ n ∧ n ≤ 32 then
    match readImages s b (imageOffs s b) with
    | none => none
    | some is =>
      let len : Nat := is.foldl (fun m i => max m (i.2 + Kern.len i.1)) (16 + 4 * n)
      let kids : List Nat := is.map (fun i => i.1.kid)
      let code : Nat := is.foldl (fun a i => a + i.1.code.length) 0
      let data : Nat := is.foldl (fun a i => a + i.1.data.length) 0
      if kids.eraseDups.length = kids.length ∧ code ≤ 32768 ∧ data ≤ 16384 ∧ b + len ≤ thallusSize ∧
          crc32 (thBytes s b 12 ++ [0, 0, 0, 0] ++ thBytes s (b + 16) (len - 16)) = s.thWord (b + 12) then
        some (is.map (fun i => i.1), s.thWord (b + 8))
      else none
  else none

/-- The reader of a set meets the double-bit errors among its words, each once (R185). DESIGN CHOICE,
notes/assumptions/94.md. DESIGN CHOICE, notes/assumptions/94.md. -/
def meetSet (s : State) (b : Nat) : State :=
  (imageOffs s b).foldl (fun t o =>
    match readImage s (b + o) with
    | some k => t.thMeet (b + o) (Kern.len k)
    | none => t.thMeet (b + o) 48) (s.thMeet b (16 + 4 * (imageOffs s b).length))

/-! Reading a graph (R167 to R169). -/

/-- A word of a buffer list. -/
def readBufW (w : Nat) : BufW :=
  if bit w 31 then ⟨true, bits w 30 26 + 1, bits w 20 16, bits w 4 0⟩
  else ⟨false, bits w 30 26 + 1, 0, bits w 21 0⟩

/-- The raw words of a buffer list: its count and its words, at most 32. -/
def bufWords (s : State) (o : Nat) : Nat × List Nat :=
  let n := s.thWord o
  (n, (List.range (min n 32)).map (fun i => s.thWord (o + 4 + 4 * i)))

/-- Task descriptor `k`. -/
def readTask (s : State) (base k : Nat) : TaskD :=
  let w := fun i => s.thWord (base + 32 * k + i)
  let s01 := w 0x14
  let nx := bits (w 0x18) 31 24
  let xl := bits (w 0x18) 21 0
  { depcnt := bits (w 0) 31 24, shed := bit (w 0) 20, prio := bits (w 0) 19 16, kid := bits (w 0) 15 0
    param := bits (w 4) 21 0
    ins := (bufWords s (bits (w 8) 21 0)).2.map readBufW
    outs := (bufWords s (bits (w 0xC) 21 0)).2.map readBufW
    wcet := w 0x10
    succs := (if bit s01 15 then [bits s01 9 0] else []) ++ (if bit s01 31 then [bits s01 25 16] else [])
      ++ (List.range nx).map (fun i => s.thHalf (xl + 2 * i))
    state := bits (w 0x1C) 21 0, inList := bits (w 8) 21 0, outList := bits (w 0xC) 21 0 }

/-- The graph whose header is at Thallus offset `h`. -/
def readGraph (s : State) (h : Nat) : Graph :=
  let w := fun i => s.thWord (h + i)
  { hdr := h, desc := w 0xC, period := bits (w 4) 19 16 + 1, tokens := w 8
    ports := (List.range (min (w 0x10) 32)).map (fun i =>
      let p := s.thWord (w 0x14 + 4 * i)
      (bit p 31, bits p 7 0))
    tasks := (List.range (bits (w 4) 10 0)).map (readTask s (w 0xC)) }

/-- F, the frames in one period (R161). -/
def frames (s : State) (g : Graph) : Nat := g.period * s.blkLen

/-! Validation (R171). -/

/-- A range of Thallus. -/
def inside (o n : Nat) : Bool := decide (o + n ≤ thallusSize)

/-- Reason 0x1 for one task: a list outside Thallus, or an offset out of alignment. -/
def badPlace (s : State) (base k : Nat) : Bool :=
  let w := fun i => s.thWord (base + 32 * k + i)
  let il := bits (w 8) 21 0
  let ol := bits (w 0xC) 21 0
  let nx := bits (w 0x18) 31 24
  let xl := bits (w 0x18) 21 0
  bits (w 4) 21 0 % 4 != 0 || il % 4 != 0 || ol % 4 != 0 || bits (w 0x1C) 21 0 % 4 != 0 ||
  !inside il (4 + 4 * min (bufWords s il).1 32) || !inside ol (4 + 4 * min (bufWords s ol).1 32) ||
  xl % 2 != 0 || (nx != 0 && !inside xl (2 * nx))

/-- Reason 0x1 for the header. -/
def badHeader (s : State) (h : Nat) : Bool :=
  let w := fun i => s.thWord (h + i)
  !inside h 32 || w 0 != 0x48524746 || w 0xC % 32 != 0 || w 0x14 % 4 != 0 ||
  !inside (w 0xC) (32 * bits (w 4) 10 0) || !inside (w 0x14) (4 * min (w 0x10) 32)

/-- A reserved bit of a buffer word is 1. -/
def badBufBits (w : Nat) : Bool :=
  if bit w 31 then bits w 25 21 != 0 || bits w 15 5 != 0 else bits w 25 22 != 0

/-- Reason 0x2 for one task: a list count out of range, or a reserved field not 0. -/
def badCount (s : State) (base k : Nat) : Bool :=
  let w := fun i => s.thWord (base + 32 * k + i)
  let il := bufWords s (bits (w 8) 21 0)
  let ol := bufWords s (bits (w 0xC) 21 0)
  il.1 == 0 || decide (32 < il.1) || ol.1 == 0 || decide (32 < ol.1) ||
  bits (w 0) 23 21 != 0 || bits (w 4) 31 22 != 0 || bits (w 8) 31 22 != 0 || bits (w 0xC) 31 22 != 0 ||
  bits (w 0x14) 30 26 != 0 || bits (w 0x14) 14 10 != 0 || bits (w 0x18) 23 22 != 0 ||
  bits (w 0x1C) 31 22 != 0 || il.2.any badBufBits || ol.2.any badBufBits

/-- Reason 0x2 for the header. -/
def badShape (s : State) (h : Nat) : Bool :=
  let w := fun i => s.thWord (h + i)
  let n := bits (w 4) 10 0
  n == 0 || decide (1024 < n) || decide (32 < w 0x10) || bits (w 4) 31 20 != 0 ||
  bits (w 4) 15 11 != 0 || w 0x1C != 0 ||
  (List.range (min (w 0x10) 32)).any (fun i => bits (s.thWord (w 0x14 + 4 * i)) 30 8 != 0)

/-- How often task `k` is named as a successor. -/
def named (g : Graph) (k : Nat) : Nat :=
  g.tasks.foldl (fun n t => n + (t.succs.filter (fun j => j == k)).length) 0

/-- Kahn's order of the tasks; shorter than the task list if the successors form a cycle. -/
def topo (g : Graph) : Nat → List Nat → FMap Nat → List Nat
  | 0, _, _ => []
  | _ + 1, [], _ => []
  | n + 1, k :: rest, cnt =>
    let t := (g.tasks.getD k TaskD.zero).succs
    let cnt2 := t.foldl (fun m j => Map.insert j (Map.get 0 m j - 1) (Map.erase j m)) cnt
    let new := t.eraseDups.filter (fun j => Map.get 0 cnt2 j == 0)
    k :: topo g n (rest ++ new) cnt2

/-- The tasks in an order in which every task comes before its successors. -/
def order (g : Graph) : List Nat :=
  let n := g.tasks.length
  let cnt : FMap Nat := (List.range n).map (fun k => (k, named g k))
  topo g n ((List.range n).filter (fun k => named g k == 0)) cnt

/-- Base-2 logarithm, rounded down. -/
def lg (n : Nat) : Nat := Nat.log2 n

/-- The cost of a catalogue kernel in cycles per frame (R161), as a fraction. -/
def cost (kid c : Nat) (p : Nat → Nat) : Nat × Nat :=
  match kid with
  | 0x00 => (c, 1)
  | 0x01 => (c * (p 0 + 2), 2)
  | 0x02 => (c * (3 * p 0 + 2), 1)
  | 0x03 => (c * (3 * p 0 + 4), 1)
  | 0x04 => (c * (p 0 + 8), 2)
  | 0x05 => if p 1 = 0 then (0, 1) else (c * (12 * p 1 + 6 * p 0 + 4 * lg (p 1) * p 1), p 1)
  | 0x06 => (4 * c, 1)
  | 0x07 => (24 * c, 1)
  | 0x08 => (30 * c, 1)
  | 0x09 => (22 * c, 1)
  | 0x0A => (c * 12 * p 0, 1)
  | 0x0B => (20 * c, 1)
  | 0x0C => (4 * p 0 * p 1, 1)
  | 0x0D => ((112 + p 0) * p 0 * p 1, 4)
  | 0x0E => (c * (16 + (if p 2 ≤ 2560 then 190 else 380) * p 0), 1)
  | 0x0F => (260 * c, 1)
  | 0x10 => (320 * c, 1)
  | 0x11 => (40 * c, 1)
  | 0x12 => (60 * c, 1)
  | 0x13 => (900 * c, 1)
  | 0x14 => (18 * c, 1)
  | 0x15 => (6 * c, 1)
  | 0x16 => (5 * c, 1)
  | 0x17 => (c * 3 * lg (p 0), 1)
  | 0x18 => (c * 3 * lg (p 0), 1)
  | 0x19 => (40 * c, 1)
  | 0x1A => (90 * p 0, 1)
  | 0x1B => (35 * c, 1)
  | 0x1C => (c * (p 0 + 56), 2)
  | 0x1D => (20 * c, 1)
  | 0x1E => (c * (8 * p 0 + 20), 1)
  | 0x1F => (3 * c, 1)
  | 0x20 => ((20 + p 0) * p 0, 1)
  | 0x21 => (8 * c, 1)
  | 0x22 => (c, 1)
  | 0x23 => (3 * c, 1)
  | 0x24 => (24 * c, 1)
  | 0x25 => (24 * c, 1)
  | 0x26 => (4 * c, 1)
  | _ => (4 * c, 1)

/-- The WCET of a task is below its bound (R161, R162). -/
def badWcet (s : State) (set : List Kern) (f : Nat) (t : TaskD) : Bool :=
  let c := bits (s.thWord t.param) 23 16
  if t.kid ≤ 0x27 then
    let r := cost t.kid c (fun i => s.thWord (t.param + 4 + 4 * i))
    decide (t.wcet * r.2 < 400 * r.2 + r.1 * f)
  else match set.find? (fun k => k.kid == t.kid) with
    | some k => decide (t.wcet < k.wcfix + (k.wcpf * f * c + 65535) / 65536)
    | none => false

/-- A KID that is neither in the catalogue nor in the set (R160, R171). -/
def badKid (set : List Kern) (t : TaskD) : Bool :=
  !(decide (t.kid ≤ 0x27) ||
    (decide (0x100 ≤ t.kid) && decide (t.kid ≤ 0x1FF) && set.any (fun k => k.kid == t.kid)))

/-- The contexts a running graph produces: its output ports. -/
def produces (g : Graph) : List Nat := (g.ports.filter (fun p => p.1)).map (fun p => p.2)

/-- Reason 0x7: a port context breaks R168 or is produced twice (R140, R171). -/
def badPorts (s : State) (slot : Nat) (g : Graph) : Bool :=
  let f := frames s g
  let outs := produces g
  let others := ((List.range 4).filter (fun k => k != slot)).flatMap (fun k =>
    match (s.slot k).g with
    | some h => produces h
    | none => [])
  outs.eraseDups.length != outs.length ||
  g.ports.zipIdx.any (fun p =>
    let c := p.1.2
    let out := p.1.1
    (if s.cType c = 10 then s.cInst c != slot || s.cFirst c != p.2 || (s.cSink c == out)
     else s.cSink c != out || ((s.cType c == 11 || s.cType c == 12) && s.cInst c != 0)) ||
    decide (s.cBufLen c < 2 * f) ||
    (out && ((s.cSink c && Mtx.feeds s c != []) || others.contains c)))

/-- Reason 0x8 for one task. -/
def badBuf (s : State) (g : Graph) (t : TaskD) : Bool :=
  let bad : Bool → BufW → Bool := fun out b =>
    b.port && (match g.ports[b.at']? with
      | none => true
      | some p => (p.1 != out) || decide (s.cNch p.2 < b.first + b.chans))
  t.ins.any (bad false) || t.outs.any (bad true)

/-- The first task that satisfies `p`. -/
def firstTask (n : Nat) (p : Nat → Bool) : Option Nat := (List.range n).find? p

/-- The set that loaded KIDs of the candidate are checked against (R172). -/
def setFor (s : State) (newset : Bool) : List Kern :=
  if newset then
    match readSet s (s.get R.ENG_KSETBASE_OFF) with
    | some r => r.1
    | none => []
  else s.eng.set

/-- Validation of the graph at header `h` for a slot (R171): the reason and the first offending task, the
lowest reason first; `none` where it passes. -/
def validate (s : State) (slot h : Nat) (newset : Bool) : Option (Nat × Nat) :=
  let g := readGraph s h
  let n := g.tasks.length
  let base := s.thWord (h + 0xC)
  let set := setFor s newset
  let task : Nat → (Nat → Bool) → Option (Nat × Nat) := fun r p => (firstTask n p).map (fun k => (r, k))
  let t : Nat → TaskD := fun k => g.tasks.getD k TaskD.zero
  if badHeader s h then some (1, 0)
  else if badShape s h then (match task 1 (badPlace s base) with | some r => some r | none => some (2, 0))
  else
    (task 1 (badPlace s base)).or <|
    (task 2 (badCount s base)).or <|
    (if g.tokens ≠ g.tasks.foldl (fun a t => a + t.depcnt) 0 then some (3, 0) else none).or <|
    (task 3 (fun k => (t k).depcnt != named g k)).or <|
    (if (order g).length ≠ n ∧ !(g.tasks.any (fun t => t.succs.any (fun j => decide (n ≤ j)))) then some (3, 0)
     else none).or <|
    (task 4 (fun k => (t k).succs.any (fun j => decide (n ≤ j)))).or <|
    (task 5 (fun k => badKid set (t k))).or <|
    (task 6 (fun k => badWcet s set (frames s g) (t k))).or <|
    (if badPorts s slot g then some (7, 0) else none).or <|
    (task 8 (fun k => badBuf s g (t k)))

/-! Admission (R173). -/

/-- tOVH of R159. -/
def tOvh : Nat := 16

/-- W(g): WCET + tOVH over the tasks not shed. -/
def work (g : Graph) (shed : List Nat) : Nat :=
  g.tasks.zipIdx.foldl (fun a p => if shed.contains p.2 then a else a + p.1.wcet + tOvh) 0

/-- CP(g): the largest sum of WCET + tOVH along a chain, shed tasks counted as 0. -/
def critical (g : Graph) (shed : List Nat) : Nat :=
  let m := (order g).reverse.foldl (fun (m : FMap Nat) k =>
    let t := g.tasks.getD k TaskD.zero
    let best := t.succs.foldl (fun b j => max b (Map.get 0 m j)) 0
    Map.insert k (best + (if shed.contains k then 0 else t.wcet + tOvh)) (Map.erase k m)) []
  m.foldl (fun b p => max b p.2) 0

/-- Condition 1 of R173 for one graph, under a DROOP_FLOOR. -/
def cond1 (s : State) (floor : Nat) (g : Graph) (shed : List Nat) : Bool :=
  decide (critical g shed * 16 ≤ g.period * s.blockCycles * floor)

/-- The graphs running in the slots other than `slot`, with their shed tasks. -/
def running (s : State) (slot : Nat) : List (Graph × List Nat) :=
  ((List.range 4).filter (fun k => k != slot)).filterMap (fun k =>
    (s.slot k).g.map (fun g => (g, (s.slot k).shedNext)))

/-- The left side of condition 2. -/
def load (gs : List (Graph × List Nat)) : Nat :=
  gs.foldl (fun a p => a + (work p.1 p.2 + p.1.period - 1) / p.1.period) 0

/-- The right side of condition 2 for `n` engines, under a UTIL_CAP. -/
def capacityAt (s : State) (cap n : Nat) : Nat := s.blockCycles * n * cap / 100

/-- The right side of condition 2 for `n` engines as ADMCFG stands. -/
def capacity (s : State) (n : Nat) : Nat := capacityAt s (s.get R.SCHED_ADMCFG_UTILCAP) n

/-- The running graphs fit on `n` engines with what is shed (R173, R188). -/
def fits (s : State) (n : Nat) : Bool := decide (load (running s 4) ≤ capacity s n)

/-- The engines admission counts on (R173). -/
def admEngines (s : State) : Nat := if s.on R.ENG_STAT_ROLL then nActive s - 1 else nActive s

/-- The outcome of admission for a candidate: reason 0x9 or 0xA, or 0 for ADMITTED. -/
def verdictOf (s : State) (c : Cand) : Nat :=
  let own := match c.graph with
    | some g => [(g, ([] : List Nat))]
    | none => []
  let gs := own ++ running s c.slot
  if !gs.all (fun p => cond1 s c.floor p.1 p.2) then 9
  else if capacityAt s c.cap (admEngines s) < load gs then 10
  else 0

/-- Show a candidate's outcome (R170, R193). -/
def outcome (s : State) (c : Cand) (reason task : Nat) : State :=
  let own := match c.graph with
    | some g => [(g, ([] : List Nat))]
    | none => []
  let s := s.set R.SCHED_ADMSTAT_STATUS (if reason = 0 then 2 else 3)
  let s := (s.set R.SCHED_ADMSTAT_SLOT c.slot).set R.SCHED_ADMSTAT_REASON reason
  let s := s.set R.SCHED_ADMSTAT_TASK task
  let s := s.set R.SCHED_ADMCP_CP (own.foldl (fun a p => a + critical p.1 p.2) 0)
  let s := s.set R.SCHED_ADMW_W (load (own ++ running s c.slot))
  s.set (if reason = 0 then R.SCHED_IFLG_ADMOK else R.SCHED_IFLG_ADMREJ) 1

/-- The ranges of Thallus, offset and length, that the checker reads of the graph at header `h`. -/
def graphRanges (s : State) (h : Nat) : List (Nat × Nat) :=
  let g := readGraph s h
  if badHeader s h then [(h, 32)]
  else
    [(h, 32), (s.thWord (h + 0x14), 4 * g.ports.length), (g.desc, 32 * g.tasks.length)] ++
    g.tasks.zipIdx.flatMap (fun e =>
      let x := s.thWord (g.desc + 32 * e.2 + 0x18)
      [(e.1.inList, 4 + 4 * e.1.ins.length), (e.1.outList, 4 + 4 * e.1.outs.length),
       (bits x 21 0, 2 * bits x 31 24), (e.1.param, if e.1.kid ≤ 0x27 then 16 else 4)])

/-- The checker meets the double-bit errors among the words it reads, each once (R185).
DESIGN CHOICE, notes/assumptions/94.md. -/
def meetGraph (s : State) (c : Cand) : State :=
  let t := if c.newset then meetSet s (s.get R.ENG_KSETBASE_OFF) else s
  (graphRanges s c.hdr).foldl (fun t r => t.thMeet r.1 r.2) t

/-- The checker finishes with the candidate (R170 to R173).  It reads the header, the descriptors and the lists here,
once: a later write of those words of Thallus does not change a graph that has been admitted, which is the model's
choice. DESIGN CHOICE, notes/assumptions/94.md. -/
def check (s : State) : State :=
  match s.eng.cand with
  | none => s
  | some c =>
    if s.get R.SCHED_ADMSTAT_STATUS ≠ 1 then s
    else if c.empty then outcome s c (verdictOf s c) 0
    else
      match validate s c.slot c.hdr c.newset with
      | some r => outcome (meetGraph s c) c r.1 r.2
      | none =>
        let t := meetGraph s c
        let c := { c with graph := some (readGraph s c.hdr) }
        outcome { t with eng := { t.eng with cand := some c } } c (verdictOf s c) 0

/-! Shedding (R188). -/

/-- SHEDDABLE tasks of the running graphs in the order they are shed: lowest PRIO, higher slot, higher
task index. -/
def shedOrder (s : State) : List (Nat × Nat) :=
  let all := (List.range 4).reverse.flatMap (fun k =>
    match (s.slot k).g with
    | some g => (g.tasks.zipIdx.filter (fun p => p.1.shed)).reverse.map (fun p => (k, p.2, p.1.prio))
    | none => [])
  (List.range 16).flatMap (fun pr => (all.filter (fun e => e.2.2 == pr)).map (fun e => (e.1, e.2.1)))

/-- The tasks shed at present. -/
def shedNow (s : State) : List (Nat × Nat) :=
  (shedOrder s).filter (fun e => (s.slot e.1).shedNext.contains e.2)

/-- Mark `sh` as the shed tasks, from the next period of each slot on. -/
def setShed (s : State) (sh : List (Nat × Nat)) : State :=
  (List.range 4).foldl (fun s k =>
    let new := (sh.filter (fun e => e.1 == k)).map (fun e => e.2)
    (s.setSlot k { s.slot k with shedNext := new }).set (R.SCHED_SHEDNOW_COUNT.win (k + 1)) new.length) s

/-- Shed one task after another, in the order of R188, until the running graphs fit on `n` engines; what is shed
already stays shed.  With every SHEDDABLE task shed and no fit: OVERLOAD. -/
def shedMore (s : State) (n : Nat) : State :=
  let cur := shedNow s
  let rest := (shedOrder s).filter (fun e => !cur.contains e)
  match (List.range (rest.length + 1)).find? (fun k => fits (setShed s (cur ++ rest.take k)) n) with
  | some k => setShed s (cur ++ rest.take k)
  | none => (setShed s (cur ++ rest)).set R.SCHED_IFLG_OVERLOAD 1

/-- Restore shed tasks in the reverse order while the running graphs still fit on `n` engines (R188). -/
def shedLess (s : State) (n : Nat) : State :=
  let cur := shedNow s
  match (List.range (cur.length + 1)).find? (fun k => fits (setShed s (cur.take k)) n) with
  | some k => setShed s (cur.take k)
  | none => s

/-- Re-check the running graphs after a change of the ACTIVE count; `rose`: it has risen (R188). -/
def shedEval (s : State) (rose : Bool) : State :=
  let n := nActive s
  let t := if !fits s n then shedMore s n else if rose then shedLess s n else s
  if shedNow t = shedNow s then t else t.set R.SCHED_IFLG_SHED 1

/-- Re-apply admission to an ADMITTED candidate, under ADMCFG as it now stands (R173, R174). -/
def readmit (s : State) : State :=
  match s.eng.cand with
  | some c =>
    if s.get R.SCHED_ADMSTAT_STATUS = 2 then
      let c := { c with floor := s.get R.SCHED_ADMCFG_DROOPFLOOR, cap := s.get R.SCHED_ADMCFG_UTILCAP }
      let s := { s with eng := { s.eng with cand := some c } }
      if verdictOf s c = 0 then s else outcome s c (verdictOf s c) 0
    else s
  | none => s

/-- What follows a change of the ACTIVE count (R174, R188). -/
def activeChanged (s : State) (rose : Bool) : State := readmit (shedEval s rose)

end Sys2Proof.Machine.Sched
end

