-- ==== Sys2Proof/Machine/EngOps.lean ====
section
/-! DEFINITION. Engines: deques, tasks, periods, switches, quarantine, the rolling update and the droop
steps (R175 to R190, R192 to R194). -/
namespace Sys2Proof.Machine.Sched
open Sys2Proof Sys2Proof.Machine

/-- Push a job at the tail of engine `n`'s deque, or onto the overflow list when it is full (R177). -/
def pushTail (s : State) (n : Nat) (j : Job) : State :=
  let e := s.engine n
  if e.deque.length < 64 then s.setEngine n { e with deque := e.deque ++ [j] }
  else { s with eng := { s.eng with overflow := s.eng.overflow ++ [j] } }

/-- Push a job at the head of engine `n`'s deque, or onto the overflow list when it is full (R179). -/
def pushHead (s : State) (n : Nat) (j : Job) : State :=
  let e := s.engine n
  if e.deque.length < 64 then s.setEngine n { e with deque := j :: e.deque }
  else { s with eng := { s.eng with overflow := s.eng.overflow ++ [j] } }

/-- Give jobs to the ACTIVE engines in turn, or to the overflow list if there are none.  They go to the tails of the
deques, and the turn begins with the lowest engine each time: the model's choice. DEDUCED, notes/assumptions/76.md. -/
def spread (s : State) (except : Nat) (js : List Job) : State :=
  let es := (actives s).filter (fun n => n != except)
  js.zipIdx.foldl (fun s p =>
    if es = [] then { s with eng := { s.eng with overflow := s.eng.overflow ++ [p.1] } }
    else pushTail s (es.getD (p.2 % es.length) 0) p.1) s

/-- A task of a slot. -/
def taskOf (s : State) (k t : Nat) : TaskD :=
  match (s.slot k).g with
  | some g => g.tasks.getD t TaskD.zero
  | none => TaskD.zero

/-- The tokens a completed task passes on (R179): the slot with its counts lowered, and the successors
that became ready, in the order they did. -/
def passTokens (sl : Slot) (succs : List Nat) : Slot × List Nat :=
  succs.foldl (fun (a : Slot × List Nat) j =>
    let c := a.1.cnt.getD j 0
    let sl := { a.1 with cnt := a.1.cnt.set j (c - 1), used := a.1.used + 1 }
    (sl, if c = 1 then a.2 ++ [j] else a.2)) (sl, [])

/-- The words of an intermediate buffer of F frames: channel-interleaved samples (R169). -/
def midWords (f : Nat) (b : BufW) (fs : List Frame) : List Nat :=
  (List.range f).flatMap (fun i => (List.range b.chans).map (fun ch => ((fs.getD i []).getD ch 0).toNat))

/-- The buffers with PORT 0 of a task's output list get their frames, zeros where `fs` has none (R165, R169, R188). -/
def writeMids (s : State) (f : Nat) (t : TaskD) (fs : List (List Frame)) : State :=
  ((t.outs.filter (fun b => !b.port)).zipIdx).foldl (fun s e =>
    s.thPuts e.1.at' (midWords f e.1 (fs.getD e.2 []))) s

/-- F of the graph in slot `k`. -/
def slotFrames (s : State) (k : Nat) : Nat :=
  match (s.slot k).g with
  | some g => frames s g
  | none => 0

/-- A GRAPHFAULT of the period in progress in slot `k`, raised once (R181). -/
def graphFault (s : State) (k : Nat) : State :=
  if (s.slot k).bad then s
  else ((s.setSlot k { s.slot k with bad := true }).bump (R.SCHED_FAULTS_COUNT.win (k + 1))).set
    R.SCHED_IFLG_GRAPHFAULT 1

/-- Ready tasks of a slot: a shed one counts as completed and passes its tokens on at once (R181, R188);
the others are returned to be pushed.  `fuel` bounds the chain of shed tasks. -/
def resolve (s : State) (k : Nat) : Nat → List Nat → State × List Nat
  | 0, js => (s, js)
  | _ + 1, [] => (s, [])
  | fuel + 1, j :: js =>
    let sl := s.slot k
    if sl.shed.contains j then
      let r := passTokens { sl with done := sl.done ++ [j] } (taskOf s k j).succs
      let s := writeMids ((s.setSlot k r.1).bump (R.SCHED_SHED_COUNT.win (k + 1))) (slotFrames s k) (taskOf s k j) []
      resolve s k fuel (js ++ r.2)
    else
      let t := resolve s k fuel js
      (t.1, j :: t.2)

/-- Sort ready tasks by ascending PRIO, equal ones in the order given. -/
def byPrio (s : State) (k : Nat) (js : List Nat) : List Nat :=
  (List.range 16).flatMap (fun p => js.filter (fun j => (taskOf s k j).prio == p))

/-- The token audit once the last task of a period has completed (R181). -/
def audit (s : State) (k : Nat) : State :=
  match (s.slot k).g with
  | none => s
  | some g =>
    let sl := s.slot k
    if sl.done.length < g.tasks.length then s
    else if sl.used ≠ g.tokens then graphFault s k
    else s

/-- Context `c` has given a word in double-bit error among the frames popped between `old` and `s` (R185). -/
def metError (old s : State) (c : Nat) : Bool :=
  let n := ((s.ctx c).cout - (old.ctx c).cout).toNat - ((s.ctx c).cpad - (old.ctx c).cpad).toNat
  (List.range n).any (fun i =>
    old.dedIn (Strm.placeAt old c ((Strm.oldestPlace old c + i) % old.cBufLen c)) (4 * old.cNch c) != [])

/-- A period of slot `k` starts at boundary `b` (R177): the input ports take F frames, the root tasks go
to the ACTIVE engines in turn. -/
def startPeriod (s : State) (b k : Nat) : State :=
  match (s.slot k).g with
  | none => s
  | some g =>
    let ins := ((g.ports.filter (fun p => !p.1)).map (fun p => p.2)).eraseDups
    let old := s
    let r := Strm.takeAhead s b (frames s g) ins
    let s := r.2
    let sl := s.slot k
    let s := s.setSlot k { sl with busy := true, began := b, cnt := g.tasks.map (fun t => t.depcnt)
                                   done := [], used := 0, shed := sl.shedNext, taken := r.1
                                   made := [], bad := false }
    let s := if ins.any (metError old s) then graphFault s k else s
    let roots := (List.range g.tasks.length).filter (fun t => (taskOf s k t).depcnt == 0)
    let q := resolve s k (2 * g.tasks.length + 1) roots
    audit (spread q.1 16 (q.2.map (fun t => ⟨k, t, false⟩))) k

/-- The bytes of one state bank of a task (R162, R169). -/
def stateSize (s : State) (n : Nat) (t : TaskD) : Nat :=
  match (s.engine n).kerns.find? (fun k => k.kid == t.kid) with
  | some k => k.stateSz
  | none => Config.catalogueState t.kid (s.thWord t.param)

/-- The Thallus offset of a task's state bank: bank 1 follows bank 0 (R169). -/
def bankAt (s : State) (n : Nat) (t : TaskD) (one : Bool) : Nat :=
  if one then t.state + stateSize s n t else t.state

/-- ARG0 to ARG6 on entry (R164): the byte addresses of the descriptor, the parameter block and the two lists, the
state banks to read and to write (0 for a task without state), and F. -/
def entryArgs (s : State) (n : Nat) (j : Job) : List Nat :=
  match (s.slot j.slot).g with
  | none => []
  | some g =>
    let t := taskOf s j.slot j.task
    let one := (s.slot j.slot).bank.contains j.task
    let bank : Bool → Nat := fun b => if t.state = 0 then 0 else thallus + bankAt s n t b
    [thallus + g.desc + 32 * j.task, thallus + t.param, thallus + t.inList, thallus + t.outList, bank one, bank !one,
     frames s g]

/-- Engine `n` takes a task (R178): its own head, the overflow list, or a steal from the longest other
deque. -/
def dispatch (s : State) (n : Nat) : State :=
  let e := s.engine n
  let run : State → Job → State := fun s j =>
    let s := if j.again then s.bump (R.ENGN_RESTARTS_COUNT n) else s
    s.setEngine n { s.engine n with job := some j, queue := [], args := entryArgs s n j }
  if engState s n ≠ ACTIVE ∨ e.job ≠ none then s
  else match e.deque with
    | j :: r => run (s.setEngine n { e with deque := r }) j
    | [] =>
      match s.eng.overflow with
      | j :: r => run { s with eng := { s.eng with overflow := r } } j
      | [] =>
        let best := (List.range 16).foldl (fun m i =>
          if i ≠ n ∧ (s.engine m).deque.length < (s.engine i).deque.length then i else m) n
        match (s.engine best).deque.getLast? with
        | none => s
        | some j =>
          let v := s.engine best
          let s := s.setEngine best { v with deque := v.deque.dropLast }
          let s := (s.bump (R.ENGN_STEALS_COUNT n)).bump (R.SCHED_STEALS_COUNT.win (j.slot + 1))
          run s j

/-- An engine with nothing to run reaches OFF, or SELFTEST where its EN is set again (R186). -/
def toOff (s : State) (n : Nat) : State :=
  (s.setEngine n { s.engine n with job := none, queue := [], ready := false, forRoll := false }).set
    (R.ENGN_STAT_STATE n) (if s.on (R.ENGN_CTRL_EN n) then SELFTEST else OFF)

/-- A DRAINING engine that has finished its task goes on to OFF or UPDATING (R186). -/
def drainOn (s : State) (n : Nat) : State :=
  if engState s n = DRAINING ∧ (s.engine n).job = none then
    if (s.engine n).forRoll then s.set (R.ENGN_STAT_STATE n) UPDATING else toOff s n
  else s

/-- Engine `n` leaves ACTIVE for DRAINING (R186): its deque entries move to the other ACTIVE engines. -/
def drainEngine (s : State) (n : Nat) (roll : Bool) : State :=
  let e := s.engine n
  let s := s.set (R.ENGN_STAT_STATE n) DRAINING
  let s := s.setEngine n { e with deque := [], forRoll := roll, ready := false }
  activeChanged (drainOn (spread s n e.deque) n) false

/-- The frames a task leaves at output port `p`: the channels its own output words name, over what earlier
tasks of the period wrote to the port's other channels (R169, R171). -/
def overlay (ws : List BufW) (p : Nat) (old new : List Frame) : List Frame :=
  let named : Nat → Bool := fun ch => ws.any (fun b => b.port && b.at' == p &&
    decide (b.first ≤ ch) && decide (ch < b.first + b.chans))
  new.zipIdx.map (fun e => (List.range (max e.1.length (old.getD e.2 []).length)).map (fun ch =>
    if named ch then e.1.getD ch 0 else (old.getD e.2 []).getD ch 0))

/-- What the kernel of job `j` on engine `n` has left in memory (R157, R165, R169, R185): its intermediate buffers, its
write state bank, its scratch and accumulators, and the single-bit errors corrected meanwhile. -/
def taskMemory (s : State) (n : Nat) (j : Job) (m : TaskOut) : State :=
  let t := taskOf s j.slot j.task
  let s := writeMids s (slotFrames s j.slot) t m.mids
  let s := if t.state = 0 then s
    else s.thPuts (bankAt s n t (!(s.slot j.slot).bank.contains j.task))
      ((m.bank.take (stateSize s n t / 4)).map BitVec.toNat)
  let s := s.setEngine n { s.engine n with scratch := m.scratch, macs := m.macs }
  let s := if m.sec = 0 then s else (s.addSat (R.ENGN_ERRCNT_BLKERR n) m.sec).set (R.ENGN_IFLG_SEC n) 1
  s.addSat R.ENG_ERRCNT_BLKERR m.thSec

/-- The running task of engine `n` completes (R164, R165, R179, R181): bank bit, tokens, ready successors.
`o` is what the kernel has written. DESIGN CHOICE, notes/assumptions/81.md. -/
def complete (s : State) (n status : Nat) (o : TaskOut) : State :=
  match (s.engine n).job with
  | none => s
  | some j =>
    let k := j.slot
    let t := taskOf s k j.task
    let s := taskMemory s n j o
    let s := s.bump (R.ENGN_TASKS_COUNT n)
    let s := if status = 0 then s else s.bump (R.ENGN_TASKERR_COUNT n)
    let sl := s.slot k
    let bank := if sl.bank.contains j.task then sl.bank.filter (fun i => i != j.task) else j.task :: sl.bank
    let ports := (t.outs.filter (fun b => b.port)).map (fun b => b.at')
    let outs := o.ports.map (fun e => (e.1.toNat, e.2))
    let made := (outs.filter (fun e => ports.contains e.1)).foldl (fun (m : FMap (List Frame)) e =>
      Map.insert e.1 (overlay t.outs e.1 (Map.get [] m e.1) e.2) (Map.erase e.1 m)) sl.made
    let r := passTokens { sl with bank := bank, done := sl.done ++ [j.task], made := made } t.succs
    let s := s.setSlot k r.1
    let q := resolve s k 2100 r.2
    let s := q.1.setEngine n { q.1.engine n with
      job := none, queue := [], args := (q.1.engine n).args.set 0 status }
    let js := byPrio s k q.2
    let s := if engState s n = ACTIVE then js.foldl (fun s i => pushHead s n ⟨k, i, false⟩) s
      else spread s n (js.map (fun i => ⟨k, i, false⟩))
    drainOn (audit s k) n

/-- The register service: the running task of engine `n` queues a packet, or finds the queue of 4 full (R166). -/
def service (s : State) (n : Nat) (p : Packet) : State :=
  let e := s.engine n
  if e.job = none then s
  else if e.queue.length < 4 then s.setEngine n { e with queue := e.queue ++ [p], code := 0 }
  else s.setEngine n { e with code := 1 }

/-- Every task whose output list names port `p` has completed (R182). -/
def produced (s : State) (k p : Nat) : Bool :=
  match (s.slot k).g with
  | none => false
  | some g => g.tasks.zipIdx.all (fun t =>
      !(t.1.outs.any (fun b => b.port && b.at' == p)) || (s.slot k).done.contains t.2)

/-- The frames created in place of an unproduced port's (R182). -/
def fadeFrames (len f : Nat) (v : Frame) : List Frame :=
  (List.range f).map (fun k => if k < len then
    v.map (fun x => BitVec.ofInt 32 (Mtx.roundAway (x.toInt * ((len - 1 - k : Nat) : Int)) len))
    else v.map (fun _ => 0))

/-- A produced port's frames, F of them, the first block ramped in after an unproduced period (R182). -/
def madeFrames (s : State) (k p f nch : Nat) : List Frame :=
  let fs := Map.get [] (s.slot k).made p
  let fs := (List.range f).map (fun i => fs.getD i (zeroFrame nch))
  if s.eng.rampPorts.contains (32 * k + p) then
    fs.zipIdx.map (fun e => if e.2 < s.blkLen then e.1.map (Config.ramp e.2 s.blkLen) else e.1)
  else fs

/-- Output port `p` of slot `k` delivers its period at the boundary that ends it (R182). -/
def deliverPort (s : State) (k p c f : Nat) (good : Bool) : State :=
  let key := 32 * k + p
  let nch := s.cNch c
  if good then
    let fs := madeFrames s k p f nch
    let s := fs.foldl (fun s g => Strm.deliver s c g) s
    { s with eng := { s.eng with
        lastOut := Map.insert key (fs.getLastD (zeroFrame nch)) (Map.erase key s.eng.lastOut)
        rampPorts := s.eng.rampPorts.filter (fun i => i != key) } }
  else
    let v := Map.get (zeroFrame nch) s.eng.lastOut key
    let s := if s.live c then
        (fadeFrames s.blkLen f v).foldl (fun s g =>
          if (s.ctx c).st = .running then Strm.pushPad s c g else s) s
      else s
    { s with eng := { s.eng with
        lastOut := Map.insert key (zeroFrame nch) (Map.erase key s.eng.lastOut)
        rampPorts := key :: s.eng.rampPorts.filter (fun i => i != key) } }

/-- Abort what the engines run for slot `k` and flush its queued tasks (R183). -/
def flush (s : State) (k : Nat) : State :=
  let s := (List.range 16).foldl (fun s n =>
    let e := s.engine n
    let s := s.setEngine n { e with
      deque := e.deque.filter (fun j => j.slot != k)
      job := match e.job with
        | some j => if j.slot = k then none else some j
        | none => none
      queue := match e.job with
        | some j => if j.slot = k then [] else e.queue
        | none => e.queue }
    drainOn s n) s
  { s with eng := { s.eng with overflow := s.eng.overflow.filter (fun j => j.slot != k) } }

/-- Step 1 of boundary `b` for slot `k` (R182, R183): a period that ends delivers its ports, or is a
deadline miss. DEDUCED, notes/assumptions/14.md. -/
def endPeriod (s : State) (b k : Nat) : State :=
  match (s.slot k).g with
  | none => s
  | some g =>
    let sl := s.slot k
    if !sl.busy ∨ b < sl.began + frames s g then s
    else
      let miss := decide (sl.done.length < g.tasks.length)
      let s := if miss then
          let s := flush s k
          let s := (s.addSat (R.SCHED_MISSED_BLOCKS.win (k + 1)) g.period).bump R.SCHED_ERRCNT_BLKERR
          s.set R.SCHED_IFLG_MISS 1
        else s
      let s := g.ports.zipIdx.foldl (fun s p =>
        if p.1.1 then deliverPort s k p.2 p.1.2 (frames s g)
          (produced s k p.2 && !sl.bad)
        else s) s
      s.setSlot k { s.slot k with busy := false }

/-- Install a graph in slot `k` from boundary `b` (R175, R176). -/
def install (s : State) (b k : Nat) (g : Option Graph) : State :=
  let s := flush s k
  let s := s.setSlot k { Slot.empty with g := g, startAt := b }
  (s.set (R.SCHED_SHEDNOW_COUNT.win (k + 1)) 0).set R.SCHED_IFLG_SWITCH 1

/-- The candidate is consumed: STATUS 0, with ADMCP and ADMW kept (R175). -/
def consume (s : State) : State :=
  let s := { s with eng := { s.eng with cand := none } }
  ((s.set R.SCHED_ADMSTAT_STATUS 0).set R.SCHED_ADMSTAT_REASON 0).set R.SCHED_ADMSTAT_TASK 0

/-- Boundary `b` ends the running graph's period in slot `k`, or the slot is empty. -/
def atPeriodEnd (s : State) (b k : Nat) : Bool :=
  match (s.slot k).g with
  | none => true
  | some g => (b - (s.slot k).startAt) % frames s g == 0

/-- A committed GSWITCH of slot `k` at boundary `b` (R175). -/
def switchSlot (s : State) (b k : Nat) : State :=
  if bit (s.get R.SCHED_GSWITCH_SLOT) k ∧ atPeriodEnd s b k then
    let s := s.setBit R.SCHED_GSWITCH_SLOT k false
    match s.eng.cand with
    | some c =>
      if c.slot = k ∧ s.get R.SCHED_ADMSTAT_STATUS = 2 ∧ !c.newset then consume (install s b k c.graph)
      else s.set R.SCHED_IFLG_ADMREJ 1
    | none => s.set R.SCHED_IFLG_ADMREJ 1
  else s

/-- Engines that became ready enter ACTIVE at the boundary (R186). DEDUCED, notes/assumptions/16.md. -/
def wakeEngines (s : State) : State :=
  let rs := (List.range 16).filter (fun n => (s.engine n).ready)
  if rs = [] then s
  else
    let s := rs.foldl (fun s n =>
      (s.setEngine n { s.engine n with ready := false }).set (R.ENGN_STAT_STATE n) ACTIVE) s
    activeChanged s true

/-- The rolling update at a boundary (R190): the next engine drains once none is out of service and the
running graphs fit on one engine less; engines that are OFF or QUARANTINED are skipped, and one on its way to ACTIVE or
to OFF is waited for.  After the last one the new set goes into service.  A CARRY switch ends a period in progress of
its slot with no delivery, fade or MISSED, and a NEWSET candidate that is no longer ADMITTED then sets ADMREJ: the
model's choice. DEDUCED, notes/assumptions/95.md. -/
def rollStep (s : State) (b : Nat) : State :=
  if s.get R.ENG_STAT_ROLL ≠ 2 then s
  else if (List.range 16).any (fun n => (s.engine n).forRoll) then s
  else
    let rest := s.eng.todo.dropWhile (fun n => engState s n == OFF || engState s n == QUARANTINED)
    match rest with
    | n :: r =>
      if engState s n = ACTIVE ∧ fits s (nActive s - 1) then
        drainEngine ({ s with eng := { s.eng with todo := r } }.set R.ENG_STAT_ROLLENG n) n true
      else { s with eng := { s.eng with todo := rest } }
    | [] =>
      let s := { s with eng := { s.eng with set := s.eng.rollSet, todo := [] } }
      let s := ((s.set R.ENG_KSETVER_VER s.eng.rollVer).set R.ENG_STAT_ROLL 0).set R.ENG_STAT_ROLLENG 0
      let s := match s.eng.carry, s.eng.cand with
        | true, some c =>
          if c.newset ∧ s.get R.SCHED_ADMSTAT_STATUS = 2 then consume (install s b c.slot c.graph)
          else s.set R.SCHED_IFLG_ADMREJ 1
        | _, _ => s
      s.set R.ENG_IFLG_ROLLDONE 1

/-- Step 4 of boundary `b` (R15): engines, the roll, switches, and the periods that start; none starts once a move down
has every context at rest (R398). -/
def step4 (s : State) (b : Nat) : State :=
  let s := rollStep (wakeEngines s) b
  let s := (List.range 4).foldl (fun s k => switchSlot s b k) s
  (List.range 4).foldl (fun s k =>
    if s.on R.ENG_CTRL_EN ∧ !s.winding ∧ atPeriodEnd s b k ∧ !(s.slot k).busy then startPeriod s b k else s) s

/-- Engine `n` is quarantined with a cause (R186, R187).  An engine is idle with no task and an empty deque, and of
deques equally short the lower engine's is taken: the model's choice. DEDUCED, notes/assumptions/76.md. -/
def quarantine (s : State) (n cause : Nat) : State :=
  let e := s.engine n
  let was := engState s n
  let s := (s.set (R.ENGN_STAT_STATE n) QUARANTINED).set (R.ENGN_STAT_QCAUSE n) cause
  let s := s.set R.ENG_IFLG_QUAR 1
  let s := s.setEngine n { e with deque := [], job := none, queue := [], forRoll := false, ready := false }
  let s := match e.job with
    | none => s
    | some j =>
      let s := (s.set (R.ENGN_LASTFAULT_SLOT n) j.slot).set (R.ENGN_LASTFAULT_TASK n) j.task
      let s := s.set (R.ENGN_LASTFAULT_KID n) (taskOf s j.slot j.task).kid
      let act := actives s
      let idle := act.filter (fun m => (s.engine m).job == none && (s.engine m).deque == [])
      match idle, act with
      | m :: _, _ => pushHead s m { j with again := true }
      | [], m :: ms =>
        let best := ms.foldl (fun b i =>
          if (s.engine i).deque.length < (s.engine b).deque.length then i else b) m
        pushHead s best { j with again := true }
      | [], [] => { s with eng := { s.eng with overflow := s.eng.overflow ++ [{ j with again := true }] } }
  let s := spread s n e.deque
  if was = ACTIVE then activeChanged s false else s

/-- A double-bit error in IMEM (cause 1) or DMEM (cause 2) of engine `n` (R185, R186). -/
def engError (s : State) (n cause : Nat) : State :=
  let s := s.set (R.ENGN_IFLG_DED n) 1
  let st := engState s n
  if st = ACTIVE ∨ st = DRAINING then quarantine s n cause
  else if st = SELFTEST then quarantine s n 5
  else if st = UPDATING then quarantine s n 6
  else s

/-- A task runs for `cycles` engine cycles: above 4 × its WCET the watchdog expires (R186). -/
def watchdog (s : State) (n cycles : Nat) : State :=
  match (s.engine n).job with
  | none => s
  | some j =>
    if 4 * (taskOf s j.slot j.task).wcet < cycles ∧ (engState s n = ACTIVE ∨ engState s n = DRAINING) then
      quarantine (s.set (R.ENGN_IFLG_WDOG n) 1) n 3
    else s

/-- The set an engine loads after its self-test: the set in service, or the new set where a roll has skipped the
engine already (R186, R190). -/
def setToLoad (s : State) (n : Nat) : Nat × List Kern :=
  if s.get R.ENG_STAT_ROLL = 2 ∧ !s.eng.todo.contains n then (s.eng.rollVer, s.eng.rollSet)
  else (s.get R.ENG_KSETVER_VER, s.eng.set)

/-- The end of an engine's self-test and load (R186). -/
def selftestDone (s : State) (n : Nat) (pass : Bool) : State :=
  if engState s n ≠ SELFTEST then s
  else if pass then s.setEngine n { s.engine n with
    ready := true, ver := (setToLoad s n).1, kerns := (setToLoad s n).2, scratch := [] }
  else quarantine s n 5

/-- The end of an updating engine's reload (R186, R190). -/
def reloadDone (s : State) (n : Nat) (ok : Bool) : State :=
  if engState s n ≠ UPDATING then s
  else if ok then s.setEngine n { s.engine n with
    ready := true, forRoll := false, ver := s.eng.rollVer, kerns := s.eng.rollSet, scratch := [] }
  else quarantine s n 6

/-- ENGn.CTRL is written (R186, R194). -/
def wroteEngN (s old : State) (n d : Nat) : State :=
  let st := engState s n
  let was := old.on (R.ENGN_CTRL_EN n)
  let now := s.on (R.ENGN_CTRL_EN n)
  let s := if now then (if st = OFF then s.set (R.ENGN_STAT_STATE n) SELFTEST else s)
    else if !was then s
    else if st = SELFTEST ∨ st = QUARANTINED then toOff s n
    else if st = ACTIVE then drainEngine s n false
    else if st = DRAINING then s.setEngine n { s.engine n with forRoll := false }
    else s
  if bit d 2 ∧ engState s n = QUARANTINED then s.set (R.ENGN_STAT_STATE n) SELFTEST else s

/-- The check of a staged kernel set for a roll ends (R189). -/
def setChecked (s : State) : State :=
  if s.get R.ENG_STAT_ROLL ≠ 1 then s
  else
    let used := (List.range 4).flatMap (fun k =>
      match (s.slot k).g with
      | some g => (g.tasks.map (fun t => t.kid)).filter (fun i => decide (0x100 ≤ i))
      | none => [])
    let crcIn : List Kern → Nat → Option Nat := fun set i => (set.find? (fun k => k.kid == i)).map (fun k => k.crc)
    let set := readSet s (s.get R.ENG_KSETBASE_OFF)
    let s := meetSet s (s.get R.ENG_KSETBASE_OFF)
    match set with
    | some r =>
      if used.all (fun i => (crcIn r.1 i).isSome && crcIn r.1 i == crcIn s.eng.set i) then
        { s with eng := { s.eng with rollSet := r.1, rollVer := r.2, todo := List.range 16 } }.set
          R.ENG_STAT_ROLL 2
      else (s.set R.ENG_IFLG_ROLLFAIL 1).set R.ENG_STAT_ROLL 0
    | none => (s.set R.ENG_IFLG_ROLLFAIL 1).set R.ENG_STAT_ROLL 0

/-! Droop (R184). -/

/-- A sag trip of VDDC or VDD33: one step down, counted (R184, R402). -/
def sag (s : State) (vdd33 : Bool) : State :=
  let s := s.set (if vdd33 then R.PWR_STAT_SAG33 else R.PWR_STAT_SAGC) 1
  let s := s.set R.PWR_IFLG_SAG 1
  if s.get R.ENG_STAT_CLKSTEP < 3 then
    let s := s.set R.ENG_STAT_CLKSTEP (s.get R.ENG_STAT_CLKSTEP + 1)
    let s := s.bump (if vdd33 then R.ENG_DROOPCNT_VDD33 else R.ENG_DROOPCNT_VDDC)
    s.set R.SCHED_IFLG_DROOP 1
  else s

/-- 50 microseconds with no trip: one step up (R184). DEDUCED, notes/assumptions/39.md. -/
def stepUp (s : State) : State :=
  let s := (s.set R.PWR_STAT_SAG33 0).set R.PWR_STAT_SAGC 0
  s.set R.ENG_STAT_CLKSTEP (s.get R.ENG_STAT_CLKSTEP - 1)

/-! Thallus errors (R185). -/

/-- The error stands from now on; a graph that reads the word in its period has a GRAPHFAULT (R181, R185). -/
def dedMet (s : State) (a : Nat) (slot : Option Nat) : State :=
  let w := a / 4 * 4
  let s := { s with eng := { s.eng with ded := if s.eng.ded.contains w then s.eng.ded else w :: s.eng.ded } }
  let s := s.dedRead w
  match slot with
  | some k => if (s.slot k).busy then graphFault s k else s
  | none => s

/-- A pass of the scrubber: every word in double-bit error is met once, and the single-bit errors it meets are corrected,
written back and counted (R185).  How many they are no command brings: it is free.
DESIGN CHOICE, notes/assumptions/26.md. -/
def scrub (s : State) : State :=
  (s.eng.ded.foldl State.dedRead (s.tick.addSat R.ENG_ERRCNT_BLKERR (Config.freeValue s.free).toNat)).bumpWrap
    R.ENG_SCRUBPASS_COUNT

/-! What the arbiter asks. -/

/-- Values and states the ENG, SCHED and ENGn pages refuse (R170, R175, R189, R192 to R194). -/
def checkEng (s : State) (off d : Nat) : Option Nat :=
  if off = 0x20 then (if bits d 5 0 ≠ 0 then some 6 else none)
  else if off = 0x24 then
    if bits d 10 8 ≠ 1 then some 6
    else if s.on R.ENG_STAT_ROLL ∨
        !fits s (nActive s - 1) ∨
        (bit d 0 ∧ !(match s.eng.cand with
          | some c => c.newset && s.get R.SCHED_ADMSTAT_STATUS == 2
          | none => false)) then some 7
    else none
  else none

def checkSched (s : State) (off d : Nat) : Option Nat :=
  if off = 0x20 then
    if bits d 20 16 < 4 ∨ 16 < bits d 20 16 ∨ bits d 6 0 < 10 ∨ 100 < bits d 6 0 then some 6 else none
  else if off = 0x24 then
    if !bit d 28 ∧ bits d 5 0 ≠ 0 then some 6
    else if s.get R.SCHED_ADMSTAT_STATUS = 1 then some 7 else none
  else if off = 0x34 then
    if (List.range 4).any (fun k => bit d k && !(match s.eng.cand with
        | some c => c.slot == k && s.get R.SCHED_ADMSTAT_STATUS == 2 && !c.newset
        | none => false)) then some 7 else none
  else none

def checkEngN (s : State) (n off d : Nat) : Option Nat :=
  if off = 0x04 ∧ bit d 1 ∧ engState s n ≠ OFF ∧ engState s n ≠ QUARANTINED then some 7 else none

/-- SCHED.GLOAD is written: the header becomes the candidate (R170). -/
def gload (s : State) (d : Nat) : State :=
  let c : Cand := ⟨bits d 31 30, bit d 29, bit d 28, bits d 21 0, none, s.get R.SCHED_ADMCFG_DROOPFLOOR,
    s.get R.SCHED_ADMCFG_UTILCAP⟩
  let s := { s with eng := { s.eng with cand := some c } }
  let s := (s.set R.SCHED_ADMSTAT_STATUS 1).set R.SCHED_ADMSTAT_SLOT c.slot
  (s.set R.SCHED_ADMSTAT_REASON 0).set R.SCHED_ADMSTAT_TASK 0

/-- SCHED.CTRL.SRST discards the candidate (R193). -/
def srst (s : State) : State :=
  let s := { s with eng := { s.eng with cand := none } }
  let s := ((s.set R.SCHED_ADMSTAT_STATUS 0).set R.SCHED_ADMSTAT_SLOT 0).set R.SCHED_ADMSTAT_REASON 0
  ((s.set R.SCHED_ADMSTAT_TASK 0).set R.SCHED_ADMCP_CP 0).set R.SCHED_ADMW_W 0

/-- ENG.CMD ROLL is written: the check of the staged set starts (R189). -/
def roll (s : State) (d : Nat) : State :=
  { s with eng := { s.eng with carry := bit d 0 } }.set R.ENG_STAT_ROLL 1

end Sys2Proof.Machine.Sched
end

