-- ==== Sys2Proof/Machine/PwrOps.lean ====
section
/-! DEFINITION. Power modes: the requested mode and its adjustments, holds, the beginning of a move, and
the moves between IDLE and ACTIVE (R395 to R399, R220 to R222). -/
namespace Sys2Proof.Machine.Pwr
open Sys2Proof Sys2Proof.Machine

/-- The codes of R395 (0: OFF). -/
def STANDBY : Nat := 1
def LISTEN : Nat := 2
def IDLE : Nat := 3
def ACTIVE : Nat := 4

/-- The WAKESRC bit of a cause. -/
def whyBit : Why → Fld
  | .modereq => R.PWR_WAKESRC_MODEREQ
  | .usb => R.PWR_WAKESRC_USB
  | .wakeseq => R.PWR_WAKESRC_WAKESEQ
  | .jack => R.PWR_WAKESRC_JACK
  | .auto => R.PWR_WAKESRC_AUTO

/-- The mode with ACTIVE counted as IDLE. -/
def level (s : State) : Nat := if s.mode = ACTIVE then IDLE else s.mode

/-- The role of this device is not off, and Rhizome is enabled (R334). -/
def rhizomeOn (s : State) : Bool := s.on R.RZ_CTRL_EN && s.get R.RZ_STAT_ROLE != 0

/-- Adjustments 1 and 2 of R397. -/
def adjust (s : State) (m : Nat) : Nat :=
  let m := if m = STANDBY ∧ s.on R.WAKE_CTRL_EN then LISTEN else m
  if (m = STANDBY ∨ m = LISTEN) ∧ rhizomeOn s then IDLE else m

/-- The wake stage holds a request for a lower mode (R222). -/
def wakeHolds (s : State) : Bool := s.get R.WAKE_STAT_STAGE == 2 || s.get R.WAKE_STAT_STAGE == 3

/-- A request for a lower mode is held (R397, 3). -/
def holds (s : State) : Bool := wakeHolds s || s.on R.NVM_STAT_BUSY

/-- No request is held. -/
def unhold (s : State) : State := (s.set R.PWR_STAT_HELD 0).set R.WAKE_STAT_DEFER 0

/-- A move down begins: every RUNNING context receives DRAIN (R398, 1). -/
def drainAll (s : State) : State :=
  let cs := s.ctxsWhere (fun c => (s.ctx c).st == .running)
  { s with strm := { s.strm with reqs := s.strm.reqs ++ cs.map (fun c => (c, Req.drain)) } }

/-- A move to mode `m` is taken (R396 to R398). DEDUCED, notes/assumptions/49.md. -/
def take (s : State) (m : Nat) (why : Why) : State :=
  if m = level s then s
  else
    let s := if level s < m then
        let s := s.set (whyBit why) 1
        if why = .modereq then s else (s.set R.PWR_IFLG_WAKEUP 1).set R.PWR_MODEREQ_MODE m
      else s
    let s := (s.set R.SYS_STAT_MOVING 1)
    let s := if level s = IDLE then drainAll s else s
    { s with pwr := { s.pwr with target := some m } }

/-- A request for a mode (R397); one made during a move, or by the image during the boot, waits for its end (R399).
DEDUCED, notes/assumptions/50.md. -/
def request (s : State) (m : Nat) (why : Why) : State :=
  let m := adjust s m
  let s := s.set R.PWR_STAT_REQ m
  if s.on R.SYS_STAT_MOVING ∨ s.pwr.booting then { s with pwr := { s.pwr with queued := some (m, why) } }
  else if m < level s ∧ holds s then
    let s := s.set R.PWR_STAT_HELD 1
    if wakeHolds s then s.set R.WAKE_STAT_DEFER 1 else s
  else take (unhold s) m why

/-- The hold has ended: the held request is taken (R222, R397). -/
def release (s : State) : State :=
  if s.on R.PWR_STAT_HELD ∧ !holds s then
    let m := adjust s (s.get R.PWR_STAT_REQ)
    take ((unhold s).set R.PWR_STAT_REQ m) m .modereq
  else s

/-- The request that waited is taken (R399). -/
def queuedNow (s : State) : Option (Nat × Why) → State
  | some (m, why) => request s m why
  | none => s

/-- The new mode is reached (R396); a request queued during the move follows (R399). -/
def arrived (s : State) (m : Nat) : State :=
  let s := ((s.set R.SYS_STAT_MODE m).set R.SYS_STAT_MOVING 0).set R.SYS_IFLG_MODECHG 1
  queuedNow { s with pwr := { s.pwr with target := none, queued := none, pathReady := false } } s.pwr.queued

/-- A context is RUNNING, STALLED or DRAINING, or a graph slot runs (R395). -/
def busy (s : State) : Bool :=
  (s.ctxsWhere s.live) != [] || (List.range 4).any (fun k => (s.slot k).g.isSome)

/-- The move between IDLE and ACTIVE follows the streams (R395, R396). -/
def follow (s : State) : State :=
  if s.mode = IDLE ∧ busy s then (s.set R.SYS_STAT_MODE ACTIVE).set R.SYS_IFLG_MODECHG 1
  else if s.mode = ACTIVE ∧ !busy s then
    { (s.set R.SYS_STAT_MODE IDLE).set R.SYS_IFLG_MODECHG 1 with
      pwr := { s.pwr with pathReady := false } }
  else s

end Sys2Proof.Machine.Pwr
end

