-- ==== Sys2Proof/Machine/RzOps.lean ====
section
/-! DEFINITION. Rhizome (R311 to R341): roles, frame lock and ports, alignment and PRES_DELAY, slots and
claims, cells and credits, forwards and failover. -/
namespace Sys2Proof.Machine.Rz
open Sys2Proof Sys2Proof.Machine

/-! The roles of RZ.STAT.ROLE (R340). -/
def OFF : Nat := 0
def MEMBER : Nat := 1
def BACKUP : Nat := 2
def MASTER : Nat := 3
def ACTING : Nat := 4
def STRANGER : Nat := 5
def STANDBY : Nat := 6

/-- The types of cells (R328). -/
def CMD : Nat := 1
def RESULT : Nat := 2
def ERROR : Nat := 3
def CLAIM : Nat := 4
def GRANT : Nat := 5
def REFUSE : Nat := 6
def RELEASE : Nat := 7
def MAPREQ : Nat := 8
def EVENT : Nat := 9
def RESET : Nat := 10
def BKANN : Nat := 11

def role (s : State) : Nat := s.get R.RZ_STAT_ROLE

/-- MASTER or acting master. -/
def isMaster (s : State) : Bool := role s == MASTER || role s == ACTING

/-- This device's address. -/
def addr (s : State) : Nat := s.get R.RZ_STAT_ADDR

/-- The upstream port: 0 for A, 1 for B (R313). -/
def up (s : State) : Nat := s.get R.RZ_STAT_UPB

/-- The frame-lock field of a receiver. -/
def lockFld (p : Nat) : Fld := if p = 0 then R.RZ_STAT_LOCKA else R.RZ_STAT_LOCKB

/-- A receiver has frame lock. -/
def locked (s : State) (p : Nat) : Bool := s.on (lockFld p)

/-- Change the Rhizome part of the state. -/
def upd (s : State) (f : RzSt → RzSt) : State := { s with rz := f s.rz }

/-- The role the straps and CFG.ROLE give (R311). -/
def cfgRole (s : State) : Nat :=
  if s.get R.RZ_CFG_ROLE = 0 then 2 * s.get R.GPIO_STRAPS_RZROLE1 + s.get R.GPIO_STRAPS_RZROLE0
  else s.get R.RZ_CFG_ROLE

/-- A device folds while its downstream receiver has no frame lock (R312). -/
def fold (s : State) : State :=
  s.setB R.RZ_STAT_FOLD (role s != OFF && !isMaster s && !locked s (1 - up s))

/-- The ports with nothing received and nothing sent. -/
def portsZero (r : RzSt) : RzSt :=
  { r with good := [], miss := [], ref10Hold := false, addressed := false, lag := 0, listening := false
           heard := false, presHdr := 0, ring := false, circA := none, circB := none
           txq := [], unacked := [], seq := [], rseq := [], reasm := [], strays := [], claims := [], rx := []
           out := [], sent := [], emitted := none, back := [], passing := [], credits := [], naks := []
           resyncs := [], answers := [], tx := [], echoes := [] }

/-- RZ.CTRL.EN goes to 1: the role is taken, a MASTER listens first, and each port has its 16 credits (R311, R318, R330,
R338). -/
def enable (s : State) : State :=
  let s := [0, 1].foldl (fun s p => [R.RZ_CRED_ISSUED p, R.RZ_CRED_RETURNED p, R.RZ_LINK_INFLIGHT p].foldl
    (fun s f => s.set f 0) s) (upd s portsZero)
  let s := fold (s.set R.RZ_STAT_ROLE (cfgRole s))
  upd s (fun r => { r with listening := cfgRole s == MASTER })

/-- RZ.CTRL.EN goes to 0: the ports stop. -/
def disable (s : State) : State :=
  let s := upd s portsZero
  let s := [R.RZ_STAT_ROLE, R.RZ_STAT_TRACK, R.RZ_STAT_ALIGN, R.RZ_STAT_ADOPTWAIT, R.RZ_STAT_MAPOK,
    R.RZ_STAT_BRANCHED, R.RZ_STAT_UPB, R.RZ_STAT_FOLD, R.RZ_STAT_LOCKB, R.RZ_STAT_LOCKA,
    R.RZ_PRES_PRESD, R.RZ_DOMINFO_BKVALID].foldl (fun s f => s.set f 0) s
  Clkm.refFail s 10

/-! CRC-16 (R316). -/

/-- One bit of the CRC-16: polynomial 0x1021, no reflection. -/
def crc16Bit (c : Nat) (b : Bool) : Nat :=
  let c2 := c * 2 % 65536
  if (bit c 15) != b then c2 ^^^ 0x1021 else c2

/-- The CRC-16 over a run of bytes, initial value 0xFFFF. -/
def crc16 (bs : List Byte) : Nat := bs.foldl (fun c b => (byteBits b).foldl crc16Bit c) 0xFFFF

/-- This device's map entry of a slot: GRANTED and WRITER. -/
def mapEntry (s : State) (k : Nat) : Bool × Nat := (s.on (R.SLT_MAP_GRANTED k), s.get (R.SLT_MAP_WRITER k))

/-- The CRC of this device's slot map (R327). -/
def mapCrc (s : State) : Nat :=
  crc16 ((List.range 512).flatMap (fun k =>
    let e := mapEntry s k
    let w := b2n e.1 * 32768 + e.2
    [BitVec.ofNat 8 w, BitVec.ofNat 8 (w / 256)]))

/-! Cells (R328, R329). -/

/-- A cell of this device to address `dst`. -/
def mkCell (s : State) (dst : Nat) (bcast : Bool) (payload : List Byte) : Cell :=
  { bcast := bcast, dst := BitVec.ofNat 10 dst, src := BitVec.ofNat 10 (addr s)
    srcdom := BitVec.ofNat 16 (s.get R.RZ_CFG_DOMAIN), frag := 0, last := true, tag := 0, payload := payload }

/-- Put a cell in the queue of cells to send. -/
def send (s : State) (typ : Nat) (c : Cell) : State :=
  if role s = OFF ∨ role s = STRANGER then s else upd s (fun r => { r with txq := r.txq ++ [(typ, c)] })

/-- The current master's address. -/
def masterAddr (s : State) : Nat := if isMaster s then addr s else s.get R.RZ_DOMINFO_MADDR

/-- Two bytes, low first. -/
def half (n : Nat) : List Byte := [BitVec.ofNat 8 n, BitVec.ofNat 8 (n / 256)]

/-- The first slot and the count a payload names. -/
def runOf (p : List Byte) : Nat × Nat := (leNat (p.take 2), leNat ((p.drop 2).take 1))

/-- The slots of a run. -/
def slotsOf (first count : Nat) : List Nat := (List.range count).map (fun i => first + i) |>.filter (· < 512)

/-! Slots and claims (R325 to R327). -/

/-- Slot `k` is granted to this device. -/
def mine (s : State) (k : Nat) : Bool := (mapEntry s k).1 && (mapEntry s k).2 == addr s

/-- Enter a run into the map: granted to `writer`, or freed (R326). -/
def applyGrant (s : State) (first count writer : Nat) (free : Bool) : State :=
  (slotsOf first count).foldl (fun s k =>
    let was := mine s k
    let s := (s.setB (R.SLT_MAP_GRANTED k) (!free)).set (R.SLT_MAP_WRITER k) (if free then 0 else writer)
    let st := s.get (R.SLT_STATE_STATE k)
    if !free ∧ writer = addr s then
      let s := if st = 1 then s.set R.RZSLOT_IFLG_GRANTED 1 else s
      (s.set (R.SLT_STATE_STATE k) 2).set (R.SLT_STATE_REASON k) 0
    else
      let s := if was ∧ st = 2 then s.set R.RZSLOT_IFLG_LOST 1 else s
      if st = 2 then (s.set (R.SLT_STATE_STATE k) 0).set (R.SLT_STATE_REASON k) 0 else s) s

/-- The outstanding claims that a run answers are no longer outstanding. -/
def answered (s : State) (first count : Nat) : State :=
  upd s (fun r => { r with claims := r.claims.filter (fun c => c != (first, count)) })

/-- The master enters a run and broadcasts it (R326). -/
def broadcastGrant (s : State) (first count writer : Nat) (free : Bool) : State :=
  let s := applyGrant s first count writer free
  send s GRANT (mkCell s 0 true (half first ++ [BitVec.ofNat 8 count] ++ half writer ++ [BitVec.ofNat 8 (b2n free)]))

/-- A refusal reaches the claimer (R326). -/
def refused (s : State) (first count reason : Nat) : State :=
  let s := (slotsOf first count).foldl (fun s k =>
    if s.get (R.SLT_STATE_STATE k) = 1 then
      (s.set (R.SLT_STATE_STATE k) 3).set (R.SLT_STATE_REASON k) reason
    else s) s
  answered (s.set R.RZSLOT_IFLG_REFUSED 1) first count

/-- The master handles a claim of `who` for a run (R326). -/
def claimAt (s : State) (who first count : Nat) : State :=
  let ok := decide (first + count ≤ 512) && (slotsOf first count).all (fun k =>
    !(mapEntry s k).1 || (mapEntry s k).2 == who)
  if ok then
    let s := broadcastGrant s first count who false
    if who = addr s then answered s first count else s
  else if who = addr s then refused s first count 1
  else send s REFUSE (mkCell s who false (half first ++ [BitVec.ofNat 8 count, 1]))

/-- The master frees the slots of a run that are granted to `who` (R326). -/
def releaseAt (s : State) (who first count : Nat) : State :=
  (slotsOf first count).foldl (fun s k =>
    if (mapEntry s k).1 ∧ (mapEntry s k).2 = who then broadcastGrant s k 1 who true else s) s

/-- The runs of equal map entries, at most 255 slots each. -/
def runs (s : State) : List (Nat × Nat × Bool × Nat) :=
  (List.range 512).foldr (fun k acc =>
    let e := mapEntry s k
    match acc with
    | (f, n, g, w) :: rest =>
      if (g, w) = e ∧ n < 255 then (k, n + 1, g, w) :: rest else (k, 1, e.1, e.2) :: (f, n, g, w) :: rest
    | [] => [(k, 1, e.1, e.2)]) []

/-- The master answers a MAPREQ of `who` with its map (R327). -/
def mapReqAt (s : State) (who : Nat) : State :=
  (runs s).foldl (fun s r => send s GRANT (mkCell s who false
    (half r.1 ++ [BitVec.ofNat 8 r.2.1] ++ half r.2.2.2 ++ [BitVec.ofNat 8 (b2n (!r.2.2.1))]))) s

/-- A slot table REQ is written: CLAIM or RELEASE of slot `k` (R326, R341).  A claim that continues the run
of the last CLAIM cell not yet sent joins it, up to 32 slots. -/
def reqWritten (s : State) (k action : Nat) : State :=
  if action = 1 then
    let s := (s.set (R.SLT_STATE_STATE k) 1).set (R.SLT_STATE_REASON k) 0
    if isMaster s then
      claimAt (upd s (fun r => { r with claims := r.claims ++ [(k, 1)] })) (addr s) k 1
    else
      match s.rz.txq.getLast?, s.rz.claims.getLast? with
      | some (4, c), some (f, n) =>
        if runOf c.payload = (f, n) ∧ f + n = k ∧ n < 32 then
          upd s (fun r => { r with
            txq := r.txq.dropLast ++ [(CLAIM, { c with payload := half f ++ [BitVec.ofNat 8 (n + 1)] })]
            claims := r.claims.dropLast ++ [(f, n + 1)] })
        else
          send (upd s (fun r => { r with claims := r.claims ++ [(k, 1)] })) CLAIM
            (mkCell s (masterAddr s) false (half k ++ [1]))
      | _, _ =>
        send (upd s (fun r => { r with claims := r.claims ++ [(k, 1)] })) CLAIM
          (mkCell s (masterAddr s) false (half k ++ [1]))
  else
    let s := (s.set (R.SLT_STATE_STATE k) 0).set (R.SLT_STATE_REASON k) 0
    if isMaster s then releaseAt s (addr s) k 1
    else send s RELEASE (mkCell s (masterAddr s) false (half k ++ [1]))

/-- The oldest claim has waited tCLAIM: reason 3 (R326). -/
def claimTimeout (s : State) : State :=
  match s.rz.claims with
  | (f, n) :: _ => refused s f n 3
  | [] => s

/-! Contexts of TYPE 3. -/

/-- The contexts of TYPE 3 in a state. -/
def ctxs (s : State) (p : CtxSt → Bool) : List Nat := s.ctxsWhere (fun c => s.cType c == 3 && p (s.ctx c).st)

/-- The RUNNING TYPE 3 contexts enter STALLED with CAUSE 4 (R324). -/
def stallAll (s : State) : State := (ctxs s (· == .running)).foldl (fun s c => Strm.stall s c 4) s

/-- ALIGN is cleared (R323, R324). -/
def unalign (s : State) : State :=
  if s.on R.RZ_STAT_ALIGN then
    stallAll (((s.set R.RZ_STAT_ALIGN 0).set R.RZ_IFLG_ALIGN 1).set R.RZ_STAT_ADOPTWAIT 1)
  else s

/-- Stalled TYPE 3 contexts resume at the next boundary once lock and ALIGN have returned (R324). -/
def resumable (s : State) : State :=
  if locked s (up s) ∧ s.on R.RZ_STAT_ALIGN then
    (s.ctxsWhere (fun c => s.cType c == 3 && (s.ctx c).st == .stalled && (s.ctx c).cause == 4)).foldl
      (fun s c => s.updCtx c (fun x => { x with resume := true })) s
  else s

/-- The slots of channel `j` of context `c` (R322). -/
def slotsOfCh (s : State) (c j : Nat) : List Nat :=
  (List.range (Strm.slotPeriods s)).map (fun i => s.cFirst c + Strm.slotPeriods s * j + i)

/-- The slot is read by a RUNNING TYPE 3 source. -/
def isRead' (s : State) (k : Nat) : Bool :=
  ((ctxs s (· == .running)).filter (fun c => !s.cSink c)).any (fun c =>
    decide (s.cFirst c ≤ k) && decide (k < s.cFirst c + Strm.slotPeriods s * s.cNch c))

/-- One VALID slot of a pass, a relayed one with the samples of the frame before: taken where no earlier pass brought
it; a late one is counted (R322, R325, R329). -/
def readSlot (s : State) (midx : Nat) (e : BitVec 9 × Sample × Bool) : State :=
  let k := e.1.toNat
  let i := midx + k % Strm.slotPeriods s - (if e.2.2 then Strm.slotPeriods s else 0)
  let row := ((s.rz.rx.find? (fun q => q.1 == i)).map (fun q => q.2)).getD ⟨false, []⟩
  let late := decide (i + s.get R.RZ_PRES_PRESD ≤ s.sampIdx)
  if row.slots.any (fun q => q.1 == k) then s
  else
    let s := if late ∧ isRead' s k then s.addSat R.RZ_LATE_COUNT 1 else s
    upd s (fun r => { r with
      rx := Map.insert i { row with slots := Map.insert k ⟨e.2.1, late⟩ row.slots } (Map.erase i r.rx) })

/-- Read the slots of a pass: each slot from the first pass in which VALID is set (R325).
DEDUCED, notes/assumptions/60.md. -/
def readSlots (s : State) (f : RzFrame) : State :=
  let m := f.midx.toNat
  let s := (List.range (Strm.slotPeriods s)).foldl (fun s i =>
    if s.rz.rx.any (fun q => q.1 == m + i) then s
    else upd s (fun r => { r with rx := Map.insert (m + i) ⟨false, []⟩ r.rx })) s
  f.slots.foldl (fun s e => readSlot s m e) s

/-- The sample period passes: the slots for it are spent, and old ones forgotten (R322).
DESIGN CHOICE, notes/assumptions/108.md. -/
def spend (s : State) : State :=
  let now := s.sampIdx
  let d := s.get R.RZ_PRES_PRESD
  upd s (fun r => { r with
    rx := (r.rx.filter (fun e => decide (now < e.1 + d + 2048))).map (fun e =>
      (e.1, { e.2 with spent := e.2.spent || decide (e.1 + d ≤ now) })) })

/-- The frame that sink `c` passed on for sample period `p`. -/
def outAt (s : State) (c p : Nat) : Option Frame :=
  ((Map.get [] s.rz.out c).find? (fun e => e.1 == p)).map (fun e => e.2)

/-- The slots this device writes into the frame of index `midx`: those of its TYPE 3 sinks that are granted to it, each
with the frame of the period before its index, unless they are VALID already, which is a map error (R322, R325). -/
def writeSlots (s : State) (midx : Nat) (valid : List (BitVec 9 × Sample × Bool)) : State :=
  let cs := (ctxs s (fun st => st == .running || st == .draining)).filter (s.cSink ·)
  let want := cs.flatMap (fun c => (List.range (s.cNch c)).flatMap (fun j =>
    (slotsOfCh s c j).zipIdx.filterMap (fun e =>
      if midx + e.2 = 0 then none
      else (outAt s c (midx + e.2 - 1)).map (fun f => (e.1, (f.getD j 0 : Sample))))))
  let want := want.filter (fun e => mine s e.1)
  let s := if want.any (fun e => valid.any (fun q => q.1.toNat == e.1)) then s.set R.RZ_IFLG_MAPERR 1 else s
  upd s (fun r => { r with sent := want.filter (fun e => !valid.any (fun q => q.1.toNat == e.1)) })

/-- A TYPE 3 sink has passed a frame on. -/
def noteOut (s : State) (c : Nat) (f : Frame) : State :=
  upd s (fun r => { r with
    out := Map.insert c (((s.sampIdx, f) :: Map.get [] r.out c).take 64) (Map.erase c r.out) })

/-! Frame lock, ports and alignment (R313, R317 to R324). -/

/-- A receiver gains frame lock (R317). -/
def gainLock (s : State) (p : Nat) : State :=
  let s := (s.set (lockFld p) 1).set R.RZ_IFLG_LOCK 1
  let s := if p = up s then upd s (fun r => { r with ref10Hold := false }) else s
  fold s

/-- A receiver loses frame lock (R312, R313, R317, R335). -/
def loseLock (s : State) (p : Nat) : State :=
  let s := ((s.set (lockFld p) 0).set R.RZ_IFLG_LOCKLOSS 1).bump R.RZ_ERRCNT_BLKERR
  let s := if isMaster s then
      let s := if p = up s then Clkm.refFail s 10 else s
      if p = 0 ∧ s.rz.ring then (upd s (fun r => { r with ring := false })).set R.RZ_IFLG_HEAL 1
      else if p = 0 then (upd s (fun r => { r with circA := none })).set R.RZ_STAT_BRANCHED 0 else s
    else if p = up s then upd s (fun r => { r with ref10Hold := true })
    else s.set R.RZ_IFLG_HEAL 1
  fold s

/-- An expected header is good, or missing or bad (R317). -/
def header (s : State) (p : Nat) (ok : Bool) : State :=
  if ok then
    let n := Map.get 0 s.rz.good p + 1
    let s := upd s (fun r => { r with good := Map.set 0 r.good p n, miss := Map.set 0 r.miss p 0 })
    if 3 ≤ n ∧ !locked s p then gainLock s p else s
  else
    let n := Map.get 0 s.rz.miss p + 1
    let s := upd s (fun r => { r with good := Map.set 0 r.good p 0, miss := Map.set 0 r.miss p n })
    if 2 ≤ n ∧ locked s p then loseLock s p else s

/-- The two ports swap (R313); the compensated edge stays.  A device that folds after it sets HEAL (R335), and REF10 is
not available on a receiver without frame lock that is not being sought (R60). DESIGN CHOICE, notes/assumptions/58.md. -/
def swapPorts (s : State) : State :=
  let s := fold (s.set R.RZ_STAT_UPB (1 - up s))
  let s := if s.on R.RZ_STAT_FOLD then s.set R.RZ_IFLG_HEAL 1 else s
  if locked s (up s) then upd s (fun r => { r with ref10Hold := false })
  else if s.rz.ref10Hold then s else Clkm.refFail s 10

/-- A delay in 50 ps as whole samples at SYSRATE. -/
def delaySamples (s : State) (d : Nat) : Nat := d * s.sysRate / 20000000000

/-- Follow the header of an outbound frame of this domain (R318, R320, R323, R327).
DEDUCED, notes/assumptions/57.md. -/
def followHeader (s : State) (p : Nat) (f : RzFrame) : State :=
  let s := s.set R.RZ_STAT_HOPS f.hops.toNat
  let s := if s.rz.addressed then s
    else upd (s.set R.RZ_STAT_ADDR (if s.on R.RZ_CFG_ADDRNV then s.get R.RZ_CFG_ADDR else f.hops.toNat + 1))
      (fun r => { r with addressed := true })
  let s := (s.set R.RZ_MIDXLO_V (f.midx.toNat % 2 ^ 32)).set R.RZ_MIDXHI_V (f.midx.toNat / 2 ^ 32)
  let dout := f.accdly.toNat + s.get (R.RZ_HOPDLY_DLY p)
  let s := (s.set R.RZ_DOUT_V dout).set R.RZ_DOMINFO_MADDR f.maddr.toNat
  let s := s.set R.RZSLOT_MAPCRC_HDR f.mapcrc.toNat
  let lag : Int := ((f.midx.toNat + delaySamples s dout : Nat) : Int) - (s.sampIdx : Int)
  let s := upd s (fun r => { r with presHdr := f.presd.toNat, lag := lag })
  if s.on R.RZ_STAT_ALIGN then (if lag = 0 then s else unalign s)
  else if !s.rz.adopted ∨ lag ≠ 0 then s.set R.RZ_STAT_ADOPTWAIT 1
  else if s.get R.RZ_PRES_PRESD ≠ 0 ∧ Clkm.selRef s = 10 ∧ locked s (up s) then
    resumable ((s.set R.RZ_STAT_ALIGN 1).set R.RZ_STAT_ADOPTWAIT 0)
  else s

/-- Compare the map CRCs (R327). -/
def checkMap (s : State) : State :=
  let crc := mapCrc s
  let s := s.set R.RZSLOT_MAPCRC_LOCAL crc
  if crc = s.get R.RZSLOT_MAPCRC_HDR then s.set R.RZ_STAT_MAPOK 1
  else
    let was := s.on R.RZ_STAT_MAPOK || !(s.rz.txq.any (fun q => q.1 == MAPREQ) ||
      s.rz.unacked.any (fun q => q.typ == MAPREQ))
    let s := s.set R.RZ_STAT_MAPOK 0
    if was then send s MAPREQ (mkCell s (masterAddr s) false []) else s

/-- TRACK of a recorded BACKUP (R336, R338). -/
def track (s : State) : State :=
  s.setB R.RZ_STAT_TRACK ((role s == BACKUP || role s == STANDBY) && s.on R.RZ_STAT_ALIGN &&
    s.on R.RZ_STAT_MAPOK && s.on R.RZ_DOMINFO_BKVALID && s.get R.RZ_DOMINFO_BKADDR == addr s)

/-- A master stands down (R338). -/
def standDown (s : State) : State :=
  let r := if role s = ACTING then BACKUP else STANDBY
  upd (fold ((s.set R.RZ_STAT_ROLE r).set R.RZ_IFLG_MASTERCONF 1)) (fun q => { q with listening := false, ring := false })

/-- The master's unique ID, low word (R316, R408). -/
def muid (s : State) : Nat := s.word 0xB00000

/-- A frame of this domain reaches a device that is or would be master (R338). -/
def masterHears (s : State) (f : RzFrame) : State :=
  if s.rz.listening then upd s (fun r => { r with heard := true })
  else if f.muid.toNat = muid s then s
  else if role s = ACTING then (if f.acting then s else standDown s)
  else if !f.acting ∧ f.muid.toNat < muid s then standDown s
  else s

/-- At the next boundary PRESD follows the header (R322).  After a rise of k the samples of the k periods that follow
are spent already, and each is padded; a fall of k takes k indices more, and drops their frames. -/
def presBoundary (s : State) : State :=
  let new := s.rz.presHdr
  let old := s.get R.RZ_PRES_PRESD
  let src := (ctxs s (· == .running)).filter (fun c => !s.cSink c)
  let s := if new < old then src.foldl (fun s c =>
      ((List.range (old - new)).foldl (fun s i => Strm.takeSlots s c (s.sampIdx - old + i)) s).updCtx c
        (Strm.dropFrames (old - new))) s
    else s
  s.set R.RZ_PRES_PRESD new

/-- At a boundary at which no context is RUNNING, STALLED or DRAINING, a waiting device adopts the master's
index (R323). -/
def adopt (s : State) : State :=
  if s.on R.RZ_STAT_ADOPTWAIT ∧ !isMaster s ∧ locked s (up s) ∧ s.ctxsWhere s.live = [] then
    let i := ((s.sampIdx : Int) + s.rz.lag).toNat
    let base := i / s.blkLen * s.blkLen
    let s := s.retime ((base : Int) - s.blk.base)
    let s := { s with blk := { base := base, pos := i % s.blkLen } }
    upd (s.set R.RZ_STAT_ADOPTWAIT 0) (fun r => { r with adopted := true, lag := 0 })
  else s

/-- RHIZOME_STALL: lock missing for tRZSTALL, or ALIGN clear (R324), at a device that follows a master. -/
def stallDue (s : State) : State :=
  if !isMaster s ∧ (!locked s (up s) ∨ !s.on R.RZ_STAT_ALIGN) then stallAll s else s

/-! Delays (R319, R321). -/

/-- tTURN in 50 ps (R339). -/
def turnTime : Nat := 2000

/-- The cable delay: (round trip - tTURN) / 2 over the last 16 measurements (R319). -/
def cable (ts : List Nat) : Nat := (ts.map (fun t => t - turnTime)).sum / (2 * ts.length)

/-- An echo measurement of a link, its round trip in 50 ps (R319). -/
def echo (s : State) (p trip : Nat) : State :=
  let ts := (trip :: Map.get [] s.rz.echoes p).take 16
  upd (s.set (R.RZ_HOPDLY_DLY p) (cable ts)) (fun r => { r with echoes := Map.insert p ts (Map.erase p r.echoes) })

/-- PREQ for the circulation delay in force (R321): the delay and one frame period in samples, rounded up,
plus 2. -/
def preq (s : State) : Nat :=
  let n := s.get R.RZ_CIRC_V * s.sysRate + Strm.slotPeriods s * 20000000000
  (n + 20000000000 - 1) / 20000000000 + 2

/-- PRESLOW follows PREQ (R321). -/
def presLow (s : State) : State :=
  if isMaster s ∧ s.rz.presHdr ≠ 0 ∧ s.rz.presHdr < preq s then s.set R.RZ_IFLG_PRESLOW 1 else s

/-- The master sets PRESD (R321). -/
def setPres (s : State) : State := upd s (fun r => { r with presHdr := max (preq s) (s.get R.RZ_PRES_PRESMIN) })

/-- The master takes the circulation delay, the larger of two branches (R321). -/
def circMeasured (s : State) : State :=
  if !isMaster s then s
  else match s.rz.circA, s.rz.circB with
    | none, none => s
    | a, b =>
      let s := s.set R.RZ_CIRC_V (max (a.getD 0) (b.getD 0))
      presLow (if s.rz.presHdr = 0 then setPres s else s)

/-! Links and credits (R327, R330). -/

/-- A cell takes a place of port `p`, which spends a credit (R330). -/
def place (s : State) (p typ : Nat) (out : Bool) (c : Cell) : State :=
  let q := Map.get 0 s.rz.seq p
  let s := (s.bumpWrap (R.RZ_CRED_ISSUED p)).bump (R.RZ_LINK_INFLIGHT p)
  upd s (fun r => { r with seq := Map.set 0 r.seq p ((q + 1) % 256)
                           unacked := r.unacked ++ [⟨p == 1, typ, out, q, c, 1, true⟩] })

/-- A credit goes back on port `p` with its next frame (R330). -/
def giveBack (s : State) (p : Nat) : State :=
  upd s (fun r => { r with credits := Map.set 0 r.credits p (Map.get 0 r.credits p + 1) })

/-- The port that a cell on its way came in on: of the outbound pass the upstream one, in a ring A of the master (R312). -/
def cameOn (s : State) (ret : Bool) : Nat := if isMaster s then 0 else if ret then 1 - up s else up s

/-- A cell on its way goes onto a pass: that on which it came, or where the device folds, or the master turns the
outbound pass of a ring, the return pass (R312, R329). -/
def goesOn (s : State) (e : Passing) (ret : Bool) : Bool :=
  if isMaster s then ret else e.ret == ret || s.on R.RZ_STAT_FOLD

/-- Put waiting cells onto a pass of port `p`, at most `n` and only while a credit is held: first those on their way
through, then this device's own: on the return pass, at the master on the outbound pass (R329, R330). -/
def launch (s : State) (p : Nat) (ret : Bool) : Nat → State
  | 0 => s
  | n + 1 =>
    if 16 ≤ s.get (R.RZ_LINK_INFLIGHT p) then s
    else
      match s.rz.passing.find? (fun e => goesOn s e ret) with
      | some e =>
        let s := giveBack (upd s (fun r => { r with passing := r.passing.erase e })) (cameOn s e.ret)
        launch (place s p e.typ e.out e.cell) p ret n
      | none =>
        match s.rz.txq with
        | [] => s
        | (t, c) :: rest =>
          if ret != isMaster s then
            launch (place (upd s (fun r => { r with txq := rest })) p t (isMaster s) c) p ret n
          else s

/-- The cells of a frame that a master sends: with a second branch every one of them on both (R329, R330). -/
def launchAll (s : State) : State :=
  if s.rz.ring ∨ !s.on R.RZ_STAT_BRANCHED then launch s 1 false 5
  else
    let n := min 5 (16 - max (s.get (R.RZ_LINK_INFLIGHT 0)) (s.get (R.RZ_LINK_INFLIGHT 1)))
    let q := s.rz.txq
    let s := launch (upd s (fun r => { r with txq := q.take n })) 1 false n
    let s := launch (upd s (fun r => { r with txq := q.take n })) 0 false n
    upd s (fun r => { r with txq := q.drop n })

/-- The cells that came in on port `p` and wait here for a credit. -/
def waiting (s : State) (p : Nat) : Nat := (s.rz.passing.filter (fun e => cameOn s e.ret == p)).length

/-- A frame leaves port `p`: the link-control block and the cells of that link direction are this device's own (R327,
R330). -/
def sendOn (s : State) (p : Nat) (g : RzFrame) : State :=
  let goes : Sent → Bool := fun u => u.portB == (p == 1) && u.due
  let now := (s.rz.unacked.filter goes).take 5
  let n := min 16 (Map.get 0 s.rz.credits p)
  let ans := s.rz.answers.contains p
  let f := { g with ackseq := BitVec.ofNat 8 (Map.get 0 s.rz.rseq p + 255), nak := s.rz.naks.contains p
                    resync := s.rz.resyncs.contains p, resyncAns := ans, credits := BitVec.ofNat 5 n
                    free := BitVec.ofNat 5 (if ans then 16 - waiting s p else 0)
                    cells := now.map (fun u => ⟨BitVec.ofNat 4 u.typ, u.out, BitVec.ofNat 8 u.lseq, true, u.cell⟩) }
  upd s (fun r => { r with
    unacked := r.unacked.map (fun u => if now.contains u then { u with due := false } else u)
    credits := Map.set 0 r.credits p (Map.get 0 r.credits p - n)
    naks := r.naks.filter (fun q => q != p), resyncs := r.resyncs.filter (fun q => q != p)
    answers := r.answers.filter (fun q => q != p), tx := Map.insert p f (Map.erase p r.tx) })

/-- A frame as this device passes it on: HOPS and ACCDLY grow, by the cable that brought it and by the device itself
(R316, R319). -/
def passed (s : State) (p : Nat) (turn : Bool) (f : RzFrame) : RzFrame :=
  { f with hops := f.hops + 1
           accdly := f.accdly + BitVec.ofNat 32 (s.get (R.RZ_HOPDLY_DLY p) + Config.passDelay turn) }

/-- The slots written here beside those that came VALID (R325). -/
def withSent (s : State) (f : RzFrame) : RzFrame :=
  { f with slots := f.slots ++ s.rz.sent.map (fun e => (BitVec.ofNat 9 e.1, e.2, false)) }

/-- A device other than the emitting master passes a frame on: the outbound pass downstream, or where it folds back
upstream as the return pass; the return pass upstream (R312). -/
def passOn (s : State) (p : Nat) (f : RzFrame) : State :=
  if f.ret then sendOn (launch s (up s) true 5) (up s) (passed s p false f)
  else if s.on R.RZ_STAT_FOLD then
    sendOn (launch s (up s) true 5) (up s) { passed s p true (withSent s f) with ret := true }
  else sendOn (launch s (1 - up s) false 5) (1 - up s) (passed s p false (withSent s f))

/-- A stranger passes every frame and cell through, adjusting only HOPS and ACCDLY (R317). -/
def passStrange (s : State) (p : Nat) (f : RzFrame) : State :=
  let turn := !f.ret && s.on R.RZ_STAT_FOLD
  let q := if f.ret || turn then up s else 1 - up s
  upd s (fun r => { r with tx := Map.insert q { passed s p turn f with ret := f.ret || turn } (Map.erase q r.tx) })

/-- Resend every cell of port `p` that is not acknowledged (R330). -/
def resendAll (s : State) (p : Nat) : State :=
  upd s (fun r => { r with unacked := r.unacked.map (fun u =>
    if u.portB = (p == 1) then { u with times := u.times + 1, due := true } else u) })

/-- A cell is resent (R330): NAKed, or not acknowledged within 4 frames. -/
def resend (s : State) (p lseq : Nat) : State :=
  upd s (fun r => { r with unacked := r.unacked.map (fun u =>
    if u.portB = (p == 1) ∧ u.lseq = lseq then { u with times := u.times + 1, due := true } else u) })

/-- A port resyncs its credits: it sends RESYNC and every cell that is not acknowledged (R330). -/
def resync (s : State) (p : Nat) : State :=
  upd (resendAll (s.bump (R.RZ_LINK_RESYNCS p)) p) (fun r => { r with resyncs := r.resyncs.filter (fun q => q != p) ++ [p] })

/-- The answer to a RESYNC: the free count becomes the credits. -/
def resyncAnswer (s : State) (p free : Nat) : State :=
  let inflight := 16 - min free 16
  let s := s.set (R.RZ_LINK_INFLIGHT p) inflight
  s.set (R.RZ_CRED_ISSUED p) (s.get (R.RZ_CRED_RETURNED p) + inflight)

/-- The sequence number `a` is at or before `b` in serial order. -/
def seqLe (a b : Nat) : Bool := decide ((b + 256 - a) % 256 < 128)

/-- The link-control block of a frame received on port `p` (R327, R330). -/
def linkControl (s : State) (p : Nat) (f : RzFrame) : State :=
  let s := upd s (fun r => { r with unacked := r.unacked.filter (fun u =>
    !(u.portB == (p == 1) && seqLe u.lseq f.ackseq.toNat)) })
  let s := if f.nak then resend s p ((f.ackseq.toNat + 1) % 256) else s
  let n := f.credits.toNat
  let fl := s.get (R.RZ_LINK_INFLIGHT p)
  let s := s.set (R.RZ_CRED_RETURNED p) (s.get (R.RZ_CRED_RETURNED p) + n)
  let s := s.set (R.RZ_LINK_INFLIGHT p) (fl - n)
  let bal := (s.get (R.RZ_CRED_ISSUED p) + 131072 - s.get (R.RZ_CRED_RETURNED p) -
    s.get (R.RZ_LINK_INFLIGHT p)) % 65536
  let s := if fl < n ∨ bal ≠ 0 then resync (s.set R.RZ_IFLG_CREDITFLT 1) p else s
  let s := if f.resync then upd s (fun r => { r with answers := r.answers.filter (fun q => q != p) ++ [p] }) else s
  if f.resyncAns then resyncAnswer s p f.free.toNat else s

/-! Forwards (R332). -/

/-- Fold bytes into runs of at most 50. -/
def chunks : Nat → List Byte → List (List Byte)
  | 0, _ => []
  | _ + 1, [] => []
  | n + 1, b => b.take 50 :: chunks n (b.drop 50)

/-- The result of a source's last forward is complete (R332). -/
def fwdDone (s : State) (code status reason : Nat) (data : List Byte) : State :=
  let s := ((s.set (R.RZ_FWDSTAT_DONE.win (code + 1)) 1).set (R.RZ_FWDSTAT_STATUS.win (code + 1)) status).set
    (R.RZ_FWDSTAT_REASON.win (code + 1)) reason
  let s := (s.set (R.RZ_FWDSTAT_LEN.win (code + 1)) data.length).set R.RZ_IFLG_FWDDONE 1
  let f := Map.get ⟨0, false, false, []⟩ s.rz.fwd code
  upd s (fun r => { r with fwd := Map.insert code { f with busy := false, data := data } (Map.erase code r.fwd) })

/-- A read command code (R378). -/
def isRead (cmd : Nat) : Bool := [2, 4, 6, 9, 10].contains (cmd % 128)

/-- RZ_FORWARD of source `code`: the enclosed packet goes out as CMD cells, and the source's forward result
starts afresh (R332). -/
def forward (s : State) (code dst : Nat) (bytes : List Byte) : State :=
  let bc := s.on (R.RZ_FWDCFG_BCAST.win (code + 1))
  let t := s.rz.tag
  let cs := chunks 83 bytes
  let s := (cs.zipIdx).foldl (fun s e => send s CMD
    { mkCell s dst bc e.1 with frag := BitVec.ofNat 7 e.2, last := e.2 + 1 == cs.length, tag := BitVec.ofNat 8 t }) s
  let s := [R.RZ_FWDSTAT_DONE, R.RZ_FWDSTAT_STATUS, R.RZ_FWDSTAT_REASON, R.RZ_FWDSTAT_LEN].foldl
    (fun s f => s.set (f.win (code + 1)) 0) s
  let f : Fwd := ⟨t, true, isRead (leNat (bytes.take 1)), []⟩
  let s := upd s (fun r => { r with tag := (t + 1) % 256, fwd := Map.insert code f (Map.erase code r.fwd) })
  if bc then fwdDone s code 0 0 [] else s

/-- The source whose forward a tag belongs to. -/
def fwdOf (s : State) (tag : Nat) : Option (Nat × Fwd) := s.rz.fwd.find? (fun e => e.2.busy && e.2.tag == tag)

/-- A RESULT cell (R332). -/
def result (s : State) (c : Cell) : State :=
  match fwdOf s c.tag.toNat with
  | none => s
  | some (code, f) =>
    let data := if f.read then f.data ++ c.payload else []
    if c.last then fwdDone s code 0 0 data
    else upd s (fun r => { r with fwd := Map.insert code { f with data := data } (Map.erase code r.fwd) })

/-- An ERROR cell (R328, R332). -/
def error (s : State) (c : Cell) : State :=
  match fwdOf s c.tag.toNat with
  | none => s
  | some (code, _) => fwdDone s code (leNat (c.payload.take 1)) (leNat ((c.payload.drop 1).take 1)) []

/-- A forward has no answer within 100 ms (R332). -/
def noAnswer (s : State) (code : Nat) : State :=
  if (Map.get ⟨0, false, false, []⟩ s.rz.fwd code).busy then fwdDone s code 3 0 [] else s

/-! Events, backups, failover (R333, R336 to R338). -/

/-- A wake event goes to the master (R217, R333). -/
def wakeEvent (s : State) : State :=
  if role s = OFF then s
  else if isMaster s then
    ((s.set R.RZ_IFLG_WAKEEVT 1).set R.RZ_EVSRC_VALID 1).set R.RZ_EVSRC_ADDR (addr s)
  else send s EVENT (mkCell s (masterAddr s) false [1])

/-- The master records an EVENT cell (R333). -/
def event (s : State) (from' : Nat) : State :=
  if isMaster s then ((s.set R.RZ_IFLG_WAKEEVT 1).set R.RZ_EVSRC_VALID 1).set R.RZ_EVSRC_ADDR from' else s

/-- A BKANN cell (R336, R337). -/
def bkann (s : State) (from' : Nat) : State :=
  if isMaster s ∧ !s.on R.RZ_DOMINFO_BKVALID then
    (s.set R.RZ_DOMINFO_BKVALID 1).set R.RZ_DOMINFO_BKADDR from'
  else s

/-- No BKANN for 4,096 frames (R337). -/
def bkTimeout (s : State) : State := if isMaster s then s.set R.RZ_DOMINFO_BKVALID 0 else s

/-- A BACKUP announces itself (R336, R337).  Whether the master records it no cell tells it: a free value decides, and
shows in its own DOMINFO. DESIGN CHOICE, notes/assumptions/104.md. -/
def announce (s : State) : State :=
  if role s = BACKUP ∨ role s = STANDBY then
    let s1 := send s BKANN (mkCell s (masterAddr s) false [])
    let s2 := if (Config.freeValue s.free).toNat % 2 = 1 then
        (s1.set R.RZ_DOMINFO_BKVALID 1).set R.RZ_DOMINFO_BKADDR (addr s)
      else s1
    s2.tick
  else s

/-- A tracking BACKUP becomes acting master (R336). -/
def failover (s : State) : State :=
  if s.on R.RZ_STAT_TRACK ∧ 2 ≤ Map.get 0 s.rz.miss 0 ∧ 2 ≤ Map.get 0 s.rz.miss 1 then
    let s := ((s.set R.RZ_STAT_ROLE ACTING).set R.RZ_STAT_TRACK 0).set R.RZ_IFLG_FAILOVER 1
    let s := (s.set R.RZ_DOMINFO_MADDR (addr s)).set R.RZ_DOMINFO_BKVALID 0
    Clkm.refFail (upd (fold s) (fun r => { r with ref10Hold := false, presHdr := s.get R.RZ_PRES_PRESD })) 10
  else s

/-- A MASTER's listening time ends (R338). -/
def listenEnd (s : State) : State :=
  if s.rz.listening then
    let s := upd s (fun r => { r with listening := false })
    if s.rz.heard then fold ((s.set R.RZ_STAT_ROLE STANDBY).set R.RZ_IFLG_MASTERCONF 1)
    else
      let a := if s.on R.RZ_CFG_ADDRNV then s.get R.RZ_CFG_ADDR else 0
      upd ((s.set R.RZ_STAT_ADDR a).set R.RZ_DOMINFO_MADDR a) (fun r => { r with addressed := true })
  else s

/-- The header of a frame that this master emits with MIDX `m` (R316). -/
def headerOf (s : State) (m : Nat) : RzFrame :=
  { ok := true, half := s.highRate, acting := role s == ACTING, ret := false
    domain := BitVec.ofNat 16 (s.get R.RZ_CFG_DOMAIN), midx := BitVec.ofNat 64 m, muid := BitVec.ofNat 32 (muid s)
    maddr := BitVec.ofNat 10 (addr s), hops := 0, accdly := 0, presd := BitVec.ofNat 16 s.rz.presHdr
    mapcrc := BitVec.ofNat 16 (mapCrc s), slots := [], ackseq := 0, nak := false, resync := false
    resyncAns := false, credits := 0, free := 0, cells := [] }

/-- The slots of a branch's frame: the master's own, and with RELAY those that came VALID on the other branch's return
pass `q` (R325, R329). -/
def slotsFor (s : State) (q : Nat) : List (BitVec 9 × Sample × Bool) :=
  let other := if s.on R.RZ_STAT_BRANCHED ∧ !s.rz.ring then Map.get [] s.rz.back q else []
  s.rz.sent.map (fun e => (BitVec.ofNat 9 e.1, e.2, false)) ++
    (other.filter (fun e => !s.rz.sent.any (fun o => o.1 == e.1))).map (fun e => (BitVec.ofNat 9 e.1, e.2, true))

/-- The master emits a frame on port B, and unless the domain is a ring a second one on port A (R312, R314, R325,
R329); at half rate a frame begins with an even index. -/
def emit (s : State) : State :=
  if isMaster s ∧ !s.rz.listening then
    let m := s.sampIdx / Strm.slotPeriods s * Strm.slotPeriods s
    let s := (s.set R.RZ_MIDXLO_V (m % 2 ^ 32)).set R.RZ_MIDXHI_V (m / 2 ^ 32)
    let crc := mapCrc s
    let s := ((s.set R.RZSLOT_MAPCRC_LOCAL crc).set R.RZSLOT_MAPCRC_HDR crc).set R.RZ_STAT_MAPOK 1
    let s := launchAll (upd (writeSlots s m []) (fun r => { r with emitted := some m }))
    let h := headerOf s m
    let s := sendOn s 1 { h with slots := slotsFor s 0 }
    if s.rz.ring then s else sendOn s 0 { h with slots := slotsFor s 1 }
  else s

/-- What a write of the RZ page refuses (R340). -/
def check (s : State) (off d : Nat) : Option Nat :=
  if off = 0x04 then
    if !bit d 0 ∧ s.on R.RZ_CTRL_EN ∧ ctxs s (fun st => st != .idle) ≠ [] then some 7 else none
  else if off = 0x20 then
    let old := s.rawWord .rz 0 0x20
    if s.on R.RZ_CTRL_EN ∧ (bits d 31 12 ≠ bits old 31 12 ∨ bits d 9 0 ≠ bits old 9 0) then some 7 else none
  else if off = 0x28 then
    let a := bits d 31 29
    if a = 0 ∨ 3 < a then some 6
    else if (a = 1 ∨ a = 2) ∧ !isMaster s then some 7 else none
  else none

/-- What a write of the RZ page does beside storing its fields (R311, R321, R330, R333). -/
def wrote (s old : State) (off d : Nat) : State :=
  if off = 0x04 then
    if s.on R.RZ_CTRL_EN ∧ !old.on R.RZ_CTRL_EN then enable s
    else if !s.on R.RZ_CTRL_EN ∧ old.on R.RZ_CTRL_EN then disable s else s
  else if off = 0x28 then
    let a := bits d 31 29
    if a = 1 then presLow (setPres s)
    else if a = 2 then send s RESET (mkCell s (bits d 9 0) false [])
    else resync (resync s 0) 1
  else s

/-- What a write of the slot table refuses (R341). -/
def checkSlot (s : State) (k off d : Nat) : Option Nat :=
  if off = 0 then (if isMaster s then none else some 7)
  else if off = 4 then
    let a := bits d 1 0
    if a = 0 ∨ a = 3 then some 6
    else if s.get (R.SLT_STATE_STATE k) = 1 ∨ (a = 2 ∧ !mine s k) then some 7 else none
  else none

/-- A write of the slot table: a REQ, or at the master a MAP entry, which is broadcast (R326). -/
def wroteSlot (s : State) (k off d : Nat) : State :=
  if off = 0 then broadcastGrant s k 1 (bits d 25 16) (!bit d 31)
  else if off = 4 then reqWritten s k (bits d 1 0)
  else s

end Sys2Proof.Machine.Rz
end

