-- ==== Sys2Proof/Machine/UsbOps.lean ====
section
/-! DEFINITION. The USB audio function (R289 to R310): attachment, standard requests, streaming, feedback,
clock entities, feature units, HID, suspend, LPM and remote wakeup. -/
namespace Sys2Proof.Machine.Mic
open Sys2Proof Sys2Proof.Machine

/-- PEAT.WIDX. -/
def widx (s : State) : Nat := s.get R.PEAT_WIDXLO_V + 2 ^ 32 * s.get R.PEAT_WIDXHI_V

/-- Context `c` runs in catch-up (R224). -/
def catchUp (s : State) (c : Nat) : Bool := s.on R.WAKE_CUCFG_CATCHUP && s.get R.WAKE_VCTX_DCTX == c

end Sys2Proof.Machine.Mic

namespace Sys2Proof.Machine.Usb
open Sys2Proof Sys2Proof.Machine

/-! The codes of USB.STAT.STATE (R309). -/
def DETACHED : Nat := 0
def DEFAULT : Nat := 1
def ADDRESSED : Nat := 2
def CONFIGURED : Nat := 3
def SUSPENDED : Nat := 4
def L1 : Nat := 5

def state (s : State) : Nat := s.get R.USB_STAT_STATE

/-- The device is attached and the bus is not suspended. -/
def awake (s : State) : Bool := 1 ≤ state s && state s ≤ 3

/-- Change the USB part of the state. -/
def upd (s : State) (f : UsbSt → UsbSt) : State := { s with usb := f s.usb }

/-- Answer the request on endpoint 0. -/
def answer (s : State) (r : Reply) : State := upd s (fun u => { u with reply := r })

/-- Answer with STALL. -/
def stallReply (s : State) : State := answer s (.rejected 0 0)

/-- The RUNNING TYPE 2 contexts. -/
def running (s : State) : List Nat := s.ctxsWhere (fun c => s.cType c == 2 && (s.ctx c).st == .running)

/-- The RUNNING TYPE 2 contexts enter STALLED with CAUSE 4 (R295). -/
def stallAll (s : State) : State := (running s).foldl (fun s c => Strm.stall s c 4) s

/-- Deselect both settings. -/
def noAlts (s : State) : State := (s.set R.USBD_STAT_ALTOUT 0).set R.USBD_STAT_ALTIN 0

/-- The pull-up follows USB_VBUS and CTRL.EN (R290). -/
def attach (s : State) : State :=
  if s.on R.USB_STAT_VBUS ∧ s.on R.USB_CTRL_EN then
    if state s = DETACHED then s.set R.USB_STAT_STATE DEFAULT else s
  else if state s = DETACHED then s
  else
    let s := stallAll (noAlts s)
    let s := ((s.set R.USB_STAT_STATE DETACHED).set R.USB_STAT_SPEED 0).set R.USB_STAT_RWEN 0
    Clkm.refFail (upd s (fun u => { u with address := 0, resuming := false, bulk := [] })) 9

/-- USB_VBUS appears or disappears (R290, R295). -/
def vbus (s : State) (present : Bool) : State := attach (s.setB R.USB_STAT_VBUS present)

/-- A bus reset (R295, R304): the function is no longer configured, so REF9 is not available (R60), and SPEED may change
(R62). -/
def busReset (s : State) (high : Bool) : State :=
  if state s = DETACHED then s
  else
    let s := stallAll (noAlts s)
    let s := ((s.set R.USB_STAT_STATE DEFAULT).set R.USB_STAT_RWEN 0).set R.USB_IFLG_BUSRESET 1
    let s := s.set R.USB_STAT_SPEED (if high ∧ !s.on R.USB_CFG_FSONLY then 2 else 1)
    Clkm.refFail (upd s (fun u => { u with address := 0, resuming := false, bulk := [], reply := .none })) 9

/-- SET_ADDRESS (R309). -/
def setAddress (s : State) (a : Nat) : State :=
  if !awake s ∨ state s = CONFIGURED then s
  else
    let s := upd s (fun u => { u with address := a, reply := .applied })
    s.set R.USB_STAT_STATE (if a = 0 then DEFAULT else ADDRESSED)

/-- High speed. -/
def high (s : State) : Bool := s.get R.USB_STAT_SPEED == 2

/-- The kinds of a transfer (R292). -/
inductive Transfer where
  | control
  | isoOut
  | isoIn
  | interruptIn
  | bulkIn
deriving DecidableEq, Repr

/-- An endpoint: its transfers, and at high and at full speed the largest packet and bInterval (R292). -/
structure Endpoint where
  address : Nat
  transfer : Transfer
  maxHigh : Nat
  maxFull : Nat
  everyHigh : Nat
  everyFull : Nat
deriving DecidableEq, Repr

/-- The endpoints (R292); one without a bInterval has 0 there, and those of R293 their bound. -/
def endpoints : List Endpoint :=
  [⟨0x00, .control, 64, 64, 0, 0⟩, ⟨0x01, .isoOut, 1024, 1023, 1, 1⟩, ⟨0x81, .isoIn, 4, 3, 4, 1⟩,
    ⟨0x82, .isoIn, 1024, 1023, 1, 1⟩, ⟨0x83, .interruptIn, 6, 6, 4, 1⟩, ⟨0x84, .interruptIn, 1, 1, 4, 1⟩,
    ⟨0x85, .bulkIn, 512, 64, 0, 0⟩]

/-- The largest packet of an endpoint at the current speed (R292). -/
def maxPacket (s : State) (a : Nat) : Nat :=
  match endpoints.find? (fun e => e.address == a) with
  | some e => if high s then e.maxHigh else e.maxFull
  | none => 0

/-- The alternate settings of a direction at the current speed. -/
def altsNow (s : State) : List Alt := s.usb.alts.filter (fun a => a.high == high s)

/-- Alternate setting `k` of a direction at the current speed. -/
def alt (s : State) (isIn : Bool) (k : Nat) : Option Alt :=
  (altsNow s).find? (fun a => a.isIn == isIn && a.k == k)

/-- The selected setting of a direction. -/
def selected (s : State) (isIn : Bool) : Nat := s.get (if isIn then R.USBD_STAT_ALTIN else R.USBD_STAT_ALTOUT)

/-- The context of the selected setting; `none` while setting 0 is selected. -/
def boundCtx (s : State) (isIn : Bool) : Option Nat :=
  if selected s isIn = 0 then none else some (Strm.altCtx s isIn (selected s isIn))

/-- A context's NCH and WIDTH match a setting (R295). -/
def matches' (s : State) (c : Nat) (a : Alt) : Bool :=
  s.cNch c == a.nch && Strm.widthOf (s.get (R.CTX_FMT_WIDTH c)) == a.bits

/-- A stalled context resumes at the next boundary once its setting is reselected (R295). -/
def reselect (s : State) (c : Nat) (a : Alt) : State :=
  if s.cType c = 2 ∧ (s.ctx c).st = .stalled ∧ (s.ctx c).cause = 4 ∧ matches' s c a then
    s.updCtx c (fun x => { x with resume := true })
  else s

/-- A RUNNING context whose setting is deselected enters STALLED (R295, AUTOSTART clear). -/
def deselect (s : State) (c : Nat) : State := if s.cType c = 2 then Strm.stall s c 4 else s

/-! Streaming (R296, R297). -/

/-- A sample from its subslot of `n` bytes: left-justified in the audio word (R294). -/
def fromSubslot (n : Nat) (bs : List Byte) : Sample := BitVec.ofNat 32 (leNat (bs.take n) * 2 ^ (8 * (4 - n)))

/-- A sample in its subslot of `n` bytes: the top bytes of the audio word (R294). -/
def toSubslot (n : Nat) (x : Sample) : List Byte := (wordBytes x.toNat).drop (4 - n)

/-- The frames of a packet of setting `a`: whole frames of one subslot a channel, low byte first.
DESIGN CHOICE, notes/assumptions/102.md. -/
def framesOf (a : Alt) (bs : List Byte) : List Frame :=
  (List.range (bs.length / (a.nch * a.subslot))).map (fun i =>
    (List.range a.nch).map (fun j => fromSubslot a.subslot (bs.drop ((i * a.nch + j) * a.subslot))))

/-- The setting that is selected in a direction. -/
def selectedAlt (s : State) (isIn : Bool) : Option Alt :=
  if selected s isIn = 0 then none else alt s isIn (selected s isIn)

/-- An isochronous OUT packet: its frames are written, or it is discarded whole (R296). -/
def outPacket (s : State) (good : Bool) (bs : List Byte) : State :=
  if state s ≠ CONFIGURED then s
  else if !good then s.bump R.USB_ERRCNT_BLKERR
  else match boundCtx s false, selectedAlt s false with
    | some c, some a =>
      if s.cType c = 2 ∧ !s.cSink c then (framesOf a bs).foldl (fun s f => Strm.arrive s c f) s else s
    | _, _ => s

/-- The frames of an IN packet: floor or ceil of the nominal count of a microframe, at full speed of a frame (R296). -/
def inFrames (s : State) (more : Bool) : Nat :=
  let per := if high s then 8000 else 1000
  (s.get R.USBD_SAMFREQ_RATE + (if more then per - 1 else 0)) / per

/-- Take `n` due frames of a context. -/
def takeDue (s : State) (c : Nat) : Nat → List Frame × State
  | 0 => ([], s)
  | n + 1 =>
    let r := Strm.passAll s [c]
    let t := takeDue r.2 c n
    (r.1.map (fun e => e.2) ++ t.1, t.2)

/-- An isochronous IN packet is sent (R294, R296). -/
def inPacket (s : State) (more : Bool) : State :=
  if state s ≠ CONFIGURED then s
  else match boundCtx s true, selectedAlt s true with
    | some c, some a =>
      if s.cType c = 2 ∧ s.cSink c then
        let r := takeDue s c (inFrames s more)
        upd r.2 (fun u => { u with sentIn := r.1.flatMap (fun f => f.flatMap (toSubslot a.subslot)) })
      else s
    | _, _ => s

/-- The feedback value (R297, R298); `m` is M in units of 2^-16 frame (2^-14 at full speed). -/
def feedback (s : State) (m : Nat) : State :=
  match boundCtx s false with
  | none => s
  | some c =>
    if s.cRecon c = 1 then
      let n := if high s then s.get R.USBD_SAMFREQ_RATE * 65536 / 8000 else s.get R.USBD_SAMFREQ_RATE * 16384 / 1000
      s.set R.USBD_FB_FB n
    else
      let raw : Int := ((s.cBufLen c / 2 : Nat) : Int) - (s.ctx c).fill
      let cc : Int := if high s then raw * 16 else raw * 4
      let lim : Int := (m / 1000 : Nat)
      let s := if cc < -lim ∨ lim < cc then s.set R.USBD_IFLG_FBCLAMP 1 else s
      let s := upd s (fun u => { u with fbM := m })
      s.set R.USBD_FB_FB ((m : Int) + clampInt (-lim) lim cc).toNat

/-! Clock entities (R299, R300). -/

/-- The reference that CSMAP gives clock source `k`, 1 to 8; 15 for the device clock. -/
def csRef (s : State) (k : Nat) : Nat :=
  s.get ([R.USBD_CSMAP_CS1, R.USBD_CSMAP_CS2, R.USBD_CSMAP_CS3, R.USBD_CSMAP_CS4, R.USBD_CSMAP_CS5,
    R.USBD_CSMAP_CS6, R.USBD_CSMAP_CS7, R.USBD_CSMAP_CS8].getD (k - 1) R.USBD_CSMAP_CS1)

/-- The validity control of clock source `k`. -/
def csValid (s : State) (k : Nat) : Bool :=
  if csRef s k = 15 then Clkm.state s != Clkm.ACQUIRE
  else Clkm.refState s (csRef s k) == Clkm.QUALIFIED

/-- The interrupt message that the validity control of clock source `k` has changed.  PRESUMED of Audio Class 2.0,
notes/assumptions/101.md. PRESUMED, notes/assumptions/101.md. -/
def validityMessage (k : Nat) : List Byte := [0x00, 0x01, 0x00, 0x02, 0x00, BitVec.ofNat 8 k]

/-- The validity of a clock source changes: a message on endpoint 0x83 (R299). -/
def validity (s : State) (k : Nat) : State :=
  let old := (s.usb.valid.find? (fun e => e.1 == k)).map (fun e => e.2)
  if s.usb.sources.contains k ∧ old ≠ some (csValid s k) then
    upd s (fun u => { u with valid := (k, csValid s k) :: u.valid.filter (fun e => e.1 != k)
                             messages := validityMessage k :: u.messages })
  else s

/-- The pin GET_CUR of the selector returns. -/
def currentPin (s : State) : Nat :=
  match (s.usb.sources.zipIdx).find? (fun e => csRef s e.1 == s.get R.CLKM_STAT_SELREF) with
  | some e => e.2 + 1
  | none => 1

/-- SET_CUR of the sample frequency (R300). -/
def setFreq (s : State) (r : Nat) : State :=
  if !(altsNow s).any (fun a => a.rates.contains r) then stallReply s
  else
    let old := s.get R.USBD_SAMFREQ_RATE
    let run := running s
    let s := (s.set R.USBD_SAMFREQ_RATE r).set R.USB_IFLG_SAMFREQ 1
    let s := if r = old then s else run.foldl (fun s c => Strm.rateChange (Strm.stall s c 3) c (16 * r)) s
    answer s .applied

/-! Feature units (R301, R302). -/

/-- The window of FUMAP and FUVAL for a unit (0: 0x11, 1: 0x21) and channel. -/
def fuWin (unit ch : Nat) : Nat := 1 + 64 * unit + ch

/-- Host Mute and Volume of a channel; channel 0 is the master. -/
def hostVal (s : State) (unit ch : Nat) : Nat × Nat :=
  if ch = 0 then Map.get (0, 0) s.usb.master unit
  else (s.get (R.USBD_FUVAL_MUTE.win (fuWin unit ch)), s.get (R.USBD_FUVAL_VOL.win (fuWin unit ch)))

/-- Keep a host value. -/
def setHostVal (s : State) (unit ch mute vol : Nat) : State :=
  if ch = 0 then upd s (fun u => { u with master := Map.set (0, 0) u.master unit (mute, vol) })
  else (s.set (R.USBD_FUVAL_MUTE.win (fuWin unit ch)) mute).set (R.USBD_FUVAL_VOL.win (fuWin unit ch)) vol

/-- The computed GAIN of a channel (R301). DEDUCED, notes/assumptions/63.md. -/
def fuGain (s : State) (unit ch : Nat) : Nat :=
  let m := hostVal s unit 0
  let c := hostVal s unit ch
  if m.1 ≠ 0 ∨ c.1 ≠ 0 ∨ m.2 = 0x8000 ∨ c.2 = 0x8000 then 0
  else (clampInt 1 4095 (3328 + roundDiv (toSigned 16 m.2) 8 + roundDiv (toSigned 16 c.2) 8)).toNat

/-- The bound channels whose computed GAIN a SET_CUR changes: MXT entry and new GAIN. -/
def fuChanges (old new : State) (unit : Nat) : List (Nat × Nat) :=
  ((List.range 33).filter (fun ch => ch != 0 && new.on (R.USBD_FUMAP_EN.win (fuWin unit ch)) &&
    fuGain old unit ch != fuGain new unit ch)).map (fun ch =>
      (new.get (R.USBD_FUMAP_ENTRY.win (fuWin unit ch)), fuGain new unit ch))

/-- The MXT word of entry `e` with that entry's GAIN replaced and its other 20 bits as they stand in the
inactive half (R302). -/
def fuWord (s : State) (e g : Nat) : Nat :=
  let half := if s.on R.MTX_STAT_HALF then s.mtx.half0 else s.mtx.half1
  let at' := 0x200000 + e / 2 * 4
  let w := match s.acc.staged.find? (fun g => g.addr == at') with
    | some g => g.val
    | none =>
      match s.acc.taken.reverse.find? (fun t => t.addr == at') with
      | some t => t.val
      | none => Map.get 0 half (e / 2 * 2) + 65536 * Map.get 0 half (e / 2 * 2 + 1)
  let a := w % 65536
  let b := w / 65536
  if e % 2 = 0 then (a / 4096 * 4096 + g) + 65536 * b else a + 65536 * (b / 4096 * 4096 + g)

/-- A control a host request names (R299 to R301). -/
def volRange : List Byte := [1, 0, 0x08, 0x98, 0xF8, 0x17, 8, 0]

/-- The sample rates of the current speed, each once. -/
def rateList (s : State) : List Nat := ((altsNow s).flatMap (fun a => a.rates)).eraseDups

/-- Four bytes, low first. -/
def le4 (n : Nat) : List Byte := wordBytes n

/-- The packet is one of a feature unit's SET_CUR (R302). -/
def ofFeature : Own → Bool
  | .feature _ _ _ _ _ => true
  | _ => false

/-! HID (R305). -/

/-- The input report for the present button state. -/
def hidReport (s : State) : Nat :=
  let r := s.get R.USBD_HIDSW_BTN ||| s.jack.pressed
  if s.usb.phoneMute then putBit r 4 true else r

/-- A change of button state sends the input report. -/
def hidInput (s : State) : State := s.set R.USBD_HIDIN_BTN (hidReport s)

/-! Suspend, LPM and remote wakeup (R306 to R308). -/

/-- The bus has been idle for 3 ms (R295, R306). -/
def suspend (s : State) : State :=
  if !awake s then s
  else
    let s := upd (stallAll s) (fun u => { u with before := state s, resuming := false })
    let s := (s.set R.USB_STAT_STATE SUSPENDED).set R.USB_IFLG_SUSPEND 1
    let s := Clkm.refFail s 9
    match s.get R.USB_CFG_SUSPMODE with
    | 1 => Pwr.request s Pwr.STANDBY .usb
    | 2 => Pwr.request s Pwr.LISTEN .usb
    | _ => s

/-- The host's resume signalling (R306). -/
def resume (s : State) : State :=
  if state s ≠ SUSPENDED then s
  else
    let s := (s.set R.USB_STAT_STATE s.usb.before).set R.USB_IFLG_RESUME 1
    Pwr.request (upd s (fun u => { u with resuming := false })) Pwr.IDLE .usb

/-- A transfer on endpoint 0x85 is pending: the catch-up context has frames for the host (R224, R307). -/
def bulkPending (s : State) : Bool :=
  let c := s.get R.WAKE_VCTX_DCTX
  Mic.catchUp s c && !s.on R.WAKE_CUCFG_TGT && (s.ctx c).st == .running &&
    s.mic.ridx.any (fun e => e.1 == c && decide (e.2 < Mic.widx s))

/-- An LPM transaction: ACK into L1, or NYET (R307). -/
def lpm (s : State) (rwake : Bool) : State :=
  if !awake s then s
  else if s.on R.USB_CFG_LPMEN ∧ running s = [] ∧ !bulkPending s then
    let s := upd s (fun u => { u with before := state s, l1Wake := rwake, reply := .applied })
    Clkm.refFail ((s.set R.USB_STAT_STATE L1).set R.USB_IFLG_L1 1) 9
  else answer s .notReady

/-- The device leaves L1 (R307). -/
def l1Exit (s : State) : State :=
  if state s = L1 then upd (s.set R.USB_STAT_STATE s.usb.before) (fun u => { u with resuming := false }) else s

/-- A remote-wakeup cause (R308): resume is signalled if the host has enabled it, else RWDENY.  From suspend
the device first moves to IDLE. -/
def rwake (s : State) : State :=
  let ok := if state s = L1 then s.usb.l1Wake else s.on R.USB_STAT_RWEN
  if !ok then s.set R.USB_IFLG_RWDENY 1
  else if state s = SUSPENDED then
    Pwr.request (upd s (fun u => { u with resuming := true })) Pwr.IDLE .usb
  else if state s = L1 then upd s (fun u => { u with resuming := true })
  else s

/-- The USB path of HOSTWAKE: remote wakeup if the bus is suspended (R217). -/
def hostWake (s : State) : State := if state s = SUSPENDED ∨ state s = L1 then rwake s else s

/-- What a write of the USB and USBD pages refuses (R309, R310). -/
def check (_s : State) (off d : Nat) : Option Nat :=
  if off = 0x20 ∧ bits d 25 24 = 3 then some 6 else none

def checkD (s : State) (off d : Nat) : Option Nat :=
  if 0x20 ≤ off ∧ off < 0x30 then
    let isIn := decide (0x28 ≤ off)
    let i := (off - (if isIn then 0x28 else 0x20)) / 4
    let k := selected s isIn
    let old := s.get (if isIn then R.USBD_ALTIN_CTX i else R.USBD_ALTOUT_CTX i)
    let j := k - 1
    if k ≠ 0 ∧ j / 4 = i ∧ bits old (8 * (j % 4) + 7) (8 * (j % 4)) ≠ bits d (8 * (j % 4) + 7) (8 * (j % 4))
    then some 7 else none
  else if off = 0x30 then
    if (List.range 8).any (fun i => decide (12 ≤ bits d (4 * i + 3) (4 * i)) && decide (bits d (4 * i + 3) (4 * i) ≤ 14))
    then some 6 else none
  else if off = 0x3C then (if bits d 5 0 = 0 ∨ 32 < bits d 5 0 then some 6 else none)
  else if off = 0x40 then (if 12288 ≤ bits d 13 0 then some 6 else none)
  else none

/-- What a write of the USB and USBD pages does beside storing its fields (R290, R305, R308). -/
def wrote (s : State) (off d : Nat) : State :=
  if off = 0x04 then
    let s := attach s
    if bit d 2 then rwake s else s
  else s

def wroteD (s : State) (off : Nat) : State := if off = 0x48 then hidInput s else s

end Sys2Proof.Machine.Usb
end

