-- ==== Sys2Proof/Machine/MicOps.lean ====
section
/-! DEFINITION. Microphones, privacy, Peat and the wake stages (R195 to R231). -/
namespace Sys2Proof.Machine.Vol
open Sys2Proof Sys2Proof.Machine

/-! Ramped digital gains (R198, R233, R237, R264).  Channels 0 to 3 are HPL, HPR, LOUT0 and LOUT1, 4 to 7 the
amplifiers, 8 to 11 the analog inputs and 12 to 43 the microphones. -/

/-- The volume of channel `o` at sample index `p`. -/
def at_ (s : State) (o p : Nat) : Int :=
  let v := Map.get VolSt.unity s.ana.vols o
  if v.since + v.len ≤ p then v.c1 else v.c0 + (v.c1 - v.c0) * ((p - v.since : Nat) : Int) / v.len

/-- A committed volume: channel `o` ramps over `len` samples to gain code `g`, or to zero. -/
def set (s : State) (o g len : Nat) (mute : Bool) : State :=
  let c1 : Int := if mute then 0 else Strm.coef g
  if (Map.get VolSt.unity s.ana.vols o).c1 = c1 then s
  else
    let v : VolSt := ⟨at_ s o s.sampIdx, c1, s.sampIdx, len⟩
    { s with ana := { s.ana with vols := Map.set VolSt.unity s.ana.vols o v } }

/-- Ramps that have ended are at their final volume. -/
def settle (s : State) : State :=
  let f : VolSt → VolSt := fun v => if v.since + v.len ≤ s.sampIdx then ⟨v.c1, v.c1, 0, 0⟩ else v
  { s with ana := { s.ana with vols := (s.ana.vols.map (fun e => (e.1, f e.2))).filter (fun e => e.2 != .unity) } }

/-- A sample at a volume in 2^-23, saturated. -/
def scaled (x : Sample) (c : Int) : Sample := satSample (x.toInt * c / 8388608)

end Sys2Proof.Machine.Vol

namespace Sys2Proof.Machine.Mic
open Sys2Proof Sys2Proof.Machine

/-- Change the microphone part of the state. -/
def upd (s : State) (f : MicSt → MicSt) : State := { s with mic := f s.mic }

/-- Channels of Peat in use (R210). -/
def peatCh (s : State) : Nat := s.get R.PEAT_CFG_NCH + 1

/-- The microphone of Peat channel `c` (R211). -/
def chSrc (s : State) (c : Nat) : Nat :=
  s.get ([R.PEAT_CHSRC_CH0, R.PEAT_CHSRC_CH1, R.PEAT_CHSRC_CH2, R.PEAT_CHSRC_CH3].getD c R.PEAT_CHSRC_CH0)

/-- Peat writes in LISTEN, IDLE and ACTIVE (R211). -/
def peatWrites (s : State) : Bool := decide (2 ≤ s.mode)

/-- The microphones a PDM context covers. -/
def covers (s : State) (c : Nat) : List Nat := (List.range (s.cNch c)).map (fun i => s.cFirst c + i)

/-- The microphones needed (R201). DEDUCED, notes/assumptions/66.md. -/
def needed (s : State) : List Nat :=
  ((s.ctxsWhere (fun c => s.cType c == 4 && !s.idle c)).flatMap (covers s) ++
    (if peatWrites s then (List.range (peatCh s)).map (chSrc s) else [])).eraseDups

/-- APLLA runs (R83, R196): the APLL of the SYSRATE family, or enabled beside it, in IDLE and ACTIVE. -/
def apllaRuns (s : State) : Bool := decide (3 ≤ s.mode) && (Clkm.activeApll s == 0 || s.on R.PLL_CTRL_EN)

/-- The clock of RATE can be made now (R196). -/
def clockCan (s : State) (k : Nat) : Bool :=
  let r := s.get (R.PDM_CLKCFG_RATE k)
  apllaRuns s || (r != 2 && r != 4)

/-- The clocks that serve a needed microphone and can run, as a mask. -/
def clocksWanted (s : State) : Nat :=
  let n := needed s
  maskOf 4 (fun k => n.any (fun m => m / 8 == k) && clockCan s k)

/-- A clock runs. -/
def clockRuns (s : State) (k : Nat) : Bool := bit (s.get R.PDM_STAT_CLKRUN) k

/-- A clock at 2.4 or 4.8 MHz stops with APLLA (R197). -/
def clockLoss (s : State) : State :=
  let lost := (List.range 4).filter (fun k => clockRuns s k && !clockCan s k)
  if lost = [] then s
  else
    let s := s.set R.PDM_STAT_CLKRUN (maskOf 4 (fun k => clockRuns s k && clockCan s k))
    s.set R.PDM_IFLG_CLKLOSS 1

/-- Every clock is low and MICVDD_OUT open (R201, R204). -/
def cutClocks (s : State) : State :=
  let s := (s.set R.PDM_STAT_CLKRUN 0).set R.PDM_STAT_MICVDDON 0
  upd s (fun m => { m with ph := .off, settling := [] })

/-- The clocks follow the microphones needed (R196, R197, R201): clocks newly started settle, a clock that
serves none is low, and with none needed everything stops. -/
def follow (s : State) : State :=
  let s := s.setB R.PDM_STAT_REFSRC (apllaRuns s)
  if needed s = [] then
    if s.mic.ph = .off ∧ s.get R.PDM_STAT_CLKRUN = 0 then s else cutClocks (s.set R.PRIV_STAT_PROBE 0)
  else
    let s := clockLoss s
    if s.mic.ph = .running then
      let want := clocksWanted s
      let new := (List.range 4).filter (fun k => bit want k && !clockRuns s k)
      let ms := (needed s).filter (fun m => new.contains (m / 8))
      upd (s.set R.PDM_STAT_CLKRUN want) (fun m => { m with
        settling := (m.settling ++ ms).filter (fun i => bit want (i / 8)) })
    else s

/-- Step 2 of the start sequence: MICVDD_OUT closes, unless its overcurrent flag stands (R200, R201). -/
def closeVdd (s : State) : State :=
  let s := if s.on R.PDM_IFLG_MICVDDOC then s else (s.set R.PDM_STAT_MICVDDON 1).set R.PDM_STAT_MICVDDOC 0
  upd s (fun m => { m with ph := .vddWait })

/-- A probe of the LIVE indicator begins (R209). -/
def probe (s : State) : State := upd (s.set R.PRIV_STAT_PROBE 1) (fun m => { m with probeBad := false })

/-- The start sequence begins (R201): a probe where LIVEREQ is set, else MICVDD. -/
def start (s : State) : State :=
  if needed s = [] ∨ s.mic.ph ≠ .off ∨ Strm.micsCut s then s
  else if s.on R.PRIV_POLICY_LIVEREQ then upd (probe s) (fun m => { m with ph := .probe })
  else closeVdd s

/-- The MICVDD wait ends: the needed clocks start and settle (R201, 3 and 4). -/
def vddDone (s : State) : State :=
  if s.mic.ph ≠ .vddWait ∨ Strm.micsCut s then s
  else
    let want := clocksWanted s
    let s := s.set R.PDM_STAT_CLKRUN want
    upd s (fun m => { m with ph := .running, settling := (needed s).filter (fun i => bit want (i / 8)) })

/-- A MICVDD_OUT overcurrent (R200). -/
def overcurrent (s : State) : State :=
  if s.on R.PDM_STAT_MICVDDON then
    (((s.set R.PDM_STAT_MICVDDON 0).set R.PDM_STAT_MICVDDOC 1).set R.PDM_IFLG_MICVDDOC 1).bump R.PDM_ERRCNT_BLKERR
  else s

/-- Software has cleared the overcurrent flag, in IFLG or by SRST (R200): the switch closes at once while microphones are
needed, and each delivers zeros for the settle time. -/
def overcurrentCleared (s old : State) : State :=
  if !old.on R.PDM_IFLG_MICVDDOC ∨ s.on R.PDM_IFLG_MICVDDOC then s
  else
  let s := s.set R.PDM_STAT_MICVDDOC 0
  if s.mic.ph = .running ∧ needed s ≠ [] ∧ !Strm.micsCut s then
    upd (s.set R.PDM_STAT_MICVDDON 1) (fun m => { m with settling := needed s })
  else if s.mic.ph = .vddWait then s.set R.PDM_STAT_MICVDDON 1 else s

/-- A microphone delivers its audio (R197, R200, R201, R204): it runs, it is powered and nothing mutes it. -/
def delivers (s : State) (m : Nat) : Bool :=
  !Strm.micsCut s && s.on R.PDM_STAT_MICVDDON && Strm.micRuns s m

/-- A sample of microphone `m` at its gain: 24 significant bits (R198). -/
def gained (s : State) (m : Nat) (x : Sample) : Sample :=
  Vol.scaled x (Vol.at_ s (12 + m) s.sampIdx) &&& 0xFFFFFF00

/-- A frame of a PDM context with the channels that deliver none replaced by zeros (R23) and the others at
their gains; `f` is the frame after the delay trim. -/
def gateFrame (s : State) (c : Nat) (f : Frame) : Frame :=
  (List.range (s.cNch c)).map (fun i =>
    let m := s.cFirst c + i
    if delivers s m then gained s m (f.getD i 0) else 0)

/-! Wake stages (R213 to R222). -/
def SPORE : Nat := 1
def FHD : Nat := 2
def FROND : Nat := 3
def HELD : Nat := 4

def stage (s : State) : Nat := s.get R.WAKE_STAT_STAGE

/-- A candidate is open. -/
def isOpen (s : State) : Bool := stage s == FHD || stage s == FROND

/-- FB of R210. -/
def frameBytes (s : State) : Nat := peatCh s * (if s.on R.PEAT_CFG_WIDTH then 3 else 2)

/-- CAP of R210. -/
def cap (s : State) : Nat := peatSize / frameBytes s

/-- The Peat rate in Hz. -/
def rate (s : State) : Nat := if s.on R.PEAT_CFG_RATE then 16000 else 8000

/-- The oldest valid frame (R211). -/
def oldest (s : State) : Nat := max (widx s - cap s) s.mic.cfgAt

/-- PREROLL in frames (R214). -/
def preroll (s : State) : Nat := s.get R.WAKE_TIMING_PREROLL * rate s / 1000

/-- The START of the candidate. -/
def startIdx (s : State) : Nat := s.get R.WAKE_STARTLO_IDX + 2 ^ 32 * s.get R.WAKE_STARTHI_IDX

/-- Open a candidate at an onset (R214). -/
def openCand (s : State) (onset conf : Nat) : State :=
  let raw := onset - preroll s
  let st := max raw (oldest s)
  let s := (s.set R.WAKE_ONSETLO_IDX (onset % 2 ^ 32)).set R.WAKE_ONSETHI_IDX (onset / 2 ^ 32 % 2 ^ 32)
  let s := (s.set R.WAKE_STARTLO_IDX (st % 2 ^ 32)).set R.WAKE_STARTHI_IDX (st / 2 ^ 32 % 2 ^ 32)
  let s := s.setB R.WAKE_STAT_CLAMPED (decide (onset < preroll s + oldest s))
  ((s.set R.WAKE_CONF_SPORE conf).set R.WAKE_CONF_FHD 0).set R.WAKE_IFLG_T1 1

/-- The open candidate is closed without an accept: it has no START (R215). -/
def close (s : State) (next : Nat) : State :=
  let s := (s.set R.WAKE_STAT_STAGE next).set R.FHD_STAT_ENGAGED 0
  let s := (s.set R.WAKE_STARTLO_IDX 0).set R.WAKE_STARTHI_IDX 0
  upd (s.set R.WAKE_IFLG_REJECT 1) (fun m => { m with seq := 0 })

/-- Close an open candidate and count it. -/
def closeCounted (s : State) (f : Fld) : State := Pwr.release ((close s SPORE).bump f)

/-- The candidate is accepted (R215): kept and counted, and the host is woken through each path that HOSTWAKE sets
(R217).  IFLG.ACCEPT is the path IRQ. DEDUCED, notes/assumptions/96.md. -/
def accept (s : State) : State :=
  let s := (s.set R.WAKE_STAT_STAGE SPORE).set R.FHD_STAT_ENGAGED 0
  let s := (s.set R.WAKE_STAT_ACCPEND 1).bump R.WAKE_EVCNT_ACCEPTS
  let s := upd s (fun m => { m with seq := 0 })
  let s := if s.on R.WAKE_HOSTWAKE_IRQ then s.set R.WAKE_IFLG_ACCEPT 1 else s
  let s := if s.on R.WAKE_HOSTWAKE_USB then Usb.hostWake s else s
  let s := if s.on R.WAKE_HOSTWAKE_RZ then Rz.wakeEvent s else s
  Pwr.release s

/-- The sequencer meets a rejection or a failed admission (R218): the stage proceeds as if FRONDEN were
clear. -/
def seqFailed (s : State) : State := accept (s.set R.WAKE_IFLG_SEQFAIL 1)

/-- The candidate goes to FROND, or with FRONDEN clear is accepted (R215, R218). -/
def toFrond (s : State) : State :=
  let s := s.set R.FHD_STAT_ENGAGED 0
  if s.on R.WAKE_CTRL_FRONDEN then
    let s := s.set R.WAKE_STAT_STAGE FROND
    if s.on R.WAKE_VSEQ_AUTO then
      let s := upd s (fun m => { m with seq := 1 })
      if s.mode < 3 then Pwr.request s Pwr.IDLE .wakeseq else s
    else s
  else accept s

/-- Spore marks an onset, as frames before WIDX (R213); `wait`: it counts in REJCNT.SPORE if no hop reaches T1. -/
def markOnset (s : State) (wait : Bool) (onset : Option Nat) : State :=
  match onset with
  | some b => upd s (fun m => { m with
      lastOnset := some (widx s - b)
      onsets := if wait then m.onsets ++ [(widx s - b, 0)] else m.onsets })
  | none => s

/-- One hop of Spore (R213 to R215): a confidence, and the onset it marks.  It runs on while a candidate is open. -/
def sporeHop (s : State) (conf : Nat) (onset : Option Nat) : State :=
  if isOpen s then
    let s := markOnset s false onset
    if s.get R.WAKE_CONF_SPORE < conf then s.set R.WAKE_CONF_SPORE conf else s
  else if stage s ≠ SPORE then s
  else
    let s := markOnset s true onset
    if s.get R.WAKE_THR_T1 ≤ conf then
      let s := upd s (fun m => { m with onsets := [] })
      if s.on R.WAKE_STAT_ACCPEND then s
      else
        let s := match s.mic.lastOnset with
          | some i => openCand s i conf
          | none => (openCand s (Config.freeValue s.free).toNat conf).tick
        if s.on R.FHD_CTRL_EN ∧ s.on R.FHD_STAT_MODELOK then
          (s.set R.WAKE_STAT_STAGE FHD).set R.FHD_STAT_ENGAGED 1
        else toFrond s
    else
      let late := s.mic.onsets.filter (fun e => 49 ≤ e.2)
      let s := s.addSat R.WAKE_REJCNT_SPORE late.length
      upd s (fun m => { m with onsets := (m.onsets.filter (fun e => e.2 < 49)).map (fun e => (e.1, e.2 + 1)) })

/-- One hop of Fiddlehead (R215). -/
def fhdHop (s : State) (conf : Nat) : State :=
  if stage s ≠ FHD then s
  else
    let s := if s.get R.WAKE_CONF_FHD < conf then s.set R.WAKE_CONF_FHD conf else s
    if s.get R.WAKE_THR_T2 ≤ conf then toFrond (s.set R.WAKE_IFLG_T2 1) else s

/-- The wake stages stop: mute, refusal (R204, R209, R215). -/
def holdStage (s : State) : State :=
  if stage s = 0 then s
  else if isOpen s then Pwr.release ((close s HELD).bump R.WAKE_EVCNT_MUTEDISC)
  else s.set R.WAKE_STAT_STAGE HELD

/-- The stage leaves HELD (R205, R215). -/
def unhold (s : State) : State :=
  if stage s = HELD ∧ !Strm.micsCut s then s.set R.WAKE_STAT_STAGE SPORE else s

/-- WAKE.CTRL.EN changes (R215). -/
def wakeFollow (s old : State) : State :=
  if s.on R.WAKE_CTRL_EN ∧ !old.on R.WAKE_CTRL_EN then
    let s := s.set R.WAKE_STAT_STAGE (if Strm.micsCut s then HELD else SPORE)
    upd s (fun m => { m with onsets := [], lastOnset := none })
  else if !s.on R.WAKE_CTRL_EN ∧ old.on R.WAKE_CTRL_EN then
    let s := if isOpen s then close s 0 else s.set R.WAKE_STAT_STAGE 0
    Pwr.release (s.set R.WAKE_STAT_ACCPEND 0)
  else s

/-- WAKE_DEFER elapses (R222): the verifier contexts receive STOP. -/
def deferExpire (s : State) : State :=
  if isOpen s ∧ s.on R.WAKE_STAT_DEFER then
    let c := s.get R.WAKE_VCTX_CTX
    let s := if stage s = FROND ∧ s.on R.WAKE_VCTX_VEN ∧ s.live c then
        { s with strm := { s.strm with reqs := s.strm.reqs ++ [(c, Req.stop)] } }
      else s
    let s := ((close s SPORE).bump R.WAKE_REJCNT_DEFERDISC).set R.WAKE_IFLG_DEFERDISC 1
    Pwr.release s
  else s

/-! Mute and refusal (R202 to R209). -/

/-- The cuts of R204 in hardware; MICBIAS and the marked inputs follow in their own pages. -/
def cut (s : State) : State :=
  let s := cutClocks s
  holdStage s

/-- Capture is refused (R209). -/
def refuse (s : State) : State :=
  if s.on R.PRIV_STAT_LIVEFLT then s
  else cut (((s.set R.PRIV_STAT_LIVEFLT 1).set R.PRIV_IFLG_LIVEFLT 1).bump R.PRIV_EVCNT_LIVEFLT)

/-- MUTED follows HWMUTE and SWMUTE (R202, R204, R205). -/
def muteFollow (s : State) : State :=
  let s := s.set R.PRIV_STAT_SWMUTE (s.get R.PRIV_CTRL_SWMUTE)
  let m := s.on R.PRIV_STAT_HWMUTE || s.on R.PRIV_CTRL_SWMUTE
  if m ∧ !s.on R.PRIV_STAT_MUTED then
    let s := ((s.set R.PRIV_STAT_MUTED 1).set R.PRIV_IFLG_MUTE 1).bump R.PRIV_EVCNT_MUTES
    let s := upd (cut (s.set R.PRIV_STAT_PROBE 0)) (fun m => { m with zeroing := true })
    Usb.upd s (fun u => { u with phoneMute := u.phoneMute || s.on R.USB_CFG_HIDMUTE })
  else if !m ∧ s.on R.PRIV_STAT_MUTED then
    let s := (s.set R.PRIV_STAT_MUTED 0).set R.PRIV_IFLG_UNMUTE 1
    Usb.upd s (fun u => { u with phoneMute := u.phoneMute || s.on R.USB_CFG_HIDMUTE })
  else s

/-- MUTE_SW_N has held a level for tDEB (R202): low mutes. -/
def hwMute (s : State) (high : Bool) : State := muteFollow (s.setB R.PRIV_STAT_HWMUTE (!high))

/-- Peat has been overwritten (R204). -/
def peatZeroed (s : State) : State :=
  if s.mic.zeroing then
    upd ((s.clearBytes peatBase (peatBase + peatSize)).set R.PRIV_IFLG_PEATZERO 1)
      (fun m => { m with zeroing := false })
  else s

/-- The end of a LIVE probe (R209). -/
def probeEnd (s : State) : State :=
  if !s.on R.PRIV_STAT_PROBE then s
  else
    let s := s.set R.PRIV_STAT_PROBE 0
    if s.mic.probeBad then
      if s.on R.PRIV_STAT_LIVEFLT then upd s (fun m => { m with ph := .off }) else refuse s
    else
      let s := s.set R.PRIV_STAT_LIVEFLT 0
      if s.on R.PRIV_STAT_MUTED ∨ needed s = [] then upd s (fun m => { m with ph := .off }) else closeVdd s

/-- A new probe while capture is refused (R209). -/
def reprobe (s : State) : State :=
  if s.on R.PRIV_STAT_LIVEFLT ∧ !s.on R.PRIV_STAT_PROBE then probe s else s

/-- An input marked in MICAIN is connected with its ADC enabled (R207). -/
def ainLive (s : State) : Bool :=
  !Strm.micsCut s && (List.range 4).any (fun n =>
    bit (s.get R.PRIV_POLICY_MICAIN) n && s.on (R.AIN_INCFG_EN n) && s.on R.AIN_CTRL_EN &&
    decide (3 ≤ s.mode) && (n != 3 || !s.on R.JACK_CTRL_EN || s.get R.JACK_STAT_TYPE == 3 ||
      s.get R.JACK_STAT_TYPE == 4))

/-- Microphone capture is live (R207). -/
def live (s : State) : Bool := s.get R.PDM_STAT_CLKRUN != 0 || ainLive s

/-- CD6 is driven by the privacy logic now (R207). -/
def cd6Driven (s : State) : Bool := s.on R.PRIV_POLICY_IND6 && (live s || s.on R.PRIV_STAT_PROBE)

/-- CD7 is driven by the privacy logic now (R207). -/
def cd7Driven (s : State) : Bool :=
  s.on R.PRIV_POLICY_IND7 && (s.on R.PRIV_STAT_MUTED || s.on R.PRIV_STAT_LIVEFLT)

/-- A compliance fault or open load on CD6 while it is driven (R208, R209). -/
def liveFault (s : State) : State :=
  if !cd6Driven s then s
  else
    let s := if s.on R.PRIV_STAT_PROBE then upd s (fun m => { m with probeBad := true }) else s
    if s.on R.PRIV_POLICY_LIVEREQ ∧ live s then refuse s else s

/-! Peat (R210, R211, R219, R223). -/

/-- The bytes of one sample in Peat: its top 16 or 24 bits. -/
def sampleBytes (s : State) (x : Sample) : List Byte :=
  let b := wordBytes x.toNat
  if s.on R.PEAT_CFG_WIDTH then b.drop 1 else b.drop 2

/-- Frame `f` of Peat, as audio words. -/
def readFrame (s : State) (f : Nat) : Frame :=
  let w := frameBytes s / peatCh s
  (List.range (peatCh s)).map (fun c =>
    BitVec.ofNat 32 (leNat (s.bytes (peatBase + frameBytes s * (f % cap s) + w * c) w) * 2 ^ (32 - 8 * w)))

/-- The RUNNING TYPE 13 contexts. -/
def wakeCtxs (s : State) : List Nat := s.ctxsWhere (fun c => s.cType c == 13 && (s.ctx c).st == .running)

/-- The channels of Peat frame `f` that context `c` binds (R223). -/
def ctxFrame (s : State) (c f : Nat) : Frame :=
  let fr := readFrame s f
  (List.range (s.cNch c)).map (fun i => fr.getD (s.cFirst c + i) 0)

/-- Peat writes one frame, and every TYPE 13 context reads the frame at its read index (R211, R223). -/
def peatFrame (s : State) (xs : List Sample) : State :=
  if !peatWrites s then s
  else
    let i := widx s
    let bs := (List.range (peatCh s)).flatMap (fun c =>
      sampleBytes s (if delivers s (chSrc s c) ∧ !s.mic.zeroing then xs.getD c 0 else 0))
    let s := s.setBytes (peatBase + frameBytes s * (i % cap s)) bs
    let s := (s.set R.PEAT_WIDXLO_V ((i + 1) % 2 ^ 32)).set R.PEAT_WIDXHI_V ((i + 1) / 2 ^ 32 % 2 ^ 32)
    (wakeCtxs s).foldl (fun s c =>
      let r := Map.get 0 s.mic.ridx c
      if catchUp s c then s
      else upd (Strm.arrive s c (ctxFrame s c r)) (fun m => { m with ridx := Map.insert c (r + 1) (Map.erase c m.ridx) })) s

/-- At a boundary: a TYPE 13 context that has entered RUNNING starts at the START of the candidate, or
PREROLL back (R215, R219); a context that no longer runs has no read index. -/
def startReads (s : State) : State :=
  let s := upd s (fun m => { m with ridx := m.ridx.filter (fun e => s.live e.1) })
  (wakeCtxs s).foldl (fun s c =>
    if s.mic.ridx.any (fun e => e.1 == c) then s
    else
      let has := isOpen s || s.on R.WAKE_STAT_ACCPEND
      let r := if has then startIdx s else max (widx s - preroll s) (oldest s)
      let s := s.set R.WAKE_STAT_CUDONE 0
      upd (if isOpen s then s else s.set R.WAKE_STAT_ACCPEND 0)
        (fun m => { m with ridx := Map.insert c r m.ridx })) s

/-- The accepted START becomes an invalid frame (R215). -/
def candExpired (s : State) : State :=
  if s.on R.WAKE_STAT_ACCPEND ∧ startIdx s < oldest s then
    (s.set R.WAKE_STAT_ACCPEND 0).bump R.WAKE_EVCNT_EXPIRED
  else s

/-- The packets of a transfer on endpoint 0x85: it ends with a short one, or one of length zero (R292). -/
def bulkPackets (s : State) (bs : List Byte) : List (List Byte) :=
  let m := Usb.maxPacket s 0x85
  (List.range (bs.length / m + 1)).map (fun i => (bs.drop (m * i)).take m)

/-- The most frames of context `c` in one USB transfer of 4,096 bytes (R224). -/
def bulkFrames (s : State) (c : Nat) : Nat := 4088 / (s.cNch c * (frameBytes s / peatCh s))

/-- A frame on the slots of a SAP target: the valid word and the samples of Peat frame `i`, or zeros (R224). -/
def slotsOut (i : Option Nat) (f : Frame) : Frame :=
  match i with
  | some k => BitVec.ofNat 32 (k % 2 ^ 24 * 256 + 1) :: f
  | none => 0 :: f.map (fun _ => 0)

/-- A catch-up context sends up to `n` frames to its target, counted in OUT, until its lag is 0 (R224): one USB transfer,
or `n` port frames of which those that carry none are not counted. -/
def catchUpSend (s : State) (n : Nat) : State :=
  let c := s.get R.WAKE_VCTX_DCTX
  let r := Map.get 0 s.mic.ridx c
  if !catchUp s c ∨ (s.ctx c).st ≠ .running ∨ !s.mic.ridx.any (fun e => e.1 == c) then s
  else
    let sap := s.on R.WAKE_CUCFG_TGT
    let k := min (if sap then n else min n (bulkFrames s c)) (widx s - r)
    let fs := (List.range k).map (fun i => ctxFrame s c (r + i))
    let s := s.updCtx c (fun x => { x with
      cin := x.cin + BitVec.ofNat 48 k, cout := x.cout + BitVec.ofNat 48 k, last := fs.getLastD x.last })
    let s := upd s (fun m => { m with ridx := Map.insert c (r + k) (Map.erase c m.ridx) })
    let sent := fs.zipIdx.map (fun e => slotsOut (some (r + e.2)) e.1) ++
      List.replicate (n - k) (slotsOut none (zeroFrame (s.cNch c)))
    let bulk := wordBytes (r % 2 ^ 32) ++ wordBytes (r / 2 ^ 32) ++ fs.flatMap (fun f => f.flatMap (sampleBytes s))
    let s := if sap then upd s (fun m => { m with cuSent := sent })
      else if k = 0 then s
      else Usb.upd s (fun u => { u with bulk := bulkPackets s bulk })
    if widx s = r + k then s.set R.WAKE_STAT_CUDONE 1 else s

/-- The target of a catch-up context meets R224 for the START of context `c`. -/
def cuTarget (s : State) (c : Nat) : Bool :=
  if !catchUp s c then true
  else if !s.on R.WAKE_CUCFG_TGT then true
  else
    let p := s.get R.WAKE_CUCFG_PORT
    let mult := s.get R.WAKE_CUCFG_RATE + 2
    let first := s.get R.WAKE_CUCFG_FIRST
    s.on (R.SAP_CTRL_EN p) && s.on (R.SAP_CTRL_MASTER p) && s.get (R.SAP_FMT_MODE p) == 0 &&
    s.get (R.SAP_FRATE_RATE p) == 16 * mult * rate s && decide (first + s.cNch c + 1 ≤ Strm.slots s p) &&
    (s.ctxsWhere (fun d => Strm.onPort s p d && !s.idle d && decide (s.cFirst d < first + s.cNch c + 1) &&
      decide (first < s.cFirst d + s.cNch d))) == []

/-! The Fiddlehead model (R225). -/

/-- FHD.WCTRL.START (R225). -/
def modelStart (s : State) : State :=
  upd (s.set R.FHD_STAT_MODELOK 0) (fun m => { m with model := [], loading := true })

/-- The word at byte `o` of a model. -/
def modelWord (bs : List Byte) (o : Nat) : Nat := leNat ((bs.drop o).take 4)

/-- The number of bytes the model being loaded takes; `none` until its WSIZE has arrived. -/
def modelSize (bs : List Byte) : Option Nat := if bs.length < 12 then none else some (modelWord bs 8 + 32)

/-- The header and the CRC of a complete model (R225). -/
def modelGood (bs : List Byte) : Bool :=
  let wsize := modelWord bs 8
  let nin := bits (modelWord bs 12) 7 0
  let hop := bits (modelWord bs 16) 15 0
  modelWord bs 0 == 0x44484646 && wsize % 4 == 0 && decide (wsize ≤ 262112) &&
  (nin == 1 || nin == 2) && decide (80 ≤ hop) && decide (hop ≤ 800) && modelWord bs 24 == 0 &&
  crc32 (bs.take 28 ++ bs.drop 32) == modelWord bs 28

/-- Model bytes arrive through FHD.WFIFO (R225). -/
def modelBytes (s : State) (bs : List Byte) : State :=
  let all := s.mic.model ++ bs
  let s := upd s (fun m => { m with model := all })
  if modelSize all = some all.length then
    let s := upd s (fun m => { m with loading := false })
    if modelGood all then
      upd (((s.set R.FHD_STAT_MODELOK 1).set R.FHD_IFLG_MODELOK 1).set R.FHD_MINFO_VERSION (modelWord all 4))
        (fun m => { m with weights := all.drop 32 })
    else s.set R.FHD_IFLG_MODELBAD 1
  else s

/-- Bytes beyond WSIZE + 32 are rejected (R225); without a model load open every byte is. -/
def modelCheck (s : State) (n : Nat) : Option Nat :=
  if !s.mic.loading then some 6
  else match modelSize s.mic.model with
    | some k => if k < s.mic.model.length + n then some 6 else none
    | none => if 262144 < s.mic.model.length + n then some 6 else none

/-! What the arbiter asks of the pages PDM, PRIV, WAKE, PEAT and FHD. -/

/-- Microphone `m` is covered by a context that is not IDLE. -/
def covered (s : State) (m : Nat) : Bool :=
  s.ctxsWhere (fun c => s.cType c == 4 && !s.idle c && (covers s c).contains m) != []

def checkPdm (s : State) (off d : Nat) : Option Nat :=
  if off = 0x20 then (if bits d 31 24 = 0 then some 6 else none)
  else if 0x24 ≤ off ∧ off < 0x34 then
    let k := (off - 0x24) / 4
    let r := bits d 2 0
    if 6 ≤ r then some 6
    else if (r = 2 ∨ r = 4) ∧ (List.range (peatCh s)).any (fun c => chSrc s c / 8 == k) then some 6
    else if clockRuns s k ∧ r ≠ s.get (R.PDM_CLKCFG_RATE k) then some 7 else none
  else if 0x34 ≤ off ∧ off < 0x44 then
    let g := (off - 0x34) / 4
    if 6 ≤ bits d 3 0 then some 6
    else if (s.ctxsWhere (fun c => s.cType c == 4 && s.cInst c == g && !s.idle c)) ≠ [] ∧
        d ≠ s.rawWord .pdm 0 0x34 * b2n (g == 0) + (if g = 0 then 0 else
          s.get (R.PDM_GRPCFG_DCBLK g) * 16 + s.get (R.PDM_GRPCFG_RATE g)) then some 7 else none
  else if 0x44 ≤ off ∧ off < 0xC4 then
    let m := (off - 0x44) / 4
    if covered s m ∧ (b2n (bit d 31) ≠ s.get (R.PDM_MICCFG_EN m) ∨ bits d 29 28 ≠ s.get (R.PDM_MICCFG_GRP m) ∨
        bits d 9 0 ≠ s.get (R.PDM_MICCFG_TRIM m)) then some 7 else none
  else none

def checkPriv (off d : Nat) : Option Nat :=
  if off = 0x20 then
    if (bit d 0 ∧ !bit d 1) ∨ bits d 23 16 = 0 ∨ 200 < bits d 23 16 ∨ bits d 31 24 = 0 ∨ 200 < bits d 31 24
    then some 6 else none
  else none

def checkWake (s : State) (off d : Nat) : Option Nat :=
  if off = 0x20 then
    if bits d 15 8 = 0 ∨ bits d 7 0 = 0 ∨ bits d 15 8 < bits d 7 0 then some 6 else none
  else if off = 0x24 then
    if bits d 31 16 = 0 ∨ bits d 15 0 = 0 ∨ cap s < bits d 15 0 * rate s / 1000 then some 6 else none
  else if off = 0x28 then (if bits d 31 16 = 0 ∨ bits d 15 0 = 0 then some 6 else none)
  else if off = 0x30 then (if bits d 5 0 ≠ 0 then some 6 else none)
  else if off = 0x38 then
    if bits d 1 0 = 0 ∨ bits d 1 0 = 3 then some 6 else if stage s ≠ FROND then some 7 else none
  else if off = 0x58 then (if bits d 26 24 = 6 ∨ bits d 26 24 = 7 ∨ bits d 9 8 = 3 then some 6 else none)
  else none

def checkPeat (s : State) (off d : Nat) : Option Nat :=
  let busy := s.on R.WAKE_CTRL_EN || s.ctxsWhere (fun c => s.cType c == 13 && !s.idle c) != []
  if off = 0x20 then
    if s.on R.WAKE_CTRL_EN ∧ (!bit d 8 ∨ (s.on R.FHD_CTRL_EN ∧ bits d 17 16 = 0)) then some 6
    else if busy then some 7 else none
  else if off = 0x24 then
    if busy then some 7 else none
  else none

def wrotePdm (s old : State) (off : Nat) : State :=
  let s := overcurrentCleared s old
  if 0x44 ≤ off ∧ off < 0xC4 then
    let m := (off - 0x44) / 4
    follow (Vol.set s (12 + m) (s.get (R.PDM_MICCFG_GAIN m)) (if 3 ≤ s.mode then s.blkLen else 0) false)
  else follow s

def wrotePriv (s : State) (off : Nat) : State := if off = 0x04 then muteFollow s else s

def wroteWake (s old : State) (off d : Nat) : State :=
  if off = 0x04 then wakeFollow s old
  else if off = 0x38 then
    if bits d 1 0 = 1 then accept s else closeCounted s R.WAKE_REJCNT_FROND
  else s

/-- A change of PEAT.CFG makes the frames before it invalid (R211). -/
def wrotePeat (s old : State) (off : Nat) : State :=
  if off = 0x20 then
    let same := [R.PEAT_CFG_NCH, R.PEAT_CFG_WIDTH, R.PEAT_CFG_RATE].all (fun f => s.get f == old.get f)
    follow (if same then s else upd s (fun m => { m with cfgAt := widx s }))
  else if off = 0x24 then follow s else s

def wroteFhd (s : State) (off d : Nat) : State := if off = 0x20 ∧ bit d 0 then modelStart s else s

end Sys2Proof.Machine.Mic
end

