-- ==== Sys2Proof/Machine/AnaOps.lean ====
section
/-! DEFINITION. Analog inputs, microphone bias, headphone and line outputs, and the jack (R232 to R257). -/
namespace Sys2Proof.Machine.Ain
open Sys2Proof Sys2Proof.Machine

/-- The PGA setting in force of input `n`, dB (R233). -/
def pga (s : State) (n : Nat) : Nat := Map.get 0 s.ana.pga n

/-- A PGA change waits for a zero crossing of input `n`. -/
def pgaWaits (s : State) (n : Nat) : Bool := pga s n != s.get (R.AIN_INCFG_PGA n)

/-- The PGA change of input `n` takes effect (R233). -/
def pgaNow (s : State) (n : Nat) : State :=
  { s with ana := { s.ana with pga := Map.set 0 s.ana.pga n (s.get (R.AIN_INCFG_PGA n)) } }

/-- MICBIASn is asked for (R235): its enable, or for MICBIAS1 a jack that biases a pole. -/
def biasWanted (s : State) (n : Nat) : Bool :=
  if n = 0 then s.on R.AIN_BIAS_MB0EN
  else s.on R.AIN_BIAS_MB1EN || (s.on R.JACK_CTRL_EN &&
    (s.get R.JACK_STAT_JSTATE == 3 || s.get R.JACK_STAT_TYPE == 3 || s.get R.JACK_STAT_TYPE == 4))

/-- MICBIASn supplies its voltage: asked for, not cut by mute or refusal, not off on overcurrent. -/
def biasOn (s : State) (n : Nat) : Bool :=
  biasWanted s n && !Strm.micsCut s && !bit s.ana.biasOff n && decide (3 ≤ s.mode)

/-- A MICBIAS output has held its limit for 1 ms (R235): it is off until software clears the flag, also where STAT.MBOC,
which is CO, reads 0 again. DESIGN CHOICE, notes/assumptions/99.md. -/
def biasOvercurrent (s : State) (n : Nat) : State :=
  if biasOn s n then
    let s := ((s.setBit R.AIN_STAT_MBOC n true).set R.AIN_IFLG_MBOC 1).bump R.AIN_ERRCNT_BLKERR
    { s with ana := { s.ana with biasOff := s.ana.biasOff ||| 2 ^ n } }
  else s

/-- An input is disconnected by privacy (R204). -/
def isCut (s : State) (n : Nat) : Bool := Strm.micsCut s && bit (s.get R.PRIV_POLICY_MICAIN) n

/-- Input `n` delivers its audio (R204, R245, R251). -/
def delivers (s : State) (n : Nat) : Bool :=
  s.on R.AIN_CTRL_EN && s.on (R.AIN_INCFG_EN n) && !isCut s n &&
  (n != 3 || !s.on R.JACK_CTRL_EN ||
    ((s.get R.JACK_STAT_TYPE == 3 || s.get R.JACK_STAT_TYPE == 4) && !s.on R.PRIV_STAT_MUTED &&
      !s.ana.btnMute))

/-- The sample of input `n` before its digital gain: with the high-pass filter off it is the 24-bit sample of the ADC,
the low 8 bits 0 (R232).  The filter's result is the operand's. DESIGN CHOICE, notes/assumptions/85.md. -/
def filtered (s : State) (n : Nat) (x : Sample) : Sample :=
  if s.get (R.AIN_INCFG_HPF n) = 0 then x &&& 0xFFFFFF00 else x

/-- A frame of a TYPE 5 context: inputs that deliver none give zeros, a clip is flagged, a PGA change finds
its zero crossing, and the digital gain follows (R232 to R234).  `f` is the frame before that gain. -/
def arrive (s : State) (c : Nat) (f : Frame) (clip : Bool) : Frame × State :=
  let g := (List.range (s.cNch c)).map (fun i =>
    if delivers s (s.cFirst c + i) then filtered s (s.cFirst c + i) (f.getD i 0) else 0)
  let s := if clip then { s.set R.AIN_IFLG_CLIP 1 with ana := { s.ana with clipBlk := true } } else s
  let s := (List.range (s.cNch c)).foldl (fun s i =>
    let n := s.cFirst c + i
    let x := g.getD i 0
    let s := if pgaWaits s n ∧ Strm.crosses (Map.get 0 s.ana.prev n) x then pgaNow s n else s
    { s with ana := { s.ana with prev := Map.set 0 s.ana.prev n x } }) s
  (g.zipIdx.map (fun e => Vol.scaled e.1 (Vol.at_ s (8 + s.cFirst c + e.2) s.sampIdx)), s)

/-- AIN.INCFG of input `n` has been committed: the digital gain ramps over one block (R233). -/
def gainCommitted (s : State) (n : Nat) : State := Vol.set s (8 + n) (s.get (R.AIN_INCFG_DGAIN n)) s.blkLen false

/-- At a boundary a block with a clipped sample is counted (R234). -/
def boundary (s : State) : State :=
  if s.ana.clipBlk then { s.bump R.AIN_ERRCNT_BLKERR with ana := { s.ana with clipBlk := false } } else s

def check (s : State) (off d : Nat) : Option Nat :=
  if 0x20 ≤ off ∧ off < 0x30 then
    let n := (off - 0x20) / 4
    if 43 ≤ bits d 21 16 then some 6
    else if (s.ctxsWhere (fun c => s.cType c == 5 && !s.idle c && decide (s.cFirst c ≤ n) &&
        decide (n < s.cFirst c + s.cNch c))) ≠ [] ∧
        (b2n (bit d 30) ≠ s.get (R.AIN_INCFG_SE n) ∨ bits d 29 28 ≠ s.get (R.AIN_INCFG_HPF n)) then some 7
    else none
  else none

/-- A cleared overcurrent flag lets the bias outputs return (R235). -/
def wrote (s : State) : State :=
  if s.on R.AIN_IFLG_MBOC then s
  else { s.set R.AIN_STAT_MBOC 0 with ana := { s.ana with biasOff := 0 } }

end Sys2Proof.Machine.Ain

namespace Sys2Proof.Machine.Out
open Sys2Proof Sys2Proof.Machine

/-- The phase of an output stage: 0 the headphone, 1 and 2 the line outputs. -/
def ph (s : State) (o : Nat) : OutPh := Map.get .off s.ana.outs o

/-- Change the phase of an output stage. -/
def setPh (s : State) (o : Nat) (p : OutPh) : State :=
  { s with ana := { s.ana with outs := Map.set .off s.ana.outs o p } }

/-- The load found is too low for the headphone stage (R249). -/
def tooLow (s : State) : Bool := s.get R.JACK_STAT_ZCLASS == 1 && !s.on R.HP_CFG_LOWZOK

/-- The jack lets the headphone stage run (R243, R247 to R249): with JGATE in READY alone; without, where no plug is in,
in PENDING, in READY, and in REMDEB of the last two. DEDUCED, notes/assumptions/98.md. -/
def jackLets (s : State) : Bool :=
  let at' : Nat → Bool := fun j => j == 2 || (j == 5 && !tooLow s)
  match s.get R.JACK_STAT_JSTATE with
  | 5 => !tooLow s
  | 0 => !s.on R.HP_CFG_JGATE
  | 6 => !s.on R.HP_CFG_JGATE && at' s.jack.before
  | j => !s.on R.HP_CFG_JGATE && at' j

/-- An output stage is to run (R238, R239). -/
def wanted (s : State) (o : Nat) : Bool :=
  decide (3 ≤ s.mode) && !s.winding && !s.pwr.stopping &&
  (if o = 0 then s.on R.HP_CTRL_EN && !s.on R.HP_IFLG_OCP && jackLets s
   else s.on R.LOUT_CTRL_EN && s.on (if o = 1 then R.LOUT_CFG_OEN0 else R.LOUT_CFG_OEN1) &&
     !bit (s.get R.LOUT_IFLG_OCP) (o - 1))

/-- A low load in READY is flagged (R249). -/
def lowZ (s : State) : State :=
  if s.get R.JACK_STAT_JSTATE = 5 ∧ tooLow s then s.set R.HP_IFLG_LOWZ 1 else s

/-- The mute ramp of an output in samples (R237, R240). -/
def muteLen (s : State) (o : Nat) : Nat := s.get (if o = 0 then R.HP_CFG_MRAMP else R.LOUT_CFG_MRAMP) * s.blkLen

/-- A stage that is no longer to run begins its stop order (R240): audio that plays ramps to zero over MRAMP blocks, and
a start order in progress, whose audio is a forced zero, goes no further. -/
def beginStop (s : State) (o : Nat) : State :=
  let s := if o = 0 then s.set R.HP_STAT_STATE 3 else s
  match ph s o with
  | .on _ => setPh s o (.fade s.sampIdx (muteLen s o) false)
  | .fade _ _ _ => s
  | _ => setPh s o (.fade s.sampIdx 0 false)

/-- The stages that run and are no longer to run begin their stop orders. DEDUCED, notes/assumptions/98.md. -/
def follow (s : State) : State :=
  [0, 1, 2].foldl (fun s o => if ph s o = .off ∨ wanted s o then s else beginStop s o) s

/-- A plug has left: the headphone outputs ramp to zero within 1 ms (R247), a ramp that runs already no later.
The length is the model's choice. DESIGN CHOICE, notes/assumptions/109.md. -/
def fastMute (s : State) : State :=
  let n := s.sysRate / 1000
  match ph s 0 with
  | .on _ => setPh s 0 (.fade s.sampIdx n true)
  | .fade t m p => setPh s 0 (.fade t (min m (s.sampIdx - t + n)) p)
  | _ => s

/-- The outputs that a plug's leaving has muted ramp back in over a block, before their stop order has ended or, with
JGATE clear, without one (R247, R248). -/
def unmute (s : State) : State :=
  match ph s 0 with
  | .fade _ _ true =>
    if wanted s 0 then
      let s := if s.get R.HP_STAT_STATE = 3 then s.set R.HP_STAT_STATE 2 else s
      setPh s 0 (.on (some s.sampIdx))
    else s
  | _ => s

/-- Steps 1 to 4 of the start order begin (R239). -/
def start (s : State) (o : Nat) : State :=
  if ph s o ≠ .off ∨ !wanted s o then (if o = 0 then lowZ s else s)
  else if o = 0 then
    setPh (s.set R.HP_STAT_STATE 1) 0 (if s.on R.HP_STAT_CPOK then .servo else .pump)
  else setPh s o .servo

/-- The charge pump is in regulation (R239, 2); for an impedance measurement the clamp opens (R246, 1). -/
def pumpReady (s : State) : State :=
  if ph s 0 = .pump then setPh (s.set R.HP_STAT_CPOK 1) 0 .servo
  else if s.get R.HP_STAT_STATE = 4 then (s.set R.HP_STAT_CPOK 1).set R.HP_STAT_CLAMP 0 else s

/-- The servo has acquired the offset and the clamp opens (R239, 4 and 5). -/
def servoDone (s : State) (o ofsL ofsR : Nat) : State :=
  if ph s o ≠ .servo then s
  else if o = 0 then
    let s := ((s.set R.HP_STAT_SERVO 1).set R.HP_STAT_CLAMP 0).set R.HP_SERVOOFS_OFSL ofsL
    setPh (s.set R.HP_SERVOOFS_OFSR ofsR) 0 .opened
  else setPh s o .opened

/-! Volumes (R237). -/

/-- HP.VOL or LOUT.VOL has been committed; `old` is the state before (R237). -/
def volCommitted (s old : State) (hp : Bool) : State :=
  let fs := if hp then
      [(0, R.HP_VOL_VOLL, R.HP_VOL_MUTEL), (1, R.HP_VOL_VOLR, R.HP_VOL_MUTER)]
    else [(2, R.LOUT_VOL_VOL0, R.LOUT_VOL_MUTE0), (3, R.LOUT_VOL_VOL1, R.LOUT_VOL_MUTE1)]
  let m := s.get (if hp then R.HP_CFG_MRAMP else R.LOUT_CFG_MRAMP)
  fs.foldl (fun s e =>
    Vol.set s e.1 (s.get e.2.1) (if s.get e.2.2 = old.get e.2.2 then s.blkLen else m * s.blkLen) (s.on e.2.2)) s

/-- The outputs of a TYPE 6 or TYPE 7 sink carry a frame (R236, R237, R239, R240). -/
def play (s : State) (c : Nat) (f : Frame) : State :=
  (List.range (s.cNch c)).foldl (fun s i =>
    let ch := (if s.cType c = 6 then 0 else 2) + s.cFirst c + i
    let o := if ch < 2 then 0 else ch - 1
    let y := Vol.scaled (f.getD i 0) (Vol.at_ s ch s.sampIdx)
    let y := match ph s o with
      | .on none => y
      | .on (some t) => if s.sampIdx < t + s.blkLen then Config.ramp (s.sampIdx - t) s.blkLen y else y
      | .fade t n _ => if s.sampIdx < t + n then Config.ramp (n - (s.sampIdx - t)) n y else 0
      | _ => 0
    { s with ana := { s.ana with dac := Map.set 0 s.ana.dac ch y } }) s

/-- A boundary at a stage: step 6 begins and the audio ramps in, but not while a plug leaves; the end of the ramp-in
completes the start order (R239, R247, R255). -/
def boundaryOf (s : State) (o : Nat) : State :=
  match ph s o with
  | .opened =>
    if o = 0 ∧ s.get R.JACK_STAT_JSTATE = 6 then s
    else
      let s := setPh s o (.on (some s.sampIdx))
      if o = 0 then s else s.setBit R.LOUT_STAT_ON (o - 1) true
  | .on (some t) =>
    if s.sampIdx < t + s.blkLen then s
    else
      let s := setPh s o (.on none)
      if o = 0 ∧ s.get R.HP_STAT_STATE = 1 then (s.set R.HP_STAT_STATE 2).set R.HP_IFLG_READY 1 else s
  | _ => s

/-- A boundary at the output stages. -/
def boundary (s : State) : State := [0, 1, 2].foldl boundaryOf (follow s)

/-- The end of the stop order: clamp closed, bias and pump off (R240). -/
def stopped (s : State) (o : Nat) : State :=
  let s := setPh s o .off
  if o = 0 then
    (((s.set R.HP_STAT_STATE 0).set R.HP_STAT_CLAMP 1).set R.HP_STAT_SERVO 0).set R.HP_STAT_CPOK 0
  else s.setBit R.LOUT_STAT_ON (o - 1) false

/-- The stop order of a stage ends, once its audio has ramped to zero (R240); it runs to its end also where the stage is
to run again. DESIGN CHOICE, notes/assumptions/109.md. -/
def stop (s : State) (o : Nat) : State :=
  match ph s o with
  | .fade t n _ => if (o ≠ 0 ∨ s.get R.HP_STAT_STATE = 3) ∧ t + n ≤ s.sampIdx then stopped s o else s
  | _ => s

/-- An output has held its current limit for 5 ms: its stop order begins (R238). -/
def overcurrent (s : State) (o : Nat) : State :=
  if ph s o = .off then s
  else if o = 0 then
    beginStop ((s.set R.HP_STAT_OCP 1).set R.HP_IFLG_OCP 1 |>.bump R.HP_ERRCNT_BLKERR) 0
  else
    beginStop ((s.setBit R.LOUT_STAT_OCP (o - 1) true).setBit R.LOUT_IFLG_OCP (o - 1) true |>.bump
      R.LOUT_ERRCNT_BLKERR) o

def checkHp (s : State) (off d : Nat) : Option Nat :=
  if off = 0x20 then
    if bits d 14 8 = 0 ∨ 64 < bits d 14 8 then some 6
    else if b2n (bit d 0) ≠ s.get R.HP_CFG_RANGE ∧ s.get R.HP_STAT_STATE ≠ 0 then some 7 else none
  else none

def checkLout (off d : Nat) : Option Nat :=
  if off = 0x20 ∧ (bits d 14 8 = 0 ∨ 64 < bits d 14 8) then some 6 else none

/-- A cleared OCP flag ends the OCP state; the enables act (R238 to R240, R249). -/
def wroteHp (s old : State) : State :=
  let s := if s.on R.HP_IFLG_OCP then s else s.set R.HP_STAT_OCP 0
  follow (if s.on R.HP_CTRL_EN ∧ !old.on R.HP_CTRL_EN then lowZ s else s)

def wroteLout (s : State) : State :=
  follow (s.set R.LOUT_STAT_OCP (s.get R.LOUT_STAT_OCP &&& s.get R.LOUT_IFLG_OCP))

end Sys2Proof.Machine.Out

namespace Sys2Proof.Machine.Jack
open Sys2Proof Sys2Proof.Machine

/-! The codes of JSTATE (R257). -/
def EMPTY : Nat := 0
def INSDEB : Nat := 1
def PENDING : Nat := 2
def DETECT : Nat := 3
def ZMEAS : Nat := 4
def READY : Nat := 5
def REMDEB : Nat := 6

def jst (s : State) : Nat := s.get R.JACK_STAT_JSTATE

/-- Change the jack part of the state. -/
def upd (s : State) (f : JackSt → JackSt) : State := { s with jack := f s.jack }

/-- A headset is detected. -/
def headset (s : State) : Bool := s.get R.JACK_STAT_TYPE == 3 || s.get R.JACK_STAT_TYPE == 4

/-- IDLE or ACTIVE. -/
def awake (s : State) : Bool := decide (3 ≤ s.mode)

/-- HP_DET is at its inserted level (R241, R257). -/
def inserted (s : State) : Bool := s.jack.pin == s.on R.JACK_CFG_DETPOL

/-- The pole of a ball pair: ring 2 is AIN3P, the sleeve AIN3N (R241). -/
abbrev RING2 : Nat := 0
abbrev SLEEVE : Nat := 1

/-- The microphone pole that type detection has found (R244, R245). -/
def micPole (s : State) : Option Nat :=
  if s.get R.JACK_STAT_TYPE = 3 then some SLEEVE else if s.get R.JACK_STAT_TYPE = 4 then some RING2 else none

/-- The ball that takes the headset bias through 2.2 kilohm (R241, R243 to R245): in DETECT the one under measurement,
ring 2 in A and the sleeve in B; then the microphone pole. -/
def biasedPole (s : State) : Option Nat :=
  if jst s = EMPTY ∨ jst s = INSDEB then none
  else if jst s = DETECT ∧ s.get R.JACK_CFG_FORCE = 0 then some (if s.jack.classA = none then RING2 else SLEEVE)
  else micPole s

/-- The ground switch of a ball is closed (R241, R243 to R245): open with no plug, else closed but for the ball that the
bias feeds. -/
def grounded (s : State) (pole : Nat) : Bool :=
  !(jst s == EMPTY || jst s == INSDEB) && biasedPole s != some pole

/-- The balls that the PGA of AIN3 takes on its positive and its negative input (R241, R245): the microphone pole and the
ground pole; without a headset AIN3P and AIN3N. -/
def pgaPoles (s : State) : Nat × Nat :=
  match micPole s with
  | some 1 => (SLEEVE, RING2)
  | _ => (RING2, SLEEVE)

/-- The ground reference of the headphone amplifier (R242): the ground pole of a headset with GSAUTO set; `none` for
HP_GSNS. -/
def groundRef (s : State) : Option Nat :=
  if s.on R.JACK_CFG_GSAUTO then (micPole s).map (fun p => 1 - p) else none

/-- The AO island keeps a 1.8 V headset bias in LISTEN, and the button comparator runs (R252). -/
def listens (s : State) : Bool :=
  s.mode == 2 && s.on R.JACK_CFG_LPBTN && jst s == READY && headset s && !s.on R.PRIV_STAT_MUTED

/-- The headset bias on a ball, in millivolts (R235, R241, R252). -/
def biasMv (s : State) (pole : Nat) : Nat :=
  if biasedPole s ≠ some pole then 0
  else if listens s then 1800
  else if Ain.biasOn s 1 then (if s.on R.AIN_BIAS_MB1V then 2700 else 1800) else 0

/-- A measurement begins: no pass yet. -/
def restart (s : State) : State :=
  upd s (fun j => { j with classA := none, last := none, passes := 0, left := none, conv := none })

/-- The type is decided: ZMEAS (R244, R245); the clamp opens for it once the charge pump is in regulation (R246). -/
def decided (s : State) (t : Nat) : State :=
  let s := (((restart s).set R.JACK_STAT_TYPE t).set R.JACK_STAT_JSTATE ZMEAS).set R.HP_STAT_STATE 4
  if s.on R.HP_STAT_CPOK then s.set R.HP_STAT_CLAMP 0 else s

/-- Enter DETECT: a forced type is taken without measuring (R243, R244).  The headphone outputs are clamped: a stop order
in progress has come to its end. DESIGN CHOICE, notes/assumptions/109.md. -/
def detect (s : State) : State :=
  let s := if Out.ph s 0 = .off then s else Out.stopped s 0
  let s := (s.set R.JACK_STAT_JSTATE DETECT).set R.JACK_STAT_TYPE 1
  match s.get R.JACK_CFG_FORCE with
  | 1 => decided s 3
  | 2 => decided s 4
  | 3 => decided s 2
  | _ => restart s

/-- DETECT may run now (R243). -/
def mayDetect (s : State) : Bool := awake s && (!s.on R.PRIV_STAT_MUTED || s.get R.JACK_CFG_FORCE != 0)

/-- Enter PENDING. -/
def toPending (s : State) : State := (s.set R.JACK_STAT_JSTATE PENDING).set R.JACK_STAT_TYPE 5

/-- A measurement in progress is aborted and counted. -/
def abort (s : State) : State :=
  let s := if s.get R.HP_STAT_STATE = 4 then Out.stopped s 0 else s
  (restart s).bump R.JACK_EVCNT_ABORTS |>.bump R.JACK_ERRCNT_BLKERR

/-- DETECT ends on mute, or in a mode below IDLE (R243), and so does ZMEAS in a mode below IDLE, where nothing measures.
DEDUCED, notes/assumptions/98.md. -/
def follow (s : State) : State :=
  if jst s = DETECT ∧ !mayDetect s then toPending (abort s)
  else if jst s = ZMEAS ∧ !awake s then toPending (abort s)
  else s

/-- A plug is in while none is known: the debounce starts (R243). -/
def plugIn (s : State) : State :=
  if s.on R.JACK_CTRL_EN ∧ jst s = EMPTY ∧ inserted s then s.set R.JACK_STAT_JSTATE INSDEB else s

/-- HP_DET changes (R243, R247). -/
def det (s : State) (high : Bool) : State :=
  let s := upd s (fun j => { j with pin := high })
  if !s.on R.JACK_CTRL_EN then s
  else if inserted s then
    if jst s = REMDEB then
      let b := s.jack.before
      if b = DETECT ∨ b = ZMEAS then (if mayDetect s then detect s else toPending s)
      else Out.unmute (s.set R.JACK_STAT_JSTATE b)
    else plugIn s
  else if jst s = EMPTY then s
  else if jst s = INSDEB then s.set R.JACK_STAT_JSTATE EMPTY
  else if jst s = REMDEB then s
  else
    let b := jst s
    let s := Out.fastMute (if b = DETECT ∨ b = ZMEAS then abort s else s)
    let s := upd s (fun j => { j with before := b })
    s.set R.JACK_STAT_JSTATE REMDEB

/-- No plug: the results are dropped. -/
def toEmpty (s : State) : State :=
  let s := ((s.set R.JACK_STAT_JSTATE EMPTY).set R.JACK_STAT_TYPE 0).set R.JACK_STAT_ZCLASS 0
  let s := upd (restart (s.set R.JACK_STAT_BTN 0)) (fun j => { j with pressed := 0 })
  { s with ana := { s.ana with btnMute := false } }

/-- The debounce time ends (R243). -/
def debounced (s : State) : State :=
  if jst s = INSDEB then
    let s := (s.set R.JACK_IFLG_INSERT 1).bump R.JACK_EVCNT_INSERTS
    if mayDetect s then detect s
    else
      let s := toPending s
      if s.on R.JACK_CFG_JWAKE ∧ s.lowPower then Pwr.request s Pwr.IDLE .jack else s
  else if jst s = REMDEB then Out.unmute ((toEmpty s).set R.JACK_IFLG_REMOVE 1)
  else s

/-- PENDING ends (R243). -/
def resume (s : State) : State := if jst s = PENDING ∧ mayDetect s then detect s else s

/-- VB in microvolts (R244, R254). -/
def vb (s : State) : Nat := if s.on R.AIN_BIAS_MB1V then 2700000 else 1800000

/-- The class of a ratio: 0 GND, 1 MIC, 2 OPEN (R244). -/
def classOf (uv vb : Nat) : Nat := if 100 * uv < 8 * vb then 0 else if 100 * uv < 92 * vb then 1 else 2

/-- A ratio in 1/256. -/
def ratio256 (uv vb : Nat) : Nat := min 255 (uv * 256 / vb)

/-- The type a pass gives (R244). -/
def typeOf (a b : Nat) : Nat :=
  if a = 0 ∧ b = 0 then 2 else if a = 0 ∧ b = 1 then 3 else if a = 1 ∧ b = 0 then 4 else 6

/-- The jack takes the result of the conversion that Lichen has passed to it (R347). -/
def taken (s : State) : State := upd s (fun j => { j with conv := none })

/-- A type measurement of `uv` microvolts on the biased ball: A, then B; the second of two passes that agree decides,
and four passes at most are made (R244). DESIGN CHOICE, notes/assumptions/68.md. -/
def classify (s : State) (uv : Nat) : State :=
    let c := classOf uv (vb s)
    match s.jack.classA with
    | none => upd (s.set R.JACK_POLE_RA (ratio256 uv (vb s))) (fun j => { j with classA := some c })
    | some a =>
      let s := s.set R.JACK_POLE_RB (ratio256 uv (vb s))
      if s.jack.last = some (a, c) then decided s (typeOf a c)
      else if 3 ≤ s.jack.passes then decided s 6
      else upd s (fun j => { j with classA := none, last := some (a, c), passes := j.passes + 1 })

/-- A type measurement ends with `uv`, where Lichen has passed that result to the jack: it is classed (R244, R347). -/
def typeMeasured (s : State) (uv : Nat) : State :=
  if jst s = DETECT ∧ s.jack.conv = some uv then classify (taken s) uv else s

/-- Z in units of 0.25 ohm for `uv` microvolts at 100 microamperes, rounded; 0xFFFF from 10 kilohm (R246). -/
def zUnits (uv : Nat) : Nat := let z := (2 * uv + 25) / 50; if 40000 ≤ z then 0xFFFF else z

/-- The class of an impedance (R246). -/
def zClass (z : Nat) : Nat :=
  if z < 48 then 1 else if z < 200 then 2 else if z < 2000 then 3 else if z < 40000 then 4 else 5

/-- The impedance of a side, HPL first, with `uv` microvolts on it (R246). -/
def zOf (s : State) (uv : Nat) : State :=
  match s.jack.left with
  | none => upd (s.set R.JACK_ZMEAS_ZL (zUnits uv)) (fun j => { j with left := some (zUnits uv) })
  | some l =>
    let s := s.set R.JACK_ZMEAS_ZR (zUnits uv)
    let s := (s.set R.JACK_STAT_ZCLASS (zClass (min l (zUnits uv)))).set R.JACK_STAT_JSTATE READY
    let s := upd (s.set R.JACK_IFLG_TYPE 1) (fun j => { j with left := none })
    Out.lowZ ((s.set R.HP_STAT_STATE 0).set R.HP_STAT_CLAMP 1)

/-- The impedance measurement of a side ends with `uv`, where Lichen has passed that result to the jack (R246, R347). -/
def zMeasured (s : State) (uv : Nat) : State :=
  if jst s = ZMEAS ∧ s.jack.conv = some uv then zOf (taken s) uv else s

/-- Button detection runs (R250). -/
def watches (s : State) : Bool := jst s == READY && headset s && !s.on R.PRIV_STAT_MUTED && awake s

/-- Button threshold `k` in 1/256 of VB. -/
def th (s : State) (k : Nat) : Nat :=
  s.get ([R.JACK_BTNTHR_TH0, R.JACK_BTNTHR_TH1, R.JACK_BTNTHR_TH2, R.JACK_BTNTHR_TH3].getD k R.JACK_BTNTHR_TH3)

/-- The ratio is below threshold `k`. -/
def below (s : State) (uv k : Nat) : Bool := decide (256 * uv < th s k * vb s)

/-- The button a ratio names. -/
def button (s : State) (uv : Nat) : Nat :=
  if below s uv 0 then 0 else if below s uv 1 then 1 else if below s uv 2 then 2 else 3

/-- The HID control of button `k` (R257). -/
def hidOf (s : State) (k : Nat) : Nat :=
  s.get ([R.JACK_BTNMAP_B0, R.JACK_BTNMAP_B1, R.JACK_BTNMAP_B2, R.JACK_BTNMAP_B3].getD k R.JACK_BTNMAP_B0)

/-- A press with `uv` microvolts on the microphone pole (R250, R252). -/
def pressed (s : State) (uv : Nat) : State :=
  if !watches s ∨ !below s uv 3 ∨ (s.get R.JACK_STAT_BTN ≠ 0 ∧ s.get R.JACK_STAT_BTN ≠ 7) then s
  else
    let k := button s uv
    let s := ((s.set R.JACK_STAT_BTN (k + 1)).set R.JACK_IFLG_BTNDN 1).bump R.JACK_EVCNT_BTNPRESS
    let h := hidOf s k
    let s := upd s (fun j => { j with pressed := if h = 0 then 0 else 2 ^ (h - 1) })
    { s with ana := { s.ana with btnMute := s.on R.JACK_CFG_BTNMUTE } }

/-- A press is declared and identified with `uv`, where Lichen has passed that result to the jack (R250, R347). -/
def press (s : State) (uv : Nat) : State := if s.jack.conv = some uv then pressed (taken s) uv else s

/-- A release is declared, where the comparator watches (R250). -/
def releaseBtn (s : State) : State :=
  if s.get R.JACK_STAT_BTN = 0 ∨ !watches s then s
  else upd ((s.set R.JACK_STAT_BTN 0).set R.JACK_IFLG_BTNUP 1) (fun j => { j with pressed := 0 })

/-- 20 ms after a release (R251). -/
def muteEnd (s : State) : State :=
  if s.get R.JACK_STAT_BTN = 0 then { s with ana := { s.ana with btnMute := false } } else s

/-- A press in LISTEN (R251, R252). -/
def listenPress (s : State) : State :=
  if listens s ∧ s.get R.JACK_STAT_BTN = 0 then
    let s := { s with ana := { s.ana with btnMute := s.on R.JACK_CFG_BTNMUTE } }
    let s := Usb.hostWake ((s.set R.JACK_STAT_BTN 7).set R.JACK_IFLG_BTNDN 1)
    if s.on R.JACK_CFG_JWAKE then Pwr.request s Pwr.IDLE .jack else s
  else s

def check (s : State) (off d : Nat) : Option Nat :=
  if off = 0x20 then
    if bits d 25 16 = 0 ∨ 512 < bits d 25 16 then some 6
    else if jst s ≠ EMPTY ∧ d ≠ s.rawWord .jack 0 0x20 then some 7 else none
  else if off = 0x24 then
    if bits d 7 0 < bits d 15 8 ∧ bits d 15 8 < bits d 23 16 ∧ bits d 23 16 < bits d 31 24 then none else some 6
  else if off = 0x28 then
    if (List.range 4).any (fun i => decide (7 ≤ bits d (8 * i + 7) (8 * i))) then some 6 else none
  else none

/-- JACK.CTRL.EN and CFG.DETPOL act: an inserted plug is debounced, or the state is EMPTY, with a measurement in
progress aborted (R243, R257). -/
def wrote (s old : State) : State :=
  if s.on R.JACK_CTRL_EN then plugIn s
  else if old.on R.JACK_CTRL_EN then
    Out.unmute (toEmpty (if jst s = DETECT ∨ jst s = ZMEAS then abort s else s))
  else s

end Sys2Proof.Machine.Jack
end

