-- ==== Sys2Proof/Machine/AmpOps.lean ====
section
/-! DEFINITION. The speaker amplifier and loudspeaker protection (R258 to R288). -/
namespace Sys2Proof.Machine.Amp
open Sys2Proof Sys2Proof.Machine

/-! The codes of AMPn.STAT.STATE (R285). -/
def OFF : Nat := 0
def STARTING : Nat := 1
def RUN : Nat := 2
def SHORT : Nat := 3
def TESTING : Nat := 4
def LATCHED : Nat := 5
def SUPPLY : Nat := 6
def THERMAL : Nat := 7

/-- Gain 1 in 2^-30. -/
def ONE : Nat := 2 ^ 30

def st (s : State) (n : Nat) : Nat := s.get (R.AMP_STAT_STATE n)
def setSt (s : State) (n v : Nat) : State := s.set (R.AMP_STAT_STATE n) v

/-- Channel `n` beside its registers. -/
def ch (s : State) (n : Nat) : AmpCh := Map.get AmpCh.zero s.amp.chans n

/-- Change channel `n`. -/
def upd (s : State) (n : Nat) (f : AmpCh → AmpCh) : State :=
  { s with amp := { s.amp with chans := Map.set AmpCh.zero s.amp.chans n (f (ch s n)) } }

/-- The second bridge of a paralleled pair (R258). -/
def slave (s : State) (n : Nat) : Bool := (n == 1 && s.on R.AMPG_CFG_PAIRAB) || (n == 3 && s.on R.AMPG_CFG_PAIRCD)

/-- The first bridge of a paralleled pair. -/
def paired (s : State) (n : Nat) : Bool := (n == 0 && s.on R.AMPG_CFG_PAIRAB) || (n == 2 && s.on R.AMPG_CFG_PAIRCD)

/-- The channels. -/
def channels (s : State) : List Nat := (List.range 4).filter (fun n => !slave s n)

/-- Enabled, in IDLE or ACTIVE, and not stopping for a move or a reset (R266). -/
def enabled (s : State) (n : Nat) : Bool :=
  s.on (R.AMP_CTRL_EN n) && s.on R.AMPG_CTRL_EN && decide (3 ≤ s.mode) && !s.winding && !s.pwr.stopping

/-- PVDD lies between the thresholds (R281). -/
def pvddGood (s : State) : Bool := !s.on R.AMPG_STAT_UV && !s.on R.AMPG_STAT_OV

/-- The die has not shut down, and PVDD is good: no condition of SUPPLY or THERMAL stands (R278). -/
def mayRun (s : State) : Bool := pvddGood s && !s.on R.AMPG_STAT_TSD

/-- A bridge starts (R266). -/
def start (s : State) (n : Nat) : State :=
  if n < 4 ∧ !slave s n ∧ st s n = OFF ∧ enabled s n ∧ mayRun s then
    upd (setSt s n STARTING) n (fun c => { c with toRun := none })
  else s

/-- tBOOT has elapsed: RUN at the next boundary (R278). -/
def bootDone (s : State) (n : Nat) : State :=
  if st s n = STARTING then upd s n (fun c => { c with toRun := some 1 }) else s

/-- A channel leaves for a state in which its bridge is Hi-Z. -/
def hiZ (s : State) (n v : Nat) : State :=
  upd (setSt s n v) n (fun c => { c with toRun := none, ramp := 0, fade := none })

/-- The test of a channel leaves the queue; what Lichen has passed to a running one goes with it (R279). -/
def dropTest (s : State) (n : Nat) : State :=
  { s with amp := { s.amp with
    tests := s.amp.tests.filter (fun i => i != n)
    conv := if s.amp.tests.head? = some n then [] else s.amp.conv } }

/-- The channel is off; its test is dropped. -/
def off (s : State) (n : Nat) : State := dropTest (hiZ s n OFF) n

/-- Enter LATCHED (R278). -/
def latch (s : State) (n : Nat) : State :=
  (((hiZ s n LATCHED).set (R.AMP_IFLG_LATCH n) 1).bump (R.AMP_EVCNT_LATCHES n)).bump (R.AMP_ERRCNT_BLKERR n)

/-- Enter SHORT. -/
def short (s : State) (n : Nat) : State := (hiZ s n SHORT).bump (R.AMP_ERRCNT_BLKERR n)

/-- Entry to STANDBY or LISTEN: a test is abandoned, and its channel enters SHORT (R278, R285). -/
def sleep (s : State) : State :=
  (List.range 4).foldl (fun s n =>
    if st s n = RUN ∨ st s n = STARTING ∨ st s n = SUPPLY ∨ st s n = THERMAL then off s n
    else if st s n = TESTING then short s n else s) { s with amp := { s.amp with tests := [], conv := [] } }

/-- A failed retry: TRIES is incremented; SHORT, or LATCHED at 3 (R278). -/
def failed (s : State) (n : Nat) : State :=
  let t := min 3 (s.get (R.AMP_FAULT_TRIES n) + 1)
  let s := s.set (R.AMP_FAULT_TRIES n) t
  if t = 3 then latch s n else short s n

/-- The stop order of a bridge begins: its audio ramps to zero over a block (R266). -/
def beginStop (s : State) (n : Nat) : State :=
  if (ch s n).fade = none then upd s n (fun c => { c with fade := some s.sampIdx }) else s

/-- The enables and the mode act: a bridge in RUN begins its stop order, and with an enable cleared every other state
leaves for OFF at once (R266, R278). -/
def follow (s : State) : State :=
  (List.range 4).foldl (fun s n =>
    if st s n = RUN then (if enabled s n then s else beginStop s n)
    else if st s n ≠ OFF ∧ !(s.on (R.AMP_CTRL_EN n) && s.on R.AMPG_CTRL_EN) then off s n
    else s) s

/-- The stop of a bridge ends: from RUN once its audio has ramped to zero, from STARTING where it is no longer to run
(R266).  A stop order in progress runs to its end. DESIGN CHOICE, notes/assumptions/109.md. -/
def stop (s : State) (n : Nat) : State :=
  if st s n = RUN then
    match (ch s n).fade with
    | some t => if t + s.blkLen ≤ s.sampIdx then off s n else s
    | none => if enabled s n then s else beginStop s n
  else if st s n = STARTING ∧ !enabled s n then off s n
  else s

/-- The threshold current of a channel in units of 0.5 mA (R259). -/
def threshold (s : State) (n : Nat) : Nat := if paired s n then 32000 else 16000

/-- The output current reaches the threshold (R278). -/
def overcurrent (s : State) (n : Nat) : State :=
  if st s n ≠ RUN ∨ slave s n then s
  else
    let ramping := (ch s n).ramp != 0
    let s := s.set (R.AMP_FAULT_CAUSE n) 1
    let s := (s.set (R.AMP_IFLG_FAULT n) 1).bump (R.AMP_EVCNT_FAULTS n)
    if ramping then failed s n else short s n

/-- A DC load test falls due: it runs, or waits behind another (R278, R279). -/
def test (s : State) (n : Nat) : State :=
  let s := hiZ s n TESTING
  { s with amp := { s.amp with tests := s.amp.tests.filter (fun i => i != n) ++ [n] } }

/-- The retry timer expires (R278). -/
def retry (s : State) (n : Nat) : State := if st s n = SHORT then test s n else s

/-- The return to IDLE: channels in SHORT test at once (R278). -/
def wake (s : State) : State := (List.range 4).foldl retry s

/-- CLRFLT (R278). -/
def clrflt (s : State) (n : Nat) : State :=
  if st s n = LATCHED then test (s.set (R.AMP_FAULT_TRIES n) 0) n else s

/-- PVDD in mV. -/
def pvddMv (s : State) : Nat := 10 * s.get R.AMPG_STAT_PVDD

/-- The sense rate in Hz (R267). -/
def senseRate (s : State) : Nat := if s.get R.SYS_SYSCFG_SYSRATE % 2 = 0 then 44100 else 48000

/-- The mean of the last millisecond's sensed voltage in microvolts, and of its current in microamperes (R267, R279). -/
def meanUv (vi : List (Int × Int)) : Int := roundDiv ((vi.map (fun e => e.1)).sum * 1000) vi.length
def meanUa (vi : List (Int × Int)) : Int := roundDiv ((vi.map (fun e => e.2)).sum * 500) vi.length

/-- What the terminal check finds at two terminals: CAUSE 2 a short to ground, 3 a short to PVDD, 0 neither (R279, 1). -/
def terminalCause (s : State) (p n : Int) : Nat :=
  if min p n < 500000 then 2 else if 1000 * (pvddMv s : Int) < max p n + 500000 then 3 else 0

/-- Z in milliohm, 0xFFFF from 65.535 ohm (R285): the Lichen voltage by the sensed current. -/
def loadZ (uv ua : Int) : Nat := if ua = 0 then 0xFFFF else min 0xFFFF (uv * 1000 / ua).toNat

/-- What a load test has found (R279): the two terminals, the Lichen voltage, and the sensed voltage and current. -/
structure LoadTest where
  termP : Int
  termN : Int
  lichUv : Int
  senseUv : Int
  senseUa : Int

/-- The cause of a failing differential test; 0 where it passes (R279, 3). -/
def loadCause (q : LoadTest) : Nat :=
  if 10000 < (q.lichUv - q.senseUv).natAbs then 5 else if loadZ q.lichUv q.senseUa < 1000 then 1 else 0

/-- The running test of channel `n` can end with `q`: it has the terminal check from Lichen, which reads the P terminal
and answers for both (R342), and, where that passes, the differential voltage too, and the sensed values are the means
that it has (R267, R279, R347). -/
def found (s : State) (n : Nat) (q : LoadTest) : Bool :=
  let vi := (ch s n).vi
  match s.amp.conv with
  | [] => false
  | t :: r => t == q.termP && terminalCause s t t == terminalCause s q.termP q.termN &&
    (terminalCause s q.termP q.termN != 0 || (r.head? == some q.lichUv && meanUv vi == q.senseUv && meanUa vi == q.senseUa))

/-- A load test ends with cause `v`, 0 where it passes (R278). -/
def testResult (s : State) (n v : Nat) : State :=
  let s := dropTest s n
  let s := if v = 0 then s else s.set (R.AMP_FAULT_CAUSE n) v
  if s.on (R.AMP_CFG_NORETRY n) then latch s n
  else if v = 0 then (upd s n (fun c => { c with toRun := some 64 })).set (R.AMP_IFLG_RESUME n) 1
  else failed s n

/-- The load test at the head of the queue ends with what it has found (R279): a terminal that is short, or the load. -/
def testDone (s : State) (n : Nat) (q : LoadTest) : State :=
  if st s n ≠ TESTING ∨ s.amp.tests.head? ≠ some n ∨ !found s n q then s
  else
    let v := terminalCause s q.termP q.termN
    if v ≠ 0 then testResult s n v
    else testResult (s.set (R.AMP_LOADZ_Z n) (loadZ q.lichUv q.senseUa)) n (loadCause q)

/-- The running load test asks for its next conversion: the terminal check, and after one that passes the differential
voltage (R279). -/
def asks (s : State) : Bool :=
  s.amp.tests != [] &&
  (match s.amp.conv with
   | [] => true
   | [t] => terminalCause s t t == 0
   | _ => false)

/-- CLEAN seconds without a fault (R278). -/
def triesClean (s : State) (n : Nat) : State :=
  if st s n = RUN ∧ (ch s n).ramp = 0 then s.set (R.AMP_FAULT_TRIES n) 0 else s

/-- DC offset (R282). -/
def dcOffset (s : State) (n : Nat) : State :=
  if st s n = RUN ∧ s.get R.AMPG_RETRY_DCTHR ≠ 0 then latch (s.set (R.AMP_FAULT_CAUSE n) 4) n else s

/-- The conditions of SUPPLY and THERMAL act on a bridge (R278, R281, R283): in RUN, STARTING and SUPPLY a die shutdown
sends it to THERMAL and a PVDD fault to SUPPLY; once the condition has cleared it starts.  A shutdown takes a bridge out
of SUPPLY, and the end of a shutdown with a PVDD fault leaves SUPPLY: the model's choice.
DESIGN CHOICE, notes/assumptions/100.md. -/
def judge (s : State) (n : Nat) : State :=
  let go : Nat → State := fun v => if st s n = v then s else hiZ s n v
  if st s n = RUN ∨ st s n = STARTING ∨ st s n = SUPPLY ∨ st s n = THERMAL then
    if s.on R.AMPG_STAT_TSD then go THERMAL
    else if !pvddGood s then go SUPPLY
    else if st s n = SUPPLY ∨ st s n = THERMAL then hiZ s n STARTING
    else s
  else s

/-- The conditions of SUPPLY and THERMAL act on every bridge. -/
def judgeAll (s : State) : State := (List.range 4).foldl judge s

/-- PVDD crosses a threshold (R281): the new value in 10 mV. -/
def pvdd (s : State) (v : Nat) : State :=
  let s := s.set R.AMPG_STAT_PVDD v
  let uv := if v < 420 then true else if 440 < v then false else s.on R.AMPG_STAT_UV
  let ov := if 2750 < v then true else if v < 2700 then false else s.on R.AMPG_STAT_OV
  let s := if uv ∧ !s.on R.AMPG_STAT_UV then (s.set R.AMPG_IFLG_UV 1).bump R.AMPG_ERRCNT_BLKERR else s
  let s := if ov ∧ !s.on R.AMPG_STAT_OV then (s.set R.AMPG_IFLG_OV 1).bump R.AMPG_ERRCNT_BLKERR else s
  judgeAll ((s.setB R.AMPG_STAT_UV uv).setB R.AMPG_STAT_OV ov)

/-! Gains shown as reductions (R264). -/

/-- `k` tenths of a dB are not more than the reduction of `g` plus half a step: `g^400 × 10^(2k - 1)` is at
most `1^400`. -/
def redLe (g k : Nat) : Bool := decide (g ^ 400 * 10 ^ (2 * k - 1) ≤ ONE ^ 400)

/-- The largest such `k` below `acc + 2^n`. -/
def redSearch (g : Nat) : Nat → Nat → Nat
  | 0, acc => acc
  | n + 1, acc => if redLe g (acc + 2 ^ n) then redSearch g n (acc + 2 ^ n) else redSearch g n acc

/-- A gain as a reduction in 0.1 dB, rounded, at most 255. -/
def reduction (g : Nat) : Nat := if ONE ≤ g then 0 else redSearch g 8 0

/-- A per-channel field of SPKP. -/
def sp (f : Fld) (n : Nat) : Fld := f.win (n + 1)

/-- Byte `o`, `n` bytes long, of the record in force of channel `n`. -/
def recBytes (s : State) (n o k : Nat) : Nat :=
  leNat ((((List.range 16).flatMap (fun i => wordBytes (s.get ((R.EXCUR_REC_DATA i).win (n + 1))))).drop o).take k)

/-- The excursion limiter runs (R274). -/
def excOn (s : State) (n : Nat) : Bool := s.on (R.EXCUR_CTL_EN.win (n + 1)) && bit (recBytes s n 0x03 1) 0

/-- A gain whose protection is disabled is 1 (R264). -/
def allowed (s : State) (n : Nat) (c : AmpCh) : AmpCh :=
  { c with
    gT := if s.on (sp R.SPKP_CTL_EN n) then c.gT else ONE
    gX := if excOn s n then c.gX else ONE
    gP := if s.on R.AMPG_PVLIM_EN then c.gP else ONE }

/-- GAINRED and the limit bits follow the gains (R264, R271); LIMIT is flagged when a gain falls below 1. -/
def showGains (s : State) (n : Nat) : State :=
  let s := upd s n (allowed s n)
  let c := ch s n
  let fell := (c.gT < ONE && !s.on (R.AMP_STAT_LIMT n)) || (c.gX < ONE && !s.on (R.AMP_STAT_LIMX n)) ||
    (c.gP < ONE && !s.on (R.AMP_STAT_LIMP n)) || (c.gD < ONE && !s.on (R.AMP_STAT_LIMD n))
  let s := if fell then s.set (R.AMP_IFLG_LIMIT n) 1 else s
  let s := (s.setB (R.AMP_STAT_LIMT n) (c.gT < ONE)).setB (R.AMP_STAT_LIMX n) (c.gX < ONE)
  let s := (s.setB (R.AMP_STAT_LIMP n) (c.gP < ONE)).setB (R.AMP_STAT_LIMD n) (c.gD < ONE)
  let s := (s.set (R.AMP_GAINRED_GT n) (reduction c.gT)).set (R.AMP_GAINRED_GX n) (reduction c.gX)
  (s.set (R.AMP_GAINRED_GP n) (reduction c.gP)).set (R.AMP_GAINRED_GD n) (reduction c.gD)

/-- −1 dB for each of `k` kelvins, in 2^-30: each step is `10^(-1/20)` in 2^-30. -/
def dbDown : Nat → Nat
  | 0 => ONE
  | k + 1 => dbDown k * 956973408 / 2 ^ 30

/-- The power die crosses a temperature threshold (R283): the new temperature in °C. -/
def dieTemp (s : State) (t : Int) : State :=
  let s := s.seti R.AMPG_STAT_TDIE t
  let warn := decide (120 ≤ t)
  let fold := decide (130 ≤ t)
  let tsd := if 150 ≤ t then true else if t < 130 then false else s.on R.AMPG_STAT_TSD
  let s := if warn ∧ !s.on R.AMPG_STAT_TWARN then s.set R.AMPG_IFLG_TWARN 1 else s
  let s := if fold ∧ !s.on R.AMPG_STAT_TFOLD then s.set R.AMPG_IFLG_TFOLD 1 else s
  let s := if tsd ∧ !s.on R.AMPG_STAT_TSD then (s.set R.AMPG_IFLG_TSD 1).bump R.AMPG_ERRCNT_BLKERR else s
  let s := ((s.setB R.AMPG_STAT_TWARN warn).setB R.AMPG_STAT_TFOLD fold).setB R.AMPG_STAT_TSD tsd
  let s := (List.range 4).foldl (fun s n =>
    showGains (upd s n (fun c => { c with gD := dbDown (t - 130).toNat })) n) s
  judgeAll s

/-! The voice-coil model (R268 to R271).  Powers are in microwatts, temperatures in 10^-9 degrees. -/

/-- `e^(-a/b)` in 2^-40: the argument is halved 12 times, taken to the fifth order, and squared back. -/
def expNeg (a b : Nat) : Nat :=
  let one : Nat := 2 ^ 40
  let y := if b = 0 then 0 else min (a * one / (b * 4096)) one
  let y2 := y * y / one
  let y3 := y2 * y / one
  let y4 := y3 * y / one
  let y5 := y4 * y / one
  let e := one + y2 / 2 + y4 / 24 - (y + y3 / 6 + y5 / 120)
  if 20 * b < a then 0 else (List.range 12).foldl (fun e _ => e * e / one) e

/-- The present Re, micro-ohm (R270): the last valid estimate, or the model's value. -/
def reNow (s : State) (n : Nat) : Int :=
  let c := ch s n
  if s.get (sp R.SPKP_CTL_RETRK n) ≠ 0 ∧ c.re ≠ 0 then c.re
  else
    let re0 : Int := 1000 * s.get (sp R.SPKP_RE0_RE0 n)
    let dt := c.tc - s.geti (sp R.SPKP_RE0_T0COIL n) * 10000000
    re0 + re0 * s.get (sp R.SPKP_ALPHA_ALPHA n) * dt / 10 ^ 15

/-- P in microwatts over the last millisecond: mean of i² (0.5 mA steps) × Re. -/
def power (s : State) (n : Nat) : Nat :=
  let c := ch s n
  if st s n ≠ RUN ∨ c.nI = 0 then 0 else (c.sumI2 * reNow s n / (4 * c.nI)).toNat / 1000000

/-- Ta in 10^-9 degrees. -/
def tAmb (s : State) (n : Nat) : Int := s.geti (sp R.SPKP_TAMB_TA n) * 10000000

/-- The magnet temperature the model anchors to (R269): that of the NTC that MAGSRC names, unless it is stale or has had
no result. -/
def magnet (s : State) (n : Nat) (model : Int) : Int :=
  let k := s.get (sp R.SPKP_CTL_MAGSRC n)
  if k = 0 ∨ bit s.amp.ntcStale (k - 1) then model
  else (s.amp.ntc.find? (fun e => e.1 == k - 1)).elim model (fun e => e.2)

/-- The two nodes after one millisecond (R268); with RTHC 0 the magnet's heat is an open value.
DESIGN CHOICE, notes/assumptions/67.md. -/
def nodes (s : State) (n p : Nat) : Int × Int :=
  let c := ch s n
  let rc : Int := s.get (sp R.SPKP_COIL_RTHC n)
  let tauc : Int := 10 * s.get (sp R.SPKP_COIL_TAUC n)
  let rm : Int := s.get (sp R.SPKP_MAG_RTHM n)
  let taum : Int := 1000 * s.get (sp R.SPKP_MAG_TAUM n)
  let flow := if rc = 0 then (Config.freeValue s.free).toInt else (c.tc - c.tm) * rm / rc
  (c.tc + (10 * (p : Int) * rc - (c.tc - c.tm)) / tauc,
   magnet s n (c.tm + (flow - (c.tm - tAmb s n)) / taum))

/-- The integer square root of a number below 2^128. -/
def sqrt (n : Nat) : Nat := Mtx.isqrt n 64 0

/-- The thermal limiter's target gain in 2^-30 (R271), floored at −24 dB (10^(-1.2)), and Tp. -/
def thermalTarget (s : State) (n p : Nat) : Nat × Int :=
  let c := ch s n
  let rc : Int := s.get (sp R.SPKP_COIL_RTHC n)
  let g2 := max 1 (c.gT * c.gT / 2 ^ 30)
  let p1 : Nat := p * 2 ^ 30 / g2
  let one : Int := 2 ^ 40
  let e : Int := expNeg (s.get (sp R.SPKP_TIMES_PREDICT n)) (10 * s.get (sp R.SPKP_COIL_TAUC n))
  let hot := c.tm + 10 * (p1 : Int) * rc
  let tp := hot - (hot - c.tc) * e / one
  let tl : Int := s.get (sp R.SPKP_LIMIT_TMAX n) * 10000000 - s.get (sp R.SPKP_LIMIT_MARGIN n) * 10 ^ 9
  let floor : Nat := 67748529
  if tp ≤ tl then (ONE, tp)
  else
    let num := (tl - c.tm) - (c.tc - c.tm) * e / one
    let den := 10 * rc * (one - e)
    let pallow : Int := if den = 0 then (Config.freeValue s.free).toInt else num * one / den
    if pallow ≤ 0 then (floor, tp)
    else (min ONE (max floor (sqrt (pallow.toNat * 2 ^ 60 / max 1 p1))), tp)

/-- A gain moves towards its target with a time constant of `tau` ms in one millisecond (R271). -/
def moveGain (g target tau : Nat) : Nat :=
  let one : Int := 2 ^ 40
  let k := one - (expNeg 1 tau : Int)
  ((g : Int) + ((target : Int) - g) * k / one).toNat

/-- One millisecond of the model and limiter of channel `n` (R268, R271). -/
def thermalStep (s : State) (n : Nat) : State :=
  let p := power s n
  let s := upd s n (fun c => { c with xmaxs := (c.xmax :: c.xmaxs).take 100, xmax := 0, sumI2 := 0, nI := 0 })
  if slave s n ∨ st s n = OFF ∨ !s.on (sp R.SPKP_CTL_EN n) then s
  else
    let t := nodes s n p
    let s := (upd s n (fun c => { c with tc := t.1, tm := t.2 })).tick
    let l := thermalTarget s n p
    let g := (ch s n).gT
    let tau := if l.1 < g then s.get (sp R.SPKP_TIMES_ATTACK n) else 10 * s.get (sp R.SPKP_TIMES_RELEASE n)
    let s := upd s n (fun c => { c with gT := moveGain g l.1 tau })
    let s := s.seti (sp R.SPKP_TEMP_TCOIL n) (roundDiv t.1 10000000)
    let s := s.seti (sp R.SPKP_TEMP_TMAG n) (roundDiv t.2 10000000)
    let s := s.seti (sp R.SPKP_PRED_TPRED n) (roundDiv l.2 10000000)
    let s := s.set (sp R.SPKP_PRED_RE n) (roundDiv (reNow s n) 1000).toNat
    showGains (s.set (sp R.SPKP_PWR_P n) (p / 1000)) n

/-- A 100 ms window of Re tracking ends with the filtered voltage and current of the window, rms in
microvolts and microamperes (R270). -/
def reWindow (s : State) (n uv ua : Nat) : State :=
  if slave s n ∨ s.get (sp R.SPKP_CTL_RETRK n) = 0 ∨ st s n = OFF ∨ !s.on (sp R.SPKP_CTL_EN n) then s
  else if ua < 20000 then (s.set (sp R.SPKP_PWR_REVALID n) 0).bump R.SPKP_ERRCNT_BLKERR
  else
    let re := uv * 1000000 / ua
    let re0 : Int := 1000 * s.get (sp R.SPKP_RE0_RE0 n)
    let al : Int := s.get (sp R.SPKP_ALPHA_ALPHA n)
    let tmeas := s.geti (sp R.SPKP_RE0_T0COIL n) * 10000000 + ((re : Int) - re0) * 10 ^ 15 / (re0 * al)
    let s := upd s n (fun c => { c with
      re := re, tc := c.tc + s.get (sp R.SPKP_CTL_KRE n) * (tmeas - c.tc) / 256 })
    (s.set (sp R.SPKP_PWR_REVALID n) 1).set (sp R.SPKP_PRED_RE n) (re / 1000)

/-- No new result of NTC `k` for 2 s (R269). -/
def ntcStale (s : State) (k : Nat) : State :=
  let s := { s with amp := { s.amp with ntcStale := s.amp.ntcStale ||| 2 ^ k } }
  if (channels s).any (fun n => s.get (sp R.SPKP_CTL_MAGSRC n) == k + 1) then s.set R.SPKP_IFLG_NTCSTALE 1 else s

/-- A new result of NTC `k`: `v` in `w` bits, as the fraction of its full scale (R81, R269). -/
def ntcResult (s : State) (k v w : Nat) : State :=
  let t := (s.geti (R.SPKP_NTCLIN_NTCA k) * 2 ^ w + s.geti (R.SPKP_NTCLIN_NTCB k) * v) * 10000000 / 2 ^ w
  let s := { s with amp := { s.amp with
    ntc := Map.insert k t (Map.erase k s.amp.ntc), ntcStale := putBit s.amp.ntcStale k false } }
  ((channels s).filter (fun n => s.get (sp R.SPKP_CTL_MAGSRC n) == k + 1)).foldl (fun s n =>
    upd s n (fun c => { c with tm := t })) s

/-! Excursion and supply limiters (R272 to R277). -/

/-- The peak voltage of VFS in mV (R263). -/
def vfsMv (s : State) (n : Nat) : Nat :=
  1000 * [6, 8, 10, 12, 14, 16, 20, 25].getD (s.get (R.AMP_CFG_VFS n)) 6

/-- The look-ahead in samples of rate `r`: LOOKAHEAD × 0.25 ms. -/
def lookN (s : State) (r : Nat) : Nat := s.get R.AMPG_CFG_LOOKAHEAD * r / 4000

/-- One step of the excursion model (R274): the bilinear form of the record's equation, displacement in
2^-20 micrometre for a drive in mV.  All terms are multiplied by RE × CMS in the record's units. -/
def excStep (s : State) (n : Nat) (v : Int) : State :=
  let c := ch s n
  let re : Int := recBytes s n 0x04 2          -- milliohm
  let bl : Int := recBytes s n 0x08 4          -- 1e-6 T m
  let mms : Int := recBytes s n 0x0C 4         -- 1e-9 kg
  let cms : Int := recBytes s n 0x10 4         -- 1e-9 m/N
  let rms : Int := recBytes s n 0x14 4         -- 1e-3 N s/m
  let k : Int := 2 * senseRate s
  -- scaled by 1e21: mass, damping, stiffness, drive
  let m := mms * cms * re * k * k
  let d := (rms * re * 1000000 + bl * bl) * cms * k
  let one : Int := re * 10 ^ 18
  let a0 := m + d + one
  let a1 := 2 * one - 2 * m
  let a2 := m - d + one
  let drive := bl * cms * (v + 2 * c.v1 + c.v2) * 10 ^ 9 * 2 ^ 20
  let x := if a0 = 0 then 0 else (drive - a1 * c.x1 - a2 * c.x2) / a0
  let w := max 1 (lookN s (senseRate s))
  upd s n (fun c => { c with x1 := x, x2 := c.x1, v1 := v, v2 := c.v1
                             xs := (x.natAbs :: c.xs).take w, xmax := max c.xmax x.natAbs })

/-- XL in 2^-20 micrometre. -/
def xl (s : State) (n : Nat) : Nat := (recBytes s n 0x18 2 - recBytes s n 0x1A 2) * 2 ^ 20

/-- A limiter's target: min(1, limit / peak) in 2^-30. -/
def limitTarget (limit peak : Nat) : Nat := if peak ≤ limit then ONE else limit * ONE / peak

/-- A gain on its way to a target, between the two (R274, R277). -/
def towards (g target attack release : Nat) : Nat :=
  min (max g target) (max (min g target) (Config.gainTowards g target attack release))

/-- The excursion limiter of channel `n` at a sense period, for the undelayed signal in mV (R274).  gX is at most what the
peak that reaches the output next allows. -/
def excursion (s : State) (n : Nat) (mv : Int) : State :=
  if excOn s n then
    let s := excStep s n mv
    let pk := (ch s n).xs.foldl max 0
    let tgt := limitTarget (xl s n) pk
    let due := limitTarget (xl s n) ((ch s n).xs.getLastD 0)
    let s := upd s n (fun c => { c with
      gX := min due (towards c.gX tgt (recBytes s n 0x20 2) (recBytes s n 0x22 2)) })
    let s := s.set (R.EXCUR_XSTAT_XPRED.win (n + 1)) (min 0xFFFF (pk / 2 ^ 20))
    s.set (R.EXCUR_XSTAT_XPK.win (n + 1))
      (min 0xFFFF ((ch s n).xmaxs.foldl max (ch s n).xmax / 2 ^ 20))
  else s

/-- The target of the supply-tracking limiter: Vav by the largest |s × VOL| of the look-ahead window (R277). -/
def supplyTarget (s : State) (n : Nat) : Nat :=
  limitTarget (pvddMv s - 100 * s.get R.AMPG_PVLIM_HEADRM) ((ch s n).vs.foldl max 0)

/-- gP falls to its target at once (R277). -/
def supplyFall (s : State) (n : Nat) : State :=
  if s.on R.AMPG_PVLIM_EN then upd s n (fun c => { c with gP := min c.gP (supplyTarget s n) }) else s

/-- A sense period at the supply-tracking limiter: gP falls at once, and returns with RELEASE (R277). -/
def supply (s : State) (n : Nat) : State :=
  if s.on R.AMPG_PVLIM_EN then
    let tgt := supplyTarget s n
    upd s n (fun c => { c with
      gP := if tgt ≤ c.gP then tgt else towards c.gP tgt 0 (10 * s.get R.AMPG_PVLIM_RELEASE) })
  else s

/-- A sample of s × VOL in mV at the VFS scale (R263). -/
def inMv (s : State) (n : Nat) (y : Sample) : Int := y.toInt * vfsMv s n / 2 ^ 31

/-- The excursion and supply limiters of channel `n` at a sense period (R274, R277), for the undelayed
signal s × VOL. -/
def limiters (s : State) (n : Nat) (y : Sample) : State := showGains (supply (excursion s n (inMv s n y)) n) n

/-- g = min(gT, gX, gP, gD); a gain whose protection is disabled is 1 (R264). -/
def gain (s : State) (n : Nat) : Nat :=
  let c := allowed s n (ch s n)
  min (min c.gT c.gX) (min c.gP c.gD)

/-- The pilot that RETRK 2 adds after g (R270). -/
def pilot (s : State) (n : Nat) : Int :=
  if s.get (sp R.SPKP_CTL_RETRK n) = 2 then
    Config.pilot (s.get (sp R.SPKP_CTL_PILOTF n)) (s.get (sp R.SPKP_CTL_PILOTLVL n)) (vfsMv s n) s.sysRate s.sampIdx
  else 0

/-- The programme that a bridge puts out: nothing unless it runs, ramped in after its start and to zero in its stop
(R266, R278). -/
def ramped (s : State) (n : Nat) (z : Sample) : Sample :=
  let c := ch s n
  if st s n ≠ RUN then 0
  else
    match c.fade with
    | some t => if s.sampIdx < t + s.blkLen then Config.ramp (s.blkLen - (s.sampIdx - t)) s.blkLen z else 0
    | none => if c.ramp = 0 then z else Config.ramp (s.sampIdx % s.blkLen) (s.blkLen * c.ramp) z

/-- A TYPE 8 sink passes a frame on (R264, R270, R277): s × VOL enters the look-ahead line and the window of the
supply-tracking limiter, and the delayed product times g, with the pilot, is the channel's output. -/
def play (s : State) (c : Nat) (f : Frame) : State :=
  (List.range (s.cNch c)).foldl (fun s i =>
    let n := s.cFirst c + i
    let y := Vol.scaled (f.getD i 0) (Vol.at_ s (4 + n) s.sampIdx)
    let k := lookN s s.sysRate
    let line := y :: (ch s n).line
    let s := upd s n (fun c => { c with
      line := line.take (k + 1), vs := ((inMv s n y).natAbs :: c.vs).take (max 1 k) })
    let s := supplyFall s n
    let z := ramped s n (satSample ((line.getD k 0).toInt * gain s n / 2 ^ 30))
    let z := if st s n = RUN then satSample (z.toInt + pilot s n) else z
    { s with ana := { s.ana with dac := Map.set 0 s.ana.dac (4 + n) z } }) s

/-- Each bridge takes its voltage and current sample, and PVDD is sensed (R259, R267, R274, R276). -/
def sense (s : State) (vi : List (BitVec 16 × BitVec 16)) (pv : Nat) : State :=
  let s := s.set R.AMPG_STAT_PVDD pv
  let get : Nat → BitVec 16 × BitVec 16 := fun n => vi.getD n (0, 0)
  let cur : Nat → Int := fun n =>
    if paired s n then (get n).2.toInt + (get (n + 1)).2.toInt else (get n).2.toInt
  let s := (channels s).foldl (fun s n =>
    let i := if st s n = RUN then cur n else 0
    let s := upd s n (fun c => { c with
      vi := (((get n).1.toInt, cur n) :: c.vi).take (senseRate s / 1000)
      sumI2 := c.sumI2 + i.natAbs * i.natAbs, nI := c.nI + 1
      cbc := c.cbc || (st s n == RUN && decide (threshold s n * (50 + 10 * s.get (R.AMP_CFG_CBCLIM n)) ≤ 100 * i.natAbs)) })
    limiters s n ((ch s n).line.headD 0)) s
  let src := s.ctxsWhere (fun c => s.cType c == 8 && !s.cSink c && (s.ctx c).st == .running)
  src.foldl (fun s c =>
    let w : Nat → BitVec 16 → Sample := fun n x =>
      if st s n = RUN ∧ !slave s n then BitVec.ofNat 32 (x.toNat * 65536) else 0
    Strm.arrive s c ((List.range (s.cNch c / 2)).flatMap (fun i =>
      let n := s.cFirst c + i
      [w n (get n).1, w n (BitVec.ofInt 16 (clampInt (-32768) 32767 (cur n)))]))) s

/-! Excursion records (R272, R273). -/

/-- The staged record of a source, as bytes. -/
def staged (s : State) (code : Nat) : List Byte :=
  (List.range 16).flatMap (fun i => wordBytes (s.get ((R.EXCUR_LEGACY_DATA i).win (code + 1))))

/-- The reason a record is refused; 0 where it is accepted (R273). -/
def recordError (b : List Byte) : Nat :=
  let f : Nat → Nat → Nat := fun o n => leNat ((b.drop o).take n)
  if f 0 2 ≠ 0x1140 ∨ (f 2 1 ≠ 1 ∧ f 2 1 ≠ 2) then 1
  else if crc32 (b.take 0x3C) ≠ f 0x3C 4 then 2
  else if f 4 2 = 0 ∨ f 8 4 = 0 ∨ f 0xC 4 = 0 ∨ f 0x10 4 = 0 ∨ f 0x14 4 = 0 then 3
  else if f 0x18 2 ≤ f 0x1A 2 then 4
  else if f 0x20 2 = 0 ∨ f 0x22 2 = 0 then 5 else 0

/-- EXCUR.CMD.APPLY of a source (R273). -/
def apply (s : State) (code : Nat) : State :=
  let b := staged s code
  let e := recordError b
  let s := s.set R.EXCUR_STAT_RECERR e
  if e ≠ 0 then (s.set R.EXCUR_IFLG_RECBAD 1).bump R.EXCUR_ERRCNT_BLKERR
  else
    let n := s.get (R.EXCUR_SEL_CH.win (code + 1))
    upd (s.set R.EXCUR_IFLG_RECOK 1) n (fun c => { c with record := some (toWords b) })

/-! Boundaries and pages. -/

/-- A block boundary: records and RUN take effect, ramps go on, the current limit's blocks are counted
(R259, R273, R278). -/
def boundary (s : State) : State :=
  (List.range 4).foldl (fun s n =>
    let c := ch s n
    let s := match c.record with
      | some ws =>
        let s := ws.zipIdx.foldl (fun (s : State) (e : Nat × Nat) => s.set ((R.EXCUR_REC_DATA e.2).win (n + 1)) e.1) s
        upd s n (fun c => { c with record := none })
      | none => s
    let s := if c.cbc then ((s.bump (R.AMP_EVCNT_CBCBLK n)).set (R.AMP_IFLG_CBC n) 1).set (R.AMP_STAT_CBC n) 1
      else s.set (R.AMP_STAT_CBC n) 0
    let s := upd s n (fun c => { c with cbc := false, ramp := c.ramp - 1 })
    match c.toRun with
    | some k =>
      if st s n = STARTING ∨ st s n = TESTING then
        judge (upd (setSt s n RUN) n (fun c => { c with toRun := none, ramp := k })) n
      else s
    | none => showGains s n) (follow s)

/-- AMPn.VOL has been committed (R264). -/
def volCommitted (s old : State) (n : Nat) : State :=
  let m := s.get (R.AMP_VOL_MUTE n) ≠ old.get (R.AMP_VOL_MUTE n)
  Vol.set s (4 + n) (s.get (R.AMP_VOL_GAIN n)) (if m then 8 * s.blkLen else s.blkLen) (s.on (R.AMP_VOL_MUTE n))

def checkAmp (s : State) (n off d : Nat) : Option Nat :=
  if off = 0x20 then
    if 5 ≤ bits d 22 20 then some 6
    else if st s n ≠ OFF ∧ (bits d 18 16 ≠ s.get (R.AMP_CFG_VFS n) ∨ bits d 31 24 ≠ s.get (R.AMP_CFG_PHASE n))
    then some 7 else none
  else none

def checkG (s : State) (off d : Nat) : Option Nat :=
  if off = 0x20 then
    let la := bits d 4 0
    if bits d 29 28 = 3 ∨ (la ≠ 0 ∧ la < 4) ∨ 16 < la then some 6
    else if (List.range 4).any (fun n => st s n != OFF) ∨
        s.ctxsWhere (fun c => s.cType c == 8 && !s.idle c) ≠ [] ∨
        (la = 0 ∧ (List.range 4).any (fun n => s.on (R.EXCUR_CTL_EN.win (n + 1)))) then some 7
    else none
  else if off = 0x24 then (if bits d 15 8 = 0 then some 6 else none)
  else if off = 0x28 then (if bits d 31 16 = 0 ∨ bits d 15 8 = 0 then some 6 else none)
  else none

/-- SPKP for the channel `n` that the source has selected (R287). -/
def checkSp (s : State) (n off d : Nat) : Option Nat :=
  if off = 0x24 then
    if bits d 30 29 = 3 ∨ bits d 28 27 = 3 ∨ bits d 7 0 < 50 ∨ 200 < bits d 7 0 ∨
        (bit d 31 ∧ (s.get (sp R.SPKP_RE0_RE0 n) = 0 ∨ s.get (sp R.SPKP_ALPHA_ALPHA n) = 0 ∨
          s.get (sp R.SPKP_COIL_TAUC n) = 0 ∨ s.get (sp R.SPKP_MAG_TAUM n) = 0)) then some 6 else none
  else if off = 0x3C then
    if bits d 31 16 < 10 ∨ 10000 < bits d 31 16 ∨ bits d 15 10 = 0 ∨ 50 < bits d 15 10 ∨ bits d 9 0 < 5 ∨
      500 < bits d 9 0 then some 6 else none
  else none

def checkEx (s : State) (off d : Nat) : Option Nat :=
  if off = 0x24 ∧ bit d 31 ∧ s.get R.AMPG_CFG_LOOKAHEAD = 0 then some 7 else none

def wroteAmp (s : State) (n off d : Nat) : State :=
  if off = 0x04 then
    let s := follow s
    if bit d 2 then clrflt s n else s
  else s

/-- The gains of every channel follow the enables (R264). -/
def showAll (s : State) : State := (List.range 4).foldl showGains s

def wroteG (s : State) (off : Nat) : State :=
  if off = 0x04 then follow s else if off = 0x24 then showAll s else s

/-- When the model is enabled, Tc and Tm start at Ta (R268); disabled, its gain is 1 (R264). -/
def wroteSp (s old : State) (n off : Nat) : State :=
  if off ≠ 0x24 then s
  else if s.on (sp R.SPKP_CTL_EN n) ∧ !old.on (sp R.SPKP_CTL_EN n) then
    upd s n (fun c => { c with tc := tAmb s n, tm := tAmb s n, gT := ONE, re := 0 })
  else showGains s n

def wroteEx (s : State) (code off d : Nat) : State :=
  if off = 0x28 ∧ bit d 0 then apply s code else if off = 0x24 then showAll s else s

end Sys2Proof.Machine.Amp
end

