-- ==== Sys2Proof/Machine/LichOps.lean ====
section
/-! DEFINITION. Lichen, the housekeeping converters: results, regular sequences, the injected queue,
plausibility and calibration (R342 to R355). -/
namespace Sys2Proof.Machine.Lich
open Sys2Proof Sys2Proof.Machine

/-- Change the Lichen part of the state. -/
def upd (s : State) (f : LichSt → LichSt) : State := { s with lich := f s.lich }

/-- Both converters are powered and on (R352, R354). -/
def awake (s : State) : Bool := decide (3 ≤ s.mode) && s.on R.LICH_CTRL_EN

/-- A calibration is owed, waits or runs, so that regular entries and plausibility checks pause (R350). -/
def paused (s : State) : Bool := s.lich.calOwed || s.on R.LICH_STAT_CALPEND || s.on R.LICH_STAT_CALBUSY

/-- W of R343. -/
def width (e : LEnt) : Nat := 14 + e.avg - e.shift

/-- DATA of R343. -/
def data (e : LEnt) (sum : Nat) : Nat :=
  let half := if e.shift = 0 then 0 else 2 ^ (e.shift - 1)
  min ((sum + half) / 2 ^ e.shift) (2 ^ width e - 1)

/-- A result register, numbered 0 to 15 RESAk, 16 to 31 RESBk, 32 to 35 INJk, 36 and 37 PLAUSA and
PLAUSB: its RATIO, CH and DATA fields. -/
def resFlds (i : Nat) : Fld × Fld × Fld :=
  if i < 16 then (R.LICHR_RESA_RATIO i, R.LICHR_RESA_CH i, R.LICHR_RESA_DATA i)
  else if i < 32 then (R.LICHR_RESB_RATIO (i - 16), R.LICHR_RESB_CH (i - 16), R.LICHR_RESB_DATA (i - 16))
  else if i < 36 then (R.LICHR_INJ_RATIO (i - 32), R.LICHR_INJ_CH (i - 32), R.LICHR_INJ_DATA (i - 32))
  else (R.LICHR_PLAUS_RATIO (i - 36), R.LICHR_PLAUS_CH (i - 36), R.LICHR_PLAUS_DATA (i - 36))

/-- Results written since the last snapshot of source `code`, 2 standing for two or more (R351). -/
def count (s : State) (code i : Nat) : Nat := Map.get 0 s.lich.counts (64 * code + i)

/-- Write a result, counted for every source (R351). -/
def put (s : State) (i : Nat) (ratio : Bool) (ch v : Nat) : State :=
  let f := resFlds i
  let s := ((s.setB f.1 ratio).set f.2.1 ch).set f.2.2 v
  (List.range 4).foldl (fun s code => upd s (fun l => { l with
    counts := Map.set 0 l.counts (64 * code + i) (min 2 (count s code i + 1)) })) s

/-- A source's snapshot of a result clears its count (R351). -/
def seen (s : State) (code i : Nat) : State :=
  upd s (fun l => { l with counts := Map.set 0 l.counts (64 * code + i) 0 })

/-- The temperature of R344 or R81 in 0.01 degrees: offset and gain by x = DATA / 2^W, rounded. -/
def temp (off gain : Int) (v w : Nat) : Int := off + roundDiv (gain * v) (2 ^ w)

/-- The newest result of a channel goes to the users of R81 and R269. -/
def publish (s : State) (e : LEnt) (v : Nat) : State :=
  let w := width e
  let tsrc := s.get R.CLKM_TREF_TSRC
  let s := if (e.ch = 0 ∧ tsrc = 1) ∨ (e.ch = 1 ∧ tsrc = 2) then
      Clkm.newTemperature s (temp (s.geti (R.LICH_TTRIM_TOFF e.ch)) (s.geti (R.LICH_TTRIM_TGAIN e.ch)) v w)
    else if e.ch = 15 ∧ tsrc = 3 then
      Clkm.newTemperature s (temp (s.geti R.CLKM_NTCLIN_NTCA) (s.geti R.CLKM_NTCLIN_NTCB) v w)
    else s
  if e.ch = 13 then Amp.ntcResult s 0 v w
  else if e.ch = 14 then Amp.ntcResult s 1 v w
  else s

/-! Regular sequences (R345). -/

/-- The pass in progress of a converter. -/
def pass (s : State) (onB : Bool) : List LEnt := if onB then s.lich.passB else s.lich.passA

/-- Replace the pass of a converter. -/
def setPass (s : State) (onB : Bool) (p : List LEnt) : State :=
  upd s (fun l => if onB then { l with passB := p } else { l with passA := p })

/-- Entry `k` of a regular sequence as its register holds it. -/
def seqEntry (s : State) (onB : Bool) (k : Nat) : LEnt :=
  if onB then ⟨k, true, s.on (R.LICH_SEQB_RATIO k), s.get (R.LICH_SEQB_CH k), s.get (R.LICH_SEQB_SHIFT k),
    s.get (R.LICH_SEQB_AVG k)⟩
  else ⟨k, false, s.on (R.LICH_SEQA_RATIO k), s.get (R.LICH_SEQA_CH k), s.get (R.LICH_SEQA_SHIFT k),
    s.get (R.LICH_SEQA_AVG k)⟩

/-- A pass has fallen due and has not started. -/
def late (s : State) (onB : Bool) : Bool := if onB then s.lich.dueB else s.lich.dueA

/-- Note whether a pass is due. -/
def setLate (s : State) (onB d : Bool) : State :=
  upd s (fun l => if onB then { l with dueB := d } else { l with dueA := d })

/-- A pass falls due: it starts with the entries as they stand, or once the last pass or a calibration has ended (R345,
R350). -/
def passStart (s : State) (onB : Bool) : State :=
  let c := b2n onB
  if !awake s ∨ !s.on (R.LICH_SEQCFG_EN c) then setLate s onB false
  else if paused s ∨ pass s onB ≠ [] then setLate s onB true
  else setPass (setLate s onB false) onB ((List.range (s.get (R.LICH_SEQCFG_LEN c) + 1)).map (seqEntry s onB))

/-- A pass has ended: the next starts if it is due, or at once with PERIOD 0 (R345). -/
def passNext (s : State) (onB : Bool) : State :=
  if late s onB ∨ s.get (R.LICH_SEQCFG_PERIOD (b2n onB)) = 0 then passStart s onB else s

/-- The injected entries of a converter. -/
def injOf (s : State) (onB : Bool) : List LEnt := s.lich.inj.filter (fun e => e.onB == onB)

/-- A regular entry may end: it is not suspended (R347, R348, R350). -/
def regularRuns (s : State) (onB : Bool) : Bool :=
  awake s && !paused s && (injOf s onB).isEmpty && !(s.lich.plaus.isSome && s.lich.inj.isEmpty)

/-- A regular entry ends with the sum of its samples (R343, R345). -/
def entryEnd (s : State) (onB : Bool) (sum : Nat) : State :=
  match regularRuns s onB, pass s onB with
  | true, e :: r =>
    let v := data e sum
    let s := put s (e.k + 16 * b2n onB) e.ratio e.ch v
    let s := setPass s onB r
    let s := publish s e v
    if r = [] then passNext (s.set (if onB then R.LICH_IFLG_SEQB else R.LICH_IFLG_SEQA) 1) onB else s
  | _, _ => s

/-! The injected queue (R346, R347). -/

/-- Trigger `k` is queued or running. -/
def queued (s : State) (k : Nat) : Bool := s.lich.inj.any (fun e => e.k == k)

/-- Queue trigger `k` for input `ch` with the settings of INJCFGk. DEDUCED, notes/assumptions/69.md. -/
def request (s : State) (k ch : Nat) : State :=
  if awake s ∧ !queued s k then
    upd s (fun l => { l with inj := l.inj ++ [⟨k, s.on (R.LICH_INJCFG_CONV k), s.on (R.LICH_INJCFG_RATIO k), ch,
      s.get (R.LICH_INJCFG_SHIFT k), s.get (R.LICH_INJCFG_AVG k)⟩] })
  else s

/-- The input the jack asks for: ring 2 for measurement A and the sleeve for B (R244), HPL and HPR in turn
(R246), the microphone pole for a button (R250); `none` where it asks for nothing. -/
def jackCh (s : State) : Option Nat :=
  if Jack.jst s = Jack.DETECT then some (if s.jack.classA = none then 11 else 10)
  else if Jack.jst s = Jack.ZMEAS then some (if s.jack.left = none then 8 else 9)
  else if Jack.watches s then some 12
  else none

/-- A request of the amplifier, of the jack, or of both in one cycle: AMP before JACK (R347). -/
def injected (s : State) (amp jack : Bool) : State :=
  let s := if amp ∧ Amp.asks s then request s 1 21 else s
  match jack, jackCh s with
  | true, some ch => request s 0 ch
  | _, _ => s

/-- INJTMR elapses (R346). -/
def timerTick (s : State) : State :=
  if !awake s ∨ s.get R.LICH_INJTMR_PERIOD = 0 then s
  else if queued s 2 then (s.bump R.LICH_EVCNT_TMRMISS).set R.LICH_IFLG_TMRMISS 1
  else request s 2 (s.get (R.LICH_INJCFG_CH 2))

/-- The injected entry a converter runs; none while a calibration holds it back (R350). -/
def injRuns (s : State) (onB : Bool) : Option LEnt :=
  match injOf s onB with
  | [] => none
  | e :: _ =>
    if !awake s ∨ s.on R.LICH_STAT_CALBUSY ∨ s.lich.calOwed ∨
        (s.on R.LICH_STAT_CALPEND ∧ !s.lich.calFor.contains e.k) then none
    else some e

/-- The full scale of an input in microvolts, with the internal reference (R342). -/
def fullUv (ch : Nat) : Nat :=
  1250000 * [1, 1, 24, 4, 2, 1, 4, 4, 1, 1, 4, 4, 4, 4, 4, 4, 4, 4, 4, 4, 5, 24, 2, 1].getD ch 1

/-- A result goes directly to the jack or to the amplifier, in microvolts (R347): AMPTS is the terminal at 30.0 V full
scale in the terminal check, then the differential voltage at 312.5 mV in offset binary (R279, R342). -/
def passOn (s : State) (e : LEnt) (v : Nat) : State :=
  if e.k = 0 then Jack.upd s (fun j => { j with conv := some (v * fullUv e.ch / 2 ^ width e) })
  else if e.k = 1 ∧ s.amp.tests ≠ [] then
    let uv : Int := if s.amp.conv = [] then (v * 30000000 / 2 ^ width e : Nat)
      else (v : Int) * 625000 / 2 ^ width e - 312500
    { s with amp := { s.amp with conv := s.amp.conv ++ [uv] } }
  else s

/-- The injected entry of a converter ends (R347). -/
def injEnd (s : State) (onB : Bool) (sum : Nat) : State :=
  match injRuns s onB with
  | none => s
  | some e =>
    let s := passOn (put s (32 + e.k) e.ratio e.ch (data e sum)) e (data e sum)
    let s := upd s (fun l => { l with inj := l.inj.filter (fun q => q.k != e.k)
                                      calFor := l.calFor.filter (fun k => k != e.k) })
    s.set R.LICH_IFLG_INJDONE 1

/-! Plausibility (R348, R349). -/

/-- A check falls due. -/
def plausDue (s : State) : State :=
  if awake s ∧ s.on R.LICH_PLAUSCFG_EN ∧ s.lich.plaus = none then
    upd s (fun l => { l with plaus := some (s.get R.LICH_PLAUSCFG_CH, s.get R.LICH_PLAUSCFG_AVG) })
  else s

/-- The two means differ by more than PLAUS_LSB. -/
def differ (s : State) (a b : Nat) : Bool :=
  decide (s.get R.LICH_PLAUSCFG_LSB < ((a : Int) - (b : Int)).natAbs)

/-- A check ends with the sums of the two converters. -/
def plausEnd (s : State) (sumA sumB : Nat) : State :=
  match s.lich.plaus, awake s && !paused s && s.lich.inj.isEmpty with
  | some (ch, n), true =>
    let a := sumA / 2 ^ n
    let b := sumB / 2 ^ n
    let s := upd (put (put s 36 false ch a) 37 false ch b) (fun l => { l with plaus := none })
    if differ s a b then
      ((s.bump R.LICH_ERRCNT_BLKERR).set R.LICH_STAT_PLAUSFLT 1).set R.LICH_IFLG_PLAUS 1
    else if s.on R.LICH_IFLG_PLAUS then s
    else s.set R.LICH_STAT_PLAUSFLT 0
  | _, _ => s

/-! Calibration (R350). -/

/-- CAL is accepted. -/
def cal (s : State) : State :=
  if awake s then upd (s.set R.LICH_STAT_CALPEND 1) (fun l => { l with calFor := l.inj.map (fun e => e.k) }) else s

/-- The calibration starts. -/
def calStart (s : State) : State :=
  if awake s ∧ !s.on R.LICH_STAT_CALBUSY ∧
      ((s.on R.LICH_STAT_CALPEND ∧ s.lich.calFor = []) ∨ s.lich.calOwed) then
    (s.set R.LICH_STAT_CALBUSY 1).set R.LICH_STAT_CALPEND 0
  else s

/-- The calibration ends. -/
def calDone (s : State) : State :=
  if s.on R.LICH_STAT_CALBUSY then
    let s := upd (s.set R.LICH_STAT_CALBUSY 0) (fun l => { l with calOwed := false, calFor := [] })
    let s := (s.bump R.LICH_EVCNT_CALS).set R.LICH_IFLG_CALDONE 1
    [false, true].foldl (fun s onB => if late s onB ∧ pass s onB = [] then passStart s onB else s) s
  else s

/-- Entries in progress and queued are dropped (R352, R354). -/
def drop (s : State) : State :=
  upd ((s.set R.LICH_STAT_CALPEND 0).set R.LICH_STAT_CALBUSY 0) (fun l =>
    { l with passA := [], passB := [], dueA := false, dueB := false, inj := [], plaus := none, calFor := [] })

/-- ANA is powered down: a calibration is owed when it is powered again (R350, R352). -/
def sleep (s : State) : State := upd (drop s) (fun l => { l with calOwed := true })

/-! What the arbiter asks. -/

/-- An input that allows ratiometric mode (R342). -/
def ratioOk (ch : Nat) : Bool := ch == 7 || (decide (13 ≤ ch) && decide (ch ≤ 19))

/-- Values the LICH page refuses (R354), and CAL and GO out of turn (R346, R350). -/
def check (s : State) (off d : Nat) : Option Nat :=
  if off = 0x04 then
    if bit d 2 ∧ (s.on R.LICH_STAT_CALPEND ∨ s.on R.LICH_STAT_CALBUSY) then some 7 else none
  else if 0x28 ≤ off ∧ off < 0xB8 then
    if bits d 3 0 = 0 ∨ 8 < bits d 3 0 ∨ 8 < bits d 19 16 ∨ 23 < bits d 28 24 ∨
        (bit d 31 ∧ !ratioOk (bits d 28 24)) then some 6 else none
  else if off = 0xBC then (if bit d 0 ∧ queued s 3 then some 7 else none)
  else if off = 0xC0 then
    if bits d 15 12 = 0 ∨ 8 < bits d 15 12 ∨ 23 < bits d 28 24 ∨ bits d 23 16 = 0 then some 6 else none
  else none

/-- What a write of the LICH page does beside storing its fields. -/
def wrote (s : State) (off d : Nat) : State :=
  if off = 0x04 then
    let s := if s.on R.LICH_CTRL_EN then s else drop s
    if bit d 2 then cal s else s
  else if off = 0xBC then (if bit d 0 then request s 3 (s.get (R.LICH_INJCFG_CH 3)) else s)
  else s

/-- LICHR.CTRL.SRST clears every result and every count (R355). -/
def srstR (s : State) : State :=
  let s := (List.range 38).foldl (fun s i =>
    let f := resFlds i
    ((s.set f.1 0).set f.2.1 0).set f.2.2 0) s
  upd s (fun l => { l with counts := [] })

end Sys2Proof.Machine.Lich
end

