-- ==== Sys2Proof/Machine/CdacOps.lean ====
section
/-! DEFINITION. The control DACs (R356 to R369) and the GPIO pins (R432 to R434). -/
namespace Sys2Proof.Machine.Cdac
open Sys2Proof Sys2Proof.Machine

/-- Change the control-DAC part of the state. -/
def upd (s : State) (f : CdacSt → CdacSt) : State := { s with cdac := f s.cdac }

/-- The privacy logic owns channel `n` (R367). -/
def owned (s : State) (n : Nat) : Bool :=
  (n == 6 && s.on R.PRIV_POLICY_IND6) || (n == 7 && s.on R.PRIV_POLICY_IND7)

/-- The balls are clamped: before the NVM load, with CTRL.EN clear, and in STANDBY and LISTEN (R363, R364,
R369). -/
def clamped (s : State) : Bool := s.cdac.held || !s.on R.CDAC_CTRL_EN || decide (s.mode < 3)

/-- A value in fine units (R356). -/
def fine (gain code : Nat) : Nat := code * (gain + 1)

/-- The ball's mode and value of channel `n`, in fine units. -/
def ball (s : State) (n : Nat) : Nat × Nat := (b2n (bit s.cdac.sinks n), s.get (R.CDAC_NOW_VALUE n))

/-- Put the ball of channel `n` at a mode and value. -/
def setBall (s : State) (n mode v : Nat) : State :=
  (upd s (fun c => { c with sinks := putBit c.sinks n (mode == 1) })).set (R.CDAC_NOW_VALUE n) v

/-- The causes that assert the fault input, as STAT.SAFE shows them (R365). -/
def causes (s : State) : Nat :=
  8 * b2n s.cdac.wdg + 4 * b2n ((List.range 4).any (fun n => Amp.st s n == Amp.THERMAL)) +
    2 * b2n (s.on R.LICH_STAT_PLAUSFLT && s.on R.LICH_PLAUSCFG_CDSAFE) + s.get R.CDAC_CTRL_FORCESAFE

/-- The mode and value the ball of channel `n` moves to: SAFEn while a cause stands, else the output
register (R360, R365). -/
def target (s : State) (n : Nat) : Nat × Nat :=
  if s.get R.CDAC_STAT_SAFE ≠ 0 then
    (s.get (R.CDAC_SAFE_MODE n), fine (s.get (R.CDAC_SAFE_GAIN n)) (s.get (R.CDAC_SAFE_CODE n)))
  else (s.get (R.CDAC_OUT_MODE n), fine (s.get (R.CDAC_OUT_GAIN n)) (s.get (R.CDAC_OUT_CODE n)))

/-- The ball of channel `n` is at its target. -/
def atTarget (s : State) (n : Nat) : Bool := ball s n == target s n

/-- The ball has reached the power-up value: PUDONE (R363). -/
def puDone (s : State) (n : Nat) : State :=
  if s.cdac.powerUp.contains n ∧ atTarget s n ∧ !clamped s then
    upd (s.set R.CDAC_IFLG_PUDONE 1) (fun c => { c with powerUp := c.powerUp.filter (fun i => i != n) })
  else s

/-- The ball of channel `n` follows its target: at once where it is clamped or the slew limiter is off
(R360, R364). -/
def follow (s : State) (n : Nat) : State :=
  if owned s n then s
  else if clamped s then s.set (R.CDAC_NOW_VALUE n) 0
  else if s.on (R.CDAC_CFG_SLEWEN n) then puDone s n
  else puDone (setBall s n (target s n).1 (target s n).2) n

/-- Every channel follows its target. -/
def followAll (s : State) : State := (List.range 8).foldl follow s

/-- One tick of the slew limiter (R360, R361): toward the target within its mode; to 0 first where the
mode changes. -/
def tick (s : State) (n : Nat) : State :=
  if owned s n ∨ clamped s then s
  else if !s.on (R.CDAC_CFG_SLEWEN n) then follow s n
  else
    let b := ball s n
    let t := target s n
    let step := s.get (R.CDAC_CFG_STEP n) + 1
    let s := if b.1 = t.1 ∨ b.2 = 0 then setBall s n t.1 (approach b.2 t.2 step).toNat
      else setBall s n b.1 (b.2 - step)
    puDone s n

/-- The fault input changes with its causes (R365). DEDUCED, notes/assumptions/71.md. -/
def safeFollow (s : State) : State :=
  let old := s.get R.CDAC_STAT_SAFE
  let new := causes s
  if old = new then s
  else
    let rises := ((List.range 4).filter (fun i => bit new i && !bit old i)).length
    let s := if rises = 0 then s else (s.addSat R.CDAC_EVCNT_SAFE rises).set R.CDAC_IFLG_SAFE 1
    followAll (s.set R.CDAC_STAT_SAFE new)

/-! Loads (R357 to R359). -/

/-- Channel `n` takes its input register. -/
def loadCh (s : State) (n : Nat) : State :=
  if owned s n then s
  else
    let s := (s.set (R.CDAC_OUT_MODE n) (s.get (R.CDAC_IN_MODE n))).set (R.CDAC_OUT_GAIN n) (s.get (R.CDAC_IN_GAIN n))
    follow (s.set (R.CDAC_OUT_CODE n) (s.get (R.CDAC_IN_CODE n))) n

/-- The channels among `p` whose LDSRC is `src` load in one cycle. -/
def loadAll (s : State) (src : Nat) (p : Nat → Bool) : State :=
  ((List.range 8).filter (fun n => p n && s.get (R.CDAC_CFG_LDSRC n) == src)).foldl loadCh s

/-- A falling edge of LOAD_N. -/
def loadEdge (s : State) : State := if 3 ≤ s.mode then loadAll s 2 (fun _ => true) else s

/-- PTIDX (R358). -/
def ptIdx (s : State) : Nat := s.get (R.CDAC_PTIDX_IDX 0) + 2 ^ 32 * s.get (R.CDAC_PTIDX_IDX 1)

/-- PTLATE, counted. -/
def late (s : State) : State := (s.set R.CDAC_IFLG_PTLATE 1).bump R.CDAC_EVCNT_PTLATE

/-- The presentation-time load fires (R358). -/
def fire (s : State) : State := loadAll ((s.set R.CDAC_PTCTL_ARMED 0).set R.CDAC_IFLG_PTFIRE 1) 4 (fun _ => true)

/-- A load that is armed for an index already passed fires at once (R323, R358). DEDUCED, notes/assumptions/70.md. -/
def ptJudge (s : State) : State :=
  if s.on R.CDAC_PTCTL_ARMED ∧ ptIdx s ≤ s.sampIdx then fire (late s) else s

/-- The sample period PTIDX starts (R358). -/
def ptStart (s : State) : State :=
  if s.on R.CDAC_PTCTL_ARMED ∧ ptIdx s = s.sampIdx then fire s else s

/-- The index restarts (R13, R359): an armed load is disarmed and PTLATE is set. -/
def ptRestart (s : State) : State :=
  if s.on R.CDAC_PTCTL_ARMED then late (s.set R.CDAC_PTCTL_ARMED 0) else s

/-! Streaming (R362). -/

/-- S of R362. -/
def sub (s : State) : Nat := s.get R.CDAC_STRCFG_SUB

/-- The channels a TYPE 9 context covers. -/
def covers (s : State) (c : Nat) : List Nat := (List.range (s.cNch c / max 1 (sub s))).map (fun k => s.cFirst c + k)

/-- Channel `n` is covered by a TYPE 9 context that is not IDLE. -/
def streamed (s : State) (n : Nat) : Bool :=
  s.ctxNums.any (fun c => s.cType c == 9 && !s.idle c && (covers s c).contains n)

/-- A TYPE 9 sink has passed a frame on. -/
def noteOut (s : State) (c : Nat) (f : Frame) : State :=
  upd s (fun q => { q with frames := Map.insert c f (Map.erase c q.frames) })

/-- CODE of a streamed word. -/
def streamCode (w : Sample) : Nat := ((w.toInt / 262144) + 8192).toNat

/-- Sub-sample `j` of the current frame of context `c`. -/
def subLoad (s : State) (c j : Nat) : State :=
  if s.cType c = 9 ∧ (s.ctx c).st = .running ∧ j < sub s then
    match s.cdac.frames.find? (fun e => e.1 == c) with
    | none => s
    | some e => (covers s c).zipIdx.foldl (fun (s : State) (k : Nat × Nat) =>
        if owned s k.1 then s
        else follow (s.set (R.CDAC_OUT_CODE k.1) (streamCode (e.2.getD (k.2 * sub s + j) 0))) k.1) s
  else s

/-- Why the ARM of a TYPE 9 context is rejected (R362, R367). -/
def checkArm (s : State) (c : Nat) : Option Nat :=
  if s.cNch c % max 1 (sub s) ≠ 0 ∨ 8 < s.cFirst c + s.cNch c / max 1 (sub s) ∨
      (covers s c).any (fun n => s.get (R.CDAC_CFG_LDSRC n) != 5) ∨ 1000000 < sub s * s.sysRate then some 6
  else if (covers s c).any (owned s) then some 7 else none

/-! Supervision (R366). -/

/-- The supervision condition of channel `n` has stood, or been absent, for tSUP: compliance in a current
sink, over-current in voltage mode.  An indicator channel is a sink. -/
def supervise (s : State) (n : Nat) (stands : Bool) : State :=
  let comp := owned s n || bit s.cdac.sinks n
  let f := if comp then R.CDAC_STAT_COMPF else R.CDAC_STAT_OCF
  let possible := if owned s n then (if n = 6 then Mic.cd6Driven s else Mic.cd7Driven s)
    else !clamped s && (!comp || s.get (R.CDAC_NOW_VALUE n) != 0)
  if stands then
    if !possible ∨ bit (s.get f) n then s
    else
      let s := (s.setBit f n true).bump R.CDAC_ERRCNT_BLKERR
      let s := if comp then (s.set R.CDAC_IFLG_COMP 1).bump R.CDAC_EVCNT_COMP
        else (s.set R.CDAC_IFLG_OC 1).bump R.CDAC_EVCNT_OC
      if n = 6 ∧ owned s 6 then Mic.liveFault s else s
  else (s.setBit R.CDAC_STAT_COMPF n false).setBit R.CDAC_STAT_OCF n false

/-! Power-up, resets and low-power modes (R363, R364). -/

/-- The NVM load is complete: PUn goes to INn and the output register, and the ball starts its slew. -/
def powerUp (s : State) : State :=
  let ns := (List.range 8).filter (fun n => !owned s n)
  let s := upd s (fun c => { c with held := false, powerUp := ns })
  let s := ns.foldl (fun s n =>
    let s := (s.set (R.CDAC_IN_MODE n) (s.get (R.CDAC_PU_MODE n))).set (R.CDAC_IN_GAIN n) (s.get (R.CDAC_PU_GAIN n))
    let s := s.set (R.CDAC_IN_CODE n) (s.get (R.CDAC_PU_CODE n))
    let s := (s.set (R.CDAC_OUT_MODE n) (s.get (R.CDAC_PU_MODE n))).set (R.CDAC_OUT_GAIN n) (s.get (R.CDAC_PU_GAIN n))
    s.set (R.CDAC_OUT_CODE n) (s.get (R.CDAC_PU_CODE n))) s
  let s := ns.foldl (fun s n =>
    if (ball s n).2 = 0 then setBall s n (s.get (R.CDAC_PU_MODE n)) 0 else s) s
  followAll (s.set R.CDAC_STAT_SAFE (causes s))

/-- What a write of the CDAC page refuses (R357, R358, R362, R367, R369). -/
def check (s : State) (off d : Nat) : Option Nat :=
  let n := (off - 0x20) / 16
  if 0x20 ≤ off ∧ off < 0xA0 ∧ off % 16 < 8 then
    if off % 16 = 4 ∧ (5 < bits d 31 29 ∨ bits d 13 0 = 0 ∨ 10000 < bits d 13 0) then some 6
    else if owned s n ∨ (off % 16 = 0 ∧ streamed s n) then some 7 else none
  else if 0xA0 ≤ off ∧ off < 0xE0 then (if owned s ((off - 0xA0) / 4 % 8) then some 7 else none)
  else if off = 0xE8 ∨ off = 0xEC then (if s.on R.CDAC_PTCTL_ARMED then some 7 else none)
  else if off = 0xF0 then
    if bits d 5 0 = 0 ∨ 32 < bits d 5 0 then some 6
    else if s.ctxNums.any (fun c => s.cType c == 9 && !s.idle c) then some 7 else none
  else none

/-- What a write of the CDAC page does beside storing its fields. -/
def wrote (s : State) (off d : Nat) : State :=
  if off = 0x04 then
    let s := if bit d 3 then upd s (fun c => { c with wdg := false }) else s
    let s := if bit d 1 then s.set R.CDAC_PTCTL_ARMED 0 else s
    followAll (safeFollow s)
  else if 0x20 ≤ off ∧ off < 0xA0 ∧ off % 16 = 0 then
    let n := (off - 0x20) / 16
    if s.get (R.CDAC_CFG_LDSRC n) = 0 then loadCh s n else s
  else if 0xC0 ≤ off ∧ off < 0xE0 then follow s ((off - 0xC0) / 4)
  else if off = 0xE0 then loadAll s 1 (bit d)
  else if off = 0xE4 then
    let s := if bit d 1 then s.set R.CDAC_PTCTL_ARMED 0 else s
    if bit d 0 then ptJudge (s.set R.CDAC_PTCTL_ARMED 1) else s
  else s

end Sys2Proof.Machine.Cdac

namespace Sys2Proof.Machine.Gpio
open Sys2Proof Sys2Proof.Machine

/-- How a pin drives its ball: `none` while it does not drive. DESIGN CHOICE, notes/assumptions/77.md. -/
def driven (s : State) (n : Nat) : Option Bool :=
  if !s.on R.GPIO_CTRL_EN then none
  else
    let o := bit (s.get R.GPIO_OUT_OUT) n
    match s.get (R.GPIO_CFG_MODE n) with
    | 1 => if s.on (R.GPIO_CFG_FUNC n) then some (decide (s.blk.pos = 0) && decide (3 ≤ s.mode)) else some o
    | 2 => if o then none else some false
    | _ => none

/-- The pull of a pin: 0 none, 1 up, 2 down. -/
def pull (s : State) (n : Nat) : Nat := if s.on R.GPIO_CTRL_EN then s.get (R.GPIO_CFG_PULL n) else 2

/-- A pin shows a new input level (R432); in STANDBY and LISTEN nothing is flagged (R433). -/
def edge (s : State) (n : Nat) (high : Bool) : State :=
  let was := bit (s.get R.GPIO_STAT_IN) n
  let s := s.setBit R.GPIO_STAT_IN n high
  let k := s.get (R.GPIO_CFG_IRQ n)
  let sel := (high && !was && bit k 0) || (!high && was && bit k 1)
  if sel ∧ !s.lowPower then s.setBit R.GPIO_IFLG_EDGE n true else s

/-- What a write of the GPIO page refuses (R432, R434). -/
def check (off d : Nat) : Option Nat :=
  if 0x20 ≤ off ∧ off < 0x40 then
    if bits d 9 8 = 3 ∨ bits d 5 4 = 3 ∨ (bit d 0 ∧ bits d 5 4 ≠ 1) then some 6 else none
  else none

/-- A pin that is an output shows in STAT.IN the level it drives (R432); with DEBEN the level follows, and one that
drives BLKTICK changes, with the rows that name their edges. DESIGN CHOICE, notes/assumptions/77.md. -/
def showOwn (s : State) (n : Nat) : State :=
  match driven s n with
  | some v => if s.on (R.GPIO_CFG_DEBEN n) ∨ s.on (R.GPIO_CFG_FUNC n) then s else edge s n v
  | none => s

/-- SET and CLR, and what the pins show after a write of the page (R432, R434). -/
def wrote (s : State) (off d : Nat) : State :=
  let o := s.get R.GPIO_OUT_OUT
  let s := if off = 0x44 then s.set R.GPIO_OUT_OUT (o ||| (d % 256))
    else if off = 0x48 then s.set R.GPIO_OUT_OUT (o &&& (255 - d % 256))
    else s
  (List.range 8).foldl showOwn s

end Sys2Proof.Machine.Gpio
end

