-- ==== Sys2Proof/Machine/PageOps.lean ====
section
/-! DEFINITION. What writes of the serial ports, the streams, the converters, the groups and the matrix
refuse, and what they do (R88 to R91, R94, R99 to R103, R115, R116, R122 to R126, R135 to R141, R156). -/
namespace Sys2Proof.Machine
open Sys2Proof

/-- The lowest of the reasons that apply. -/
def least (rs : List (Bool × Nat)) : Option Nat :=
  ((rs.filter (fun r => r.1)).map (fun r => r.2)).foldl (fun m r => match m with
    | none => some r
    | some q => some (min q r)) none

namespace Sap

/-- A context bound to port `p` is not IDLE. -/
def busy (s : State) (p : Nat) : Bool := s.ctxsWhere (fun c => Strm.onPort s p c && !s.idle c) != []

/-- What a write of a SAP page refuses (R88, R90, R91, R94, R115). DEDUCED, notes/assumptions/30.md. -/
def check (s : State) (p off d : Nat) : Option Nat :=
  let en := s.on (R.SAP_CTRL_EN p)
  if off = 0x04 then
    let rate := if bit d 2 then Strm.dividerRate s p else s.get (R.SAP_FRATE_RATE p)
    let sets := bit d 0 && !en
    least [(en && bit d 2 != s.on (R.SAP_CTRL_MASTER p), 7), (en && !bit d 0 && busy s p, 7),
      (sets && Strm.badFormat s p rate, 6),
      (sets && s.get (R.SAP_CLKDIV_SRC p) != Strm.ownApll s && !s.on R.PLL_CTRL_EN, 7)]
  else if off = 0x20 then least [(en && d != s.rawWord .sap p 0x20, 7)]
  else if off = 0x24 then least [(decide (bits d 9 0 < 4), 6), (en && d != s.rawWord .sap p 0x24, 7)]
  else if off = 0x28 then least [(en && d != s.rawWord .sap p 0x28, 7)]
  else if off = 0x2C then least [(s.on (R.SAP_CTRL_MASTER p), 2)]
  else if off = 0x30 then least [(bits d 15 8 == 0 || bits d 7 0 == 0, 6)]
  else if off = 0x40 then
    let n := b2n (s.on (R.SAP_MCLKCFG_EN p))
    least [(decide (bits d 7 0 < 2), 6),
      (n == 1 && (bits d 30 30 != s.get (R.SAP_MCLKCFG_SRC p) || bits d 7 0 != s.get (R.SAP_MCLKCFG_N p)), 7)]
  else none

/-- A write of a SAP page beside storing its fields: a master's FRATE follows the divider, and a new
nominal rate fails the port's reference (R62, R106); a disabled port has no clocks. -/
def wrote (s old : State) (p off : Nat) : State :=
  if off = 0x04 ∨ off = 0x20 ∨ off = 0x24 ∨ off = 0x28 ∨ off = 0x2C then
    let s := Strm.trackRate s p
    let s := if s.get (R.SAP_FRATE_RATE p) ≠ old.get (R.SAP_FRATE_RATE p) ∨
        s.on (R.SAP_CTRL_MASTER p) ≠ old.on (R.SAP_CTRL_MASTER p) then Clkm.nomChange s (3 + p) else s
    if s.on (R.SAP_CTRL_EN p) then s
    else
      ((((s.set (R.SAP_STAT_CLKRUN p) 0).set (R.SAP_STAT_LEADTRAIL p) 0).set (R.SAP_STAT_FRAMELOCK p) 0).set
        (R.SAP_STAT_BCLKACT p) 0).setSap p SapSt.zero
  else s

end Sap

namespace Pll

/-- A set of ports and clock outputs that need the APLL of the other family (R90). -/
def needed (s : State) : Bool :=
  (List.range 6).any (fun p => s.on (R.SAP_CTRL_EN p) && s.get (R.SAP_CLKDIV_SRC p) != Strm.ownApll s) ||
  (List.range 2).any (fun p => s.on (R.SAP_MCLKCFG_EN p) && s.get (R.SAP_MCLKCFG_SRC p) != Strm.ownApll s)

/-- What a write of the PLL page refuses (R90). -/
def check (s : State) (off d : Nat) : Option Nat :=
  if off = 0x04 then least [(!bit d 0 && s.on R.PLL_CTRL_EN && needed s, 7)] else none

end Pll

namespace Strm

/-- Every context that is not `Ctx.zero` or has a request pending. -/
def known (s : State) : List Nat := (s.ctxNums ++ s.strm.reqs.map (fun e => e.1)).eraseDups

/-- The other contexts that will not be IDLE once the requests accepted so far are applied. -/
def others (s : State) (c : Nat) : List Nat := (known s).filter (fun d => d != c && predicted s d != .idle)

/-- The slots of a serial port, or the like range of an endpoint, that FIRST + NCH may not exceed (R100,
R101); 2,048 where the endpoint has none. -/
def rangeOf (s : State) (c : Nat) : Nat :=
  match s.cType c with
  | 1 => slots s (s.cInst c)
  | 3 => 512
  | 4 => 32
  | 5 => 4
  | 6 => 2
  | 7 => 2
  | 8 => 4
  | 11 => 96
  | 12 => if s.highRate then 64 else 128
  | 13 => Mic.peatCh s
  | _ => 2048

/-- How many of that range a context takes. -/
def span (s : State) (c : Nat) : Nat :=
  match s.cType c with
  | 3 => s.cNch c * Strm.slotPeriods s
  | 8 => if s.cSink c then s.cNch c else (s.cNch c + 1) / 2
  | _ => s.cNch c

/-- INST, FIRST and DIR lie within the table of R100. -/
def placed (s : State) (c : Nat) : Bool :=
  let i := s.cInst c
  let f := s.cFirst c
  let sink := s.cSink c
  match s.cType c with
  | 1 => decide (i < 6)
  | 2 => (i == 1 && !sink) || (i == 2 && sink)
  | 3 => i == 0 && (!s.highRate || f % 2 == 0)
  | 4 => decide (i < 4) && decide (f < 32) && !sink
  | 5 => i == 0 && decide (f < 4) && !sink
  | 6 => i == 0 && f == 0 && sink
  | 7 => i == 0 && decide (f < 2) && sink
  | 8 => i == 0 && decide (f < 4)
  | 9 => i == 0 && decide (f < 8) && sink
  | 10 => decide (i < 4) && decide (f < 32)
  | 11 => i == 0 && sink
  | 12 => i == 0 && !sink
  | 13 => i == 0 && decide (f < 4) && !sink
  | _ => false

/-- RECON is allowed for the endpoint (R122). -/
def reconOk (s : State) (c : Nat) : Bool :=
  match s.cRecon c, s.cType c with
  | 0, _ => true
  | 1, 1 => !s.on (R.SAP_CTRL_MASTER (s.cInst c))
  | 1, 2 => true
  | 1, _ => false
  | 2, t => t == 1 || t == 2 || t == 3 || t == 4 || t == 13
  | _, _ => false

/-- The byte range of a context's buffer in Thallus. -/
def bufRange (s : State) (c : Nat) : Nat × Nat :=
  let lo := 64 * s.get (R.CTX_BUF_BUFBASE c)
  (lo, lo + 4 * s.cNch c * s.cBufLen c)

/-- Two ranges share a number. -/
def meets (a b : Nat × Nat) : Bool := decide (a.1 < b.2) && decide (b.1 < a.2)

/-- A clock rate in Hz (R196). -/
def pdmHz (r : Nat) : Nat := [768000, 1536000, 2400000, 3072000, 4800000, 6144000].getD r 0

/-- A microphone of a TYPE 4 context meets R199. -/
def micBad (s : State) (c m : Nat) : Bool :=
  let clk := pdmHz (s.get (R.PDM_CLKCFG_RATE (m / 8)))
  let g := endpointRate s c / 16
  let sync := s.cRecon c == 0
  let r := s.get (R.PDM_CLKCFG_RATE (m / 8))
  !s.on (R.PDM_MICCFG_EN m) || s.get (R.PDM_MICCFG_GRP m) != s.cInst c ||
    g == 0 || clk % g != 0 || decide (clk / g < 32) || decide (768 < clk / g) ||
    (sync && (r == 2 || r == 4 || !s.on R.PDM_STAT_REFSRC))

/-- What the endpoint's own chapter adds for the ARM (R199, R227, R234, R254, R260, R362, R367). -/
def typeArm (s : State) (c : Nat) : List (Bool × Nat) :=
  let n := s.cNch c
  let f := s.cFirst c
  match s.cType c with
  | 4 => [((List.range n).any (fun i => micBad s c (f + i)), 6), (!s.on R.PDM_CTRL_EN, 7)]
  | 5 => [((List.range n).any (fun i => !s.on (R.AIN_INCFG_EN (f + i))), 6), (!s.on R.AIN_CTRL_EN, 7)]
  | 8 =>
    if s.cSink c then
      [(decide (f ≤ 1) && decide (1 < f + n) && s.on R.AMPG_CFG_PAIRAB, 6),
       (decide (f ≤ 3) && decide (3 < f + n) && s.on R.AMPG_CFG_PAIRCD, 6)]
    else [(n % 2 == 1, 6), (s.highRate, 6)]
  | 9 => match Cdac.checkArm s c with
    | some r => [(true, r)]
    | none => []
  | _ => []

/-- The converter channels in use once the requests accepted so far are applied (R126). -/
def convUsed (s : State) (c : Nat) : Nat :=
  ((others s c).filter (fun d => s.cRecon d == 2)).foldl (fun a d => a + s.cNch d) 0

end Strm

namespace Mtx

/-- A binding of MTX.MAP or of a tap, active or staged: where it is kept, 0 for MI, 1 for MO or 2 for a
tap, the MI or MO, and the context and channel it names. -/
structure Bind where
  addr : Nat
  win : Nat
  kind : Nat
  idx : Nat
  ctx : Nat
  ch : Nat
deriving DecidableEq, Repr

/-- The address of MTX.MAP. -/
def mapAddr : Nat := 0x1438

/-- The binding a word of MAP or of a tap makes, if it is enabled. -/
def bindOf (addr win d : Nat) : Option Bind :=
  if !bit d 31 then none
  else if addr = mapAddr then some ⟨addr, win, (win - 1) / 128, (win - 1) % 128, bits d 15 8, bits d 4 0⟩
  else if 0x1450 ≤ addr ∧ addr < 0x1490 then some ⟨addr, win, 2, bits d 30 24, bits d 15 8, bits d 4 0⟩
  else none

/-- The bindings in force. -/
def activeBinds (s : State) : List Bind :=
  ((List.range 96).filter (mapEn s 0)).map (fun i => ⟨mapAddr, mapWin 0 i, 0, i, mapCtx s 0 i, mapCh s 0 i⟩) ++
  ((List.range 128).filter (mapEn s 1)).map (fun i => ⟨mapAddr, mapWin 1 i, 1, i, mapCtx s 1 i, mapCh s 1 i⟩) ++
  ((List.range 16).filter (fun k => (tap s k).1)).map (fun k =>
    ⟨0x1450 + 4 * k, 0, 2, (tap s k).2.1, (tap s k).2.2.1, (tap s k).2.2.2⟩)

/-- The bindings in force, staged or committed. -/
def binds (s : State) : List Bind :=
  activeBinds s ++ s.acc.staged.filterMap (fun g => bindOf g.addr g.win g.val) ++
    s.acc.taken.filterMap (fun g => bindOf g.addr g.win g.val)

/-- A binding fits its context's DIR and NCH, and for a tap its TYPE. -/
def fits (s : State) (b : Bind) : Bool :=
  (s.cSink b.ctx == (b.kind != 0)) && decide (b.ch < s.cNch b.ctx) && (b.kind != 2 || s.cType b.ctx == 10)

/-- What the write of a binding refuses (R141, R155). -/
def bindCheck (s : State) (addr win d : Nat) : Option Nat :=
  match bindOf addr win d with
  | none => none
  | some b => least [
      (!fits s b, 6),
      (b.kind != 0 && (binds s).any (fun o => o.kind != 0 && (o.addr != addr || o.win != win) && o.ctx == b.ctx &&
        o.ch == b.ch), 6),
      (b.kind != 0 && s.highRate && decide (64 ≤ b.idx), 6),
      (b.kind == 0 && coveredBy s 11 b.idx != [], 7), (b.kind == 1 && coveredBy s 12 b.idx != [], 7)]

/-- What the bindings refuse for the ARM of context `c` (R141). DEDUCED, notes/assumptions/20.md. -/
def armCheck (s : State) (c : Nat) : List (Bool × Nat) :=
  let t := s.cType c
  [((binds s).any (fun b => b.ctx == c && !fits s b), 6),
   ((t == 11 || t == 12) && (binds s).any (fun b => b.kind + 11 == t && decide (s.cFirst c ≤ b.idx) &&
      decide (b.idx < s.cFirst c + s.cNch c)), 7)]

/-- What a write of the MTX page refuses (R141, R156). -/
def check (s : State) (win off d : Nat) : Option Nat :=
  if off = 0x20 then least [(bits d 26 16 == 0 || decide (1024 < bits d 26 16) || bits d 7 0 == 0, 6)]
  else if off = 0x34 then least [(!bit d 8 && decide (95 < bits d 6 0), 6)]
  else if off = 0x38 ∨ (0x50 ≤ off ∧ off < 0x90) then bindCheck s (0x1400 + off) win d
  else none

end Mtx

namespace Strm

/-- Why an ARM of context `c` is rejected, the lowest reason of all that apply (R101, R122, R123, R126,
R141). -/
def armCheck (s : State) (c : Nat) : Option Nat :=
  let t := s.cType c
  let i := s.cInst c
  let os := others s c
  let sync := s.cRecon c == 0
  least ([
    (!placed s c, 6), (decide (rangeOf s c < s.cFirst c + span s c), 6),
    (decide (s.cBufLen c < 2 * s.blkLen), 6), (decide (thallusSize < (bufRange s c).2), 6),
    (os.any (fun d => meets (bufRange s c) (bufRange s d)), 6),
    (sync && endpointRate s c != 16 * s.sysRate, 6),
    (sync && t == 1 && s.on (R.SAP_CTRL_MASTER i) &&
      (s.get (R.SAP_DIVF_F i) != 0 || s.get (R.SAP_CLKDIV_SRC i) != ownApll s), 6),
    (!reconOk s c, 6),
    (s.cRecon c == 2 && !ratioInRange (ratioOf s (endpointRate s c)), 6),
    (t == 1 && os.any (fun d => onPort s i d && s.cSink d == s.cSink c &&
      meets (s.cFirst c, s.cFirst c + s.cNch c) (s.cFirst d, s.cFirst d + s.cNch d)), 7),
    (s.cRecon c == 1 && os.any (fun d => s.cRecon d == 1), 7),
    (s.cRecon c == 2 && decide (64 < convUsed s c + s.cNch c), 7)] ++ typeArm s c ++ Mtx.armCheck s c)

/-- A STRM.CMD ACTION as a request. -/
def reqOf : Nat → Option Req
  | 1 => some .arm
  | 2 => some .start
  | 3 => some .stop
  | 4 => some .drain
  | 5 => some .release
  | _ => none

/-- What a write of the STRM page refuses (R102, R116, R224). -/
def check (s : State) (off d : Nat) : Option Nat :=
  if off = 0x20 then
    let c := bits d 7 0
    match reqOf (bits d 10 8) with
    | none => some 6
    | some q =>
      let st := predicted s c
      if q = .arm ∧ allowed st q ∧ s.on R.STRM_CTRL_EN then armCheck s c
      else least [(!allowed st q, 7), ((q == .arm || q == .start) && !s.on R.STRM_CTRL_EN, 7),
        (q == .start && !Mic.cuTarget s c, 7)]
  else none

/-- A write of the STRM page beside storing its fields (R102). -/
def wrote (s : State) (off d : Nat) : State :=
  if off = 0x20 then
    match reqOf (bits d 10 8) with
    | some q => { s with strm := { s.strm with reqs := s.strm.reqs ++ [(bits d 7 0, q)] } }
    | none => s
  else if off = 0x04 ∧ bit d 1 then { s with strm := { s.strm with srst := true } }
  else s

/-- What a write of context word `off` refuses (R73, R99). -/
def checkCtx (s : State) (c off d : Nat) : Option Nat :=
  let lock : Bool × Nat := (!s.idle c, 7)
  if off = 0 then least [lock, (decide (14 ≤ bits d 31 28), 6)]
  else if off = 4 then
    let dom := bits d 15 12
    let g := bits d 6 0
    let rec' := bits d 11 10
    let st := Clkm.state s
    let noRecon := (st == Clkm.ACQUIRE || st == Clkm.RECOVERY || st == Clkm.TEST) && (rec' == 1 || rec' == 2)
    least [lock, (noRecon, 7), (bits d 29 24 == 0 || decide (32 < bits d 29 24) || (decide (12 ≤ dom) && decide (dom ≤ 14)) ||
      rec' == 3 || (decide (64 ≤ g) && decide (g ≤ 126)), 6)]
  else if off = 8 ∨ off = 0xC then least [lock]
  else none

end Strm

namespace Asrc

/-- What a write of the ASRC page refuses (R137). -/
def check (off d : Nat) : Option Nat :=
  if off = 0x38 then least [(bits d 11 0 == 0 || decide (2500 < bits d 11 0), 6)] else none

end Asrc

namespace Grp

/-- The group has a member that is RUNNING, STALLED or DRAINING. -/
def started (s : State) (g : Nat) : Bool := Strm.grpStarted s g

/-- What a write of the GRP page refuses (R135); `win` names the group for a window register. -/
def check (s : State) (win off d : Nat) : Option Nat :=
  if off = 0x20 ∨ off = 0x24 then
    let k := (off - 0x20) / 4
    least [((List.range 32).any (fun n => bit d n != bit (s.get (R.GRP_MODE_SLIP k)) n && started s (32 * k + n)), 7)]
  else if off = 0x40 ∨ off = 0x44 then
    least [(started s (win - 1) && d != s.get ((R.GRP_STARTAT_IDX ((off - 0x40) / 4)).win win), 7)]
  else none

/-- A write of one half of STARTAT opens or ends the pending state; SRST clears every STARTAT (R138). -/
def wrote (s : State) (win off d : Nat) : State :=
  if off = 0x40 ∨ off = 0x44 then
    let me := if off = 0x40 then 1 else 2
    let p := Map.get 0 s.grp.pend (win - 1) ||| me
    { s with grp := { s.grp with pend := Map.set 0 s.grp.pend (win - 1) (if p = 3 then 0 else p) } }
  else if off = 0x04 ∧ bit d 1 then
    let s := { s with grp := { s.grp with pend := [] } }
    (List.range 64).foldl (fun s g =>
      (s.set ((R.GRP_STARTAT_IDX 0).win (g + 1)) 0).set ((R.GRP_STARTAT_IDX 1).win (g + 1)) 0) s
  else s

end Grp

end Sys2Proof.Machine
end

