-- ==== Sys2Proof/Machine/BusOps.lean ====
section
/-! DEFINITION. The control bus front end and the auxiliary bus (R370 to R394), the flash and the factory
area (R408 to R417), and the SYS and PWR pages (R12, R31, R419, R420). -/
namespace Sys2Proof.Machine.Cbus
open Sys2Proof Sys2Proof.Machine

/-- Change the control-bus part of the state. -/
def upd (s : State) (f : CbusSt → CbusSt) : State := { s with cbus := f s.cbus }

/-- The strap value V (R372). -/
def strap (s : State) : Nat := 4 * s.get R.GPIO_STRAPS_ADDR1 + s.get R.GPIO_STRAPS_ADDR0

/-- The address of R372. -/
def own (s : State) : Nat :=
  if s.on R.CBUS_ADDRCFG_NVADDR then s.get R.CBUS_ADDRCFG_ADDR else 0x30 + s.get R.CBUS_STAT_STRAP

/-- The device acknowledges its address on CTL: it is powered and booted, no probe runs, and it has an
address (R373, R407). -/
def hears (s : State) : Bool :=
  !s.pwr.booting && s.mode != 0 && !s.on R.CBUS_STAT_PROBING && !s.on R.CBUS_STAT_NOADDR

/-- A probe of the address in use begins; the results of the probe before are gone (R373). -/
def probeStart (s : State) : State :=
  let s := ((s.set R.CBUS_STAT_PROBING 1).set R.CBUS_STAT_ADDRCONF 0).set R.CBUS_STAT_ALTACT 0
  upd (s.set R.CBUS_STAT_NOADDR 0)
    (fun c => { c with reprobe := false, addr := own s, onAlt := false, conflict := false })

/-- A byte carrying the probed address ends in an acknowledge clock; `low`: another target holds SDA low
(R373). -/
def seen (s : State) (low : Bool) : State :=
  if s.on R.CBUS_STAT_PROBING ∧ low then
    let s := ((s.set R.CBUS_STAT_ADDRCONF 1).set R.CBUS_IFLG_ADDRCONF 1).bump R.CBUS_ERRCNT_BLKERR
    upd s (fun c => { c with conflict := true })
  else s

/-- tPROBE has passed (R373). -/
def probeEnd (s : State) : State :=
  if !s.on R.CBUS_STAT_PROBING then s
  else if !s.cbus.conflict then
    ((s.set R.CBUS_STAT_PROBING 0).set R.CBUS_STAT_ACTIVE s.cbus.addr).setB R.CBUS_STAT_ALTACT s.cbus.onAlt
  else if s.on R.CBUS_ADDRCFG_ALTEN ∧ !s.cbus.onAlt then
    upd s (fun c => { c with addr := s.get R.CBUS_ADDRCFG_ALT, onAlt := true, conflict := false })
  else (s.set R.CBUS_STAT_PROBING 0).set R.CBUS_STAT_NOADDR 1

/-- The probe that an ADDRCFG write asked for starts at the first STOP (R373). -/
def reprobe (s : State) : State := if s.cbus.reprobe ∧ s.mode ≠ 0 then probeStart s else s

/-- The RESULT codes of R380. -/
def APPLIED : Nat := 1
def REJECTED : Nat := 2
def LATE : Nat := 3
def DISCARDED : Nat := 4
def BADPEC : Nat := 5
def UNSERVED : Nat := 6

/-- READ_STATUS and PING leave LASTRES as it is (R380). DEDUCED, notes/assumptions/53.md. -/
def silent (cmd : Nat) : Bool := cmd % 128 == 0x06 || cmd % 128 == 0x0A

/-- The outcome of a CTL command: LASTRES, and PKTCNT for a write command (R380, R393). -/
def note (s : State) (cmd : Nat) (write : Bool) (res reason : Nat) : State :=
  if silent cmd then s
  else
    let s := ((s.set R.CBUS_LASTRES_CMD cmd).set R.CBUS_LASTRES_RESULT res).set R.CBUS_LASTRES_REASON reason
    if !write ∨ res = UNSERVED then s
    else if res = APPLIED then s.bumpWrap R.CBUS_PKTCNT_APPLIED
    else s.bumpWrap R.CBUS_PKTCNT_NOTAPPL

/-- A START, repeated START, STOP or timeout discards an unfinished command (R383).
DESIGN CHOICE, notes/assumptions/84.md. -/
def cut (s : State) (c : Option CtlCut) : State :=
  match c with
  | none => s
  | some c =>
    if hears s then
      note ((s.bump R.CBUS_EVCNT_ABORTS).set R.CBUS_IFLG_ABORT 1) c.cmd.toNat c.write DISCARDED 0
    else s

/-- A START, repeated START or STOP on CTL (R383, R384, R393). -/
def edge (s : State) (e : CtlEdge) (c : Option CtlCut) : State :=
  if s.mode = 0 then s else (cut s c).setB R.CBUS_STAT_BUSBUSY (e != .stop)

/-- CTL_SCL has stayed low for tTOUT (R386). -/
def timeout (s : State) (c : Option CtlCut) : State :=
  if s.mode ≠ 0 ∧ s.on R.CBUS_CFG_TOEN then
    cut ((s.bump R.CBUS_EVCNT_TIMEOUTS).set R.CBUS_IFLG_TIMEOUT 1) c
  else s

/-- A read of 0x0C: the byte the device answers with, or none (R387). -/
def alert (s : State) : State :=
  let a := if s.on R.CBUS_CFG_ARAEN && s.irq && hears s then some (2 * s.get R.CBUS_STAT_ACTIVE) else none
  upd s (fun c => { c with alert := a })

/-- An address that no device may take (R393). -/
def badAddr (a : Nat) : Bool := decide (a < 8) || a == 0x0C || decide (0x78 ≤ a)

/-- What a write of the CBUS page refuses (R393). -/
def check (off d : Nat) : Option Nat :=
  if off = 0x20 ∧ ((bit d 31 ∧ badAddr (bits d 6 0)) ∨ (bit d 30 ∧ badAddr (bits d 22 16))) then some 6
  else none

/-- A write to ADDRCFG asks for a probe (R373). -/
def wrote (s : State) (off : Nat) : State :=
  if off = 0x20 then upd s (fun c => { c with reprobe := true }) else s

end Sys2Proof.Machine.Cbus

namespace Sys2Proof.Machine.Aux
open Sys2Proof Sys2Proof.Machine

/-- Change the auxiliary-bus part of the state. -/
def upd (s : State) (f : AuxSt → AuxSt) : State := { s with aux := f s.aux }

/-- The bytes of each FIFO (R394). -/
def cap : Nat := 256

/-- The bytes the device sends in the transfer that the page describes, from the address on: the PEC follows in a write
(R382, R388). -/
def line (s : State) : List Byte :=
  let w := s.get R.AUXB_XFER_WLEN
  let r := s.get R.AUXB_XFER_RLEN
  let addr (d : Nat) : Byte := BitVec.ofNat 8 (2 * s.get R.AUXB_XFER_TADDR + d)
  let out := (if w = 0 ∧ r ≠ 0 then [] else addr 0 :: s.aux.tx.take w) ++ if r = 0 then [] else [addr 1]
  if s.on R.AUXB_CFG_PEC ∧ r = 0 ∧ w ≠ 0 then out ++ [BitVec.ofNat 8 (pec out)] else out

/-- The code of a transfer that ran to its end: in a read with CFG.PEC the byte after the last is the PEC of all that
was on the bus (R382, R388). -/
def endCode (s : State) (rx : List Byte) : Nat :=
  let r := s.get R.AUXB_XFER_RLEN
  if s.on R.AUXB_CFG_PEC ∧ r ≠ 0 ∧ rx[r]? ≠ some (BitVec.ofNat 8 (pec (s.aux.sent ++ rx.take r))) then 7 else 1

/-- The flags and counts of a result code (R389 to R391, R394). -/
def flags (s : State) (code : Nat) : State :=
  if code = 1 then s.set R.AUXB_STAT_AUXSTUCK 0
  else if code = 2 then s.set R.AUXB_IFLG_NACK 1
  else if code = 3 then (s.set R.AUXB_IFLG_ARBFAIL 1).bump R.AUXB_ERRCNT_BLKERR
  else if code = 4 then
    ((s.set R.AUXB_IFLG_STUCK 1).set R.AUXB_STAT_AUXSTUCK 1).bump R.AUXB_ERRCNT_BLKERR
  else if code = 5 then (s.set R.AUXB_IFLG_TIMEOUT 1).bump R.AUXB_ERRCNT_BLKERR
  else if code = 7 then s.set R.AUXB_IFLG_PECERR 1
  else s

/-- A transfer ends with a result code (R388 to R391): the transmit FIFO is emptied, the bytes received
join the receive FIFO. DEDUCED, notes/assumptions/54.md. -/
def finish (s : State) (code nackPos : Nat) (rx : List Byte) : State :=
  let s := flags ((s.set R.AUXB_STAT_BUSY 0).set R.AUXB_RESULT_CODE code) code
  let s := if code = 2 then s.set R.AUXB_RESULT_NACKPOS nackPos else s
  let s := (s.set R.AUXB_IFLG_DONE 1).bump R.AUXB_EVCNT_XFERS
  let got := rx.take (s.get R.AUXB_XFER_RLEN)
  upd s (fun a => { a with tx := [], rx := (a.rx ++ got).take cap, waiting := false, aborting := false })

/-- A pulse run at the start of a try is counted (R390). -/
def pulseRun (s : State) (pulses : Bool) : State := if pulses then s.bump R.AUXB_EVCNT_RECOVER else s

/-- A transfer ends by itself: done, NACK, stuck, aborted or a PEC mismatch (R388, R390, R391).  Whether the PEC of a
read matches follows from the bytes received (`endCode`). -/
def transferEnd (s : State) (code nackPos : Nat) (pulses : Bool) (rx : List Byte) : State :=
  if !s.on R.AUXB_STAT_BUSY then s
  else if code = 6 then (if s.aux.aborting then finish (pulseRun s pulses) 6 0 rx else s)
  else if s.aux.waiting then s
  else if code = 2 then finish (pulseRun s pulses) 2 nackPos rx
  else if code = 1 ∨ (code = 7 ∧ s.on R.AUXB_CFG_PEC) then finish (pulseRun s pulses) (endCode s rx) nackPos rx
  else if code = 4 then finish (pulseRun s true) 4 0 []
  else s

/-- Arbitration is lost (R389): try again later, or after 8 tries give up. -/
def arbLost (s : State) (pulses : Bool) : State :=
  if s.on R.AUXB_STAT_BUSY ∧ !s.aux.waiting then
    let s := ((pulseRun s pulses).bump R.AUXB_EVCNT_ARBLOST).set R.AUXB_STAT_BUSBUSY 1
    if 8 ≤ s.get R.AUXB_STAT_TRIES then finish s 3 0 [] else upd s (fun a => { a with waiting := true })
  else s

/-- The bus-free time and the backoff have passed: the next try starts from the first byte (R389). -/
def backoffEnd (s : State) : State :=
  if s.on R.AUXB_STAT_BUSY ∧ s.aux.waiting then
    upd ((s.bump R.AUXB_STAT_TRIES).set R.AUXB_STAT_BUSBUSY 0) (fun a => { a with waiting := false })
  else s

/-- A target has held AUX_SCL low for tTOUT (R391). -/
def timeout (s : State) (pulses : Bool) (rx : List Byte) : State :=
  if s.on R.AUXB_STAT_BUSY ∧ !s.aux.waiting ∧ s.on R.AUXB_CFG_TOEN then finish (pulseRun s pulses) 5 0 rx
  else s

/-- A transfer in progress ends with RESULT 6 (R394), and the bus is released. -/
def endNow (s : State) : State := if s.on R.AUXB_STAT_BUSY then finish s 6 0 [] else s

/-- The power domain of AUX is switched off: a transfer ends with RESULT 6, and the FIFOs are empty (R394). -/
def sleep (s : State) : State := upd (endNow s) (fun a => { a with tx := [], rx := [] })

/-- Bytes join the transmit FIFO. -/
def push (s : State) (bs : List Byte) : State := upd s (fun a => { a with tx := a.tx ++ bs })

/-- The next four bytes of the receive FIFO as a word; bytes past the received count read 0 (R394). -/
def pop (s : State) : Nat × State := (leNat (s.aux.rx.take 4), upd s (fun a => { a with rx := a.rx.drop 4 }))

/-- What a write of the AUXB page refuses (R388, R394); `n` words in all go to the transmit FIFO. -/
def check (s : State) (off d : Nat) : Option Nat :=
  if off = 0x04 then
    if bit d 2 ∧ (s.on R.AUXB_STAT_BUSY ∨ s.aux.tx.length < s.get R.AUXB_XFER_WLEN) then some 7 else none
  else if off = 0x20 then
    least [(bits d 17 16 == 3, 6), (s.on R.AUXB_STAT_BUSY, 7)]
  else if off = 0x24 then (if s.on R.AUXB_STAT_BUSY then some 7 else none)
  else if off = 0x28 then (if cap < s.aux.tx.length + 4 then some 6 else none)
  else none

/-- What a write of the AUXB page does beside storing its fields (R388, R391, R394): GO and ABORT; a
transfer ends when EN is cleared; SRST empties the FIFOs. -/
def wrote (s : State) (off d : Nat) : State :=
  if off = 0x28 then push s (wordBytes d)
  else if off ≠ 0x04 then s
  else
    let s := if bit d 1 then upd s (fun a => { a with tx := [], rx := [] }) else s
    if !s.on R.AUXB_CTRL_EN then endNow s
    else
      let s := if bit d 2 ∧ !s.on R.AUXB_STAT_BUSY then
          upd (((s.set R.AUXB_STAT_BUSY 1).set R.AUXB_STAT_TRIES 1).set R.AUXB_STAT_BUSBUSY 0)
            (fun a => { a with waiting := false, aborting := false, sent := line s })
        else s
      if bit d 3 ∧ s.on R.AUXB_STAT_BUSY then upd s (fun a => { a with aborting := true }) else s

end Sys2Proof.Machine.Aux

namespace Sys2Proof.Machine.Nvm
open Sys2Proof Sys2Proof.Machine

/-- Change the flash part of the state. -/
def upd (s : State) (f : NvmSt → NvmSt) : State := { s with nvm := f s.nvm }

/-- A bank holds 512 KiB (R25). -/
def bankSize : Nat := 0x80000
/-- The first address of bank `b` (R25). -/
def bankBase (b : Nat) : Nat := 0xA00000 + bankSize * b
/-- The factory one-time area (R408). -/
def factory : Nat := 0xB00000

/-- The target bank (R415): not the one selected at the last boot, or B where the ROM defaults stand. -/
def target (s : State) : Nat := if s.on R.SYS_STAT_ROMDEF then 1 else 1 - s.get R.SYS_STAT_BOOTBANK

/-- The VALID flag of a bank, and its SEQ register. -/
def validFld (b : Nat) : Fld := if b = 0 then R.NVM_STAT_VALIDA else R.NVM_STAT_VALIDB

/-- A section of an image: type, offset, size. -/
structure Sect where
  typ : Nat
  off : Nat
  size : Nat
deriving DecidableEq, Repr

/-- Entry `k` of the section table of bank `b` (R409). -/
def sect (s : State) (b k : Nat) : Sect :=
  let e := bankBase b + 0x40 + 16 * k
  ⟨s.word e % 65536, s.word (e + 4), s.word (e + 8)⟩

/-- NSECT of bank `b`. -/
def nsect (s : State) (b : Nat) : Nat := s.word (bankBase b + 0x10)

/-- The section table of bank `b`. -/
def sects (s : State) (b : Nat) : List Sect := (List.range (min 32 (nsect s b))).map (sect s b)

/-- How often a type may appear (R410). -/
def atMost (t : Nat) : Nat := if t = 0 ∨ 8 < t then 0 else if t = 4 then 4 else 1

/-- The CRC of R409: over bytes 0x00 to 0x3B, then bytes 0x40 to LENGTH − 1. -/
def imageCrc (s : State) (b : Nat) : Nat :=
  let len := s.word (bankBase b + 0x0C)
  crc32 (s.bytes (bankBase b) 0x3C ++ s.bytes (bankBase b + 0x40) (min bankSize len - 0x40))

/-- The header of bank `b` passes every check of R412 but those of the sections and the CRC. -/
def headerOk (s : State) (b : Nat) : Bool :=
  let a := bankBase b
  let v := s.word (a + 4)
  let len := s.word (a + 0x0C)
  let t := s.word (a + 0x18)
  s.word a == 0x4D495657 && bits v 15 8 == 1 && s.word (a + 8) != 0xFFFFFFFF &&
    len % 4 == 0 && decide (64 ≤ len) && decide (len ≤ bankSize) &&
    decide (1 ≤ nsect s b) && decide (nsect s b ≤ 32) &&
    bits t 31 16 == 0x8832 && decide (bits t 15 8 ≤ 1) && bits t 7 0 == 0

/-- The sections of bank `b` lie within LENGTH, aligned, and no type appears too often (R412).
DEDUCED, notes/assumptions/43.md. -/
def sectsOk (s : State) (b : Nat) : Bool :=
  let len := s.word (bankBase b + 0x0C)
  let ss := sects s b
  ss.all (fun e => e.off % 4 == 0 && decide (e.off + e.size ≤ len) &&
    decide ((ss.filter (fun q => q.typ == e.typ)).length ≤ atMost e.typ))

/-- Bank `b` holds a valid image (R412). -/
def valid (s : State) (b : Nat) : Bool :=
  headerOk s b && sectsOk s b && s.word (bankBase b + 0x3C) == imageCrc s b

/-- `a` is newer than `b` in serial order (R412). -/
def newer (a b : Nat) : Bool :=
  let d := (a + 2 ^ 32 - b) % 2 ^ 32
  decide (1 ≤ d) && decide (d ≤ 2 ^ 31 - 1)

/-- The bank that is selected (R412): the valid one, of two the newer, A on a tie. -/
def select (s : State) : Option Nat :=
  let va := valid s 0
  let vb := valid s 1
  if va && vb then some (if newer (s.word (bankBase 1 + 8)) (s.word (bankBase 0 + 8)) then 1 else 0)
  else if va then some 0 else if vb then some 1 else none

/-- VALID and SEQ of a bank (R412, R416). -/
def setValid (s : State) (b : Nat) (ok : Bool) : State :=
  (s.setB (validFld b) ok).set (R.NVM_SEQ_SEQ b) (if ok then s.word (bankBase b + 8) else 0xFFFFFFFF)

/-- Bytes that the flash may hold in any value: `n` of them at `a`. DEDUCED, notes/assumptions/44.md. -/
def scramble (s : State) (a n : Nat) : State :=
  let bs := (List.range n).map (fun i => (Config.freeValue (s.free + i)).setWidth 8)
  { s.setBytes a bs with free := s.free + n }

/-- Program the 16-byte line at PADDR of the target bank; PADDR advances by 16 (R415).  A line that is not
erased sets PROGERR and is skipped. -/
def programLine (s : State) (bs : List Byte) : State :=
  let a := bankBase (target s) + s.get R.NVM_PADDR_ADDR
  let s := if s.nvm.done.contains a ∨ (s.bytes a 16).any (fun b => b != 0xFF) then s.set R.NVM_IFLG_PROGERR 1
    else upd (s.setBytes a bs) (fun v => { v with done := a :: v.done })
  s.set R.NVM_PADDR_ADDR (s.get R.NVM_PADDR_ADDR + 16)

/-- The lines that the FIFO holds are programmed as soon as no operation is in progress (R415, R421). -/
def startLines (s : State) : State :=
  if 16 ≤ s.nvm.fifo.length ∧ !s.on R.NVM_STAT_BUSY then
    upd ((s.set R.NVM_STAT_BUSY 1).set R.NVM_STAT_OP 2) (fun v => { v with flushing := false })
  else s

/-- Nothing is in progress: the next lines follow, or a held mode request is taken (R397, R415). -/
def idle (s : State) : State :=
  Pwr.release (startLines ((s.set R.NVM_STAT_BUSY 0).set R.NVM_STAT_OP 0))

/-- Lines of the FIFO are being programmed (R415, R421). -/
def inLines (s : State) : Bool := s.on R.NVM_STAT_BUSY && s.get R.NVM_STAT_OP == 2 && !s.nvm.flushing

/-- A line of the FIFO has been programmed (R415). -/
def lineProgram (s : State) : State :=
  if inLines s ∧ 16 ≤ s.nvm.fifo.length then
    idle (upd (programLine s (s.nvm.fifo.take 16)) (fun v => { v with fifo := v.fifo.drop 16 }))
  else s

/-- Program what the FIFO holds, the last line padded with 0xFF (R416). -/
def flushAll (s : State) : Nat → State
  | 0 => s
  | n + 1 =>
    if s.nvm.fifo = [] then s
    else
      let l := s.nvm.fifo.take 16
      let s := programLine s (l ++ List.replicate (16 - l.length) 0xFF)
      flushAll (upd s (fun v => { v with fifo := v.fifo.drop 16 })) n

/-- The bank that COPY.BANK names (R421). -/
def copyBank (s : State) : Nat := if s.on R.NVM_COPY_BANK then target s else 1 - target s

/-- The section COPY names fits the section table and Thallus. -/
def copyOk (s : State) : Bool :=
  decide (s.get R.NVM_COPY_SECT < nsect s (copyBank s)) &&
    decide (s.get R.NVM_COPY_DST + (sect s (copyBank s) (s.get R.NVM_COPY_SECT)).size ≤ thallusSize)

/-- Copy a section body into Thallus at `dst`. -/
def copyTo (s : State) (b : Nat) (e : Sect) (skip dst : Nat) : State :=
  let bs := s.bytes (bankBase b + e.off + skip) (e.size - skip)
  let s := s.setBytes (thallus + dst) bs
  (List.range ((bs.length + 3) / 4)).foldl (fun s i => State.dedWritten s (thallus + dst + 4 * i)) s

/-- An operation ends: OPDONE, or OPFAIL counted (R416); a held mode request is taken (R397). -/
def ended (s : State) (ok : Bool) : State :=
  idle (if ok then s.set R.NVM_IFLG_OPDONE 1 else (s.set R.NVM_IFLG_OPFAIL 1).bump R.NVM_ERRCNT_BLKERR)

/-- The operation in progress ends; `ok`: the flash reported no error (R416).  After a failed erase the
bank, and after a failed program its line, may hold anything. -/
def done (s : State) (ok : Bool) : State :=
  if !s.on R.NVM_STAT_BUSY ∨ inLines s then s
  else
    let t := target s
    match s.get R.NVM_STAT_OP with
    | 1 =>
      let s := upd s (fun v => { v with done := v.done.filter (fun a => !(decide (bankBase t ≤ a) && decide (a < bankBase t + bankSize))) })
      ended (if ok then s.clearBytes (bankBase t) (bankBase t + bankSize) else scramble s (bankBase t) bankSize) ok
    | 2 =>
      if ok then ended (flushAll s 257) true
      else
        let s := scramble s (bankBase t + s.get R.NVM_PADDR_ADDR) 16
        ended (upd s (fun v => { v with fifo := [] })) false
    | 3 =>
      if ok then
        let good := valid s t
        ended (setValid (s.set R.NVM_CRC_CRC (imageCrc s t)) t good) good
      else ended s false
    | _ =>
      if ok && copyOk s then ended (copyTo s (copyBank s) (sect s (copyBank s) (s.get R.NVM_COPY_SECT)) 0 (s.get R.NVM_COPY_DST)) true
      else ended s false

/-- A reset or a loss of power falls into an operation: an erase leaves the header erased and the rest
open, a flush leaves its line open (R417). -/
def interrupted (s : State) : State :=
  if !s.on R.NVM_STAT_BUSY then s
  else
    let t := bankBase (target s)
    if s.get R.NVM_STAT_OP = 1 then scramble (s.clearBytes t (t + bankSize)) (t + 64) (bankSize - 64)
    else if s.get R.NVM_STAT_OP = 2 then scramble s (t + s.get R.NVM_PADDR_ADDR) 16
    else s

/-- What a write of the NVM page refuses (R415, R416, R421); `own`: the source is in ENG.OWNER. -/
def check (s : State) (own : Bool) (off d : Nat) : Option Nat :=
  let busy := s.on R.NVM_STAT_BUSY
  if off = 0x20 then
    let a := bits d 2 0
    least [(a == 4 && !own, 1), (a == 0 || decide (4 < a), 6), (!s.on R.NVM_CTRL_EN, 7), (busy, 7),
      (a == 4 && !s.on (validFld (copyBank s)), 7)]
  else if off = 0x24 then
    least [(bits d 3 0 != 0, 6), (busy, 7), (s.nvm.fifo != [], 7)]
  else if off = 0x28 then
    least [(!s.on R.NVM_CTRL_EN, 7), (decide (4096 < s.nvm.fifo.length + 4), 7)]
  else if off = 0x38 then (if bits d 5 0 ≠ 0 then some 6 else none)
  else none

/-- What a write of the NVM page does beside storing its fields (R415, R416, R421). -/
def wrote (s : State) (off d : Nat) : State :=
  if off = 0x04 then
    if bit d 1 ∧ !s.on R.NVM_STAT_BUSY then upd s (fun v => { v with fifo := [] }) else s
  else if off = 0x20 then
    let a := bits d 2 0
    let s := upd ((s.set R.NVM_STAT_BUSY 1).set R.NVM_STAT_OP a) (fun v => { v with flushing := a == 2 })
    if a = 1 then setValid s (target s) false else s
  else if off = 0x28 then startLines (upd s (fun v => { v with fifo := v.fifo ++ wordBytes d }))
  else s

/-- The factory area passes its CRC (R408). -/
def otpOk (s : State) : Bool := s.word (factory + 0xFFC) == crc32 (s.bytes factory 0xFFC)

/-- The temperature trims are those of the factory area, unless its CRC failed (R344, R408). -/
def loadTrims (s : State) : State :=
  if s.on R.SYS_STAT_OTPBAD then s
  else (List.range 2).foldl (fun s k =>
    let w := s.word (factory + 8 + 4 * k)
    (s.set (R.LICH_TTRIM_TOFF k) (w / 65536)).set (R.LICH_TTRIM_TGAIN k) w) s

end Sys2Proof.Machine.Nvm

namespace Sys2Proof.Machine.Sys
open Sys2Proof Sys2Proof.Machine

/-- What a write of the SYS page refuses (R12, R31, R419). -/
def check (s : State) (off d : Nat) : Option Nat :=
  if off = 0x04 then (if bit d 1 then some 6 else none)
  else if off = 0x20 then
    least [(decide (4 < bits d 6 4), 6), (s.ctxsWhere (fun c => !s.idle c) != [], 7)]
  else if off = 0x44 then (if Clkm.state s = Clkm.HOLDOVER then some 7 else none)
  else none

/-- The block clock starts: the sample index restarts at 0 (R13), what the device has noted by index is renumbered, an
armed presentation-time load is disarmed (R359), and the meter windows and the blocks of matrix input begin anew.
DEDUCED, notes/assumptions/12.md. -/
def indexRestart (s : State) : State :=
  let s := s.retime (-(s.sampIdx : Int))
  let s := { s with blk := ⟨0, 0⟩, mtx := { s.mtx with
    metStart := 0, met := [], metWin := s.get R.MTX_CFG_METWIN, work := [], gather := [] } }
  Cdac.ptRestart s

/-- The restart of the index while the matrix measures: index 0 is a boundary whose block number is a multiple of every
METWIN, so the window in progress ends there (R14, R154). DEDUCED, notes/assumptions/12.md. -/
def closeMeters (s old : State) : State :=
  let n := s.sampIdx - s.mtx.metStart
  if n = 0 then s else Mtx.report s (Mtx.outputs old) n 0

/-- SYSRATE or BLOCK_LEN has changed (R13); with the family the APLL that drives SYSCLK (R11, R83): the one
that drove it stops unless it is enabled beside the other.  SYSRATE gives the Rhizome frame rate, so that REF10 fails
with it (R62, R314). -/
def rateChanged (s old : State) : State :=
  let a := Clkm.activeApll old
  let s := if a ≠ Clkm.activeApll s ∧ !s.on R.PLL_CTRL_EN then s.set (Clkm.lockField a) 0 else s
  let s := if s.get R.SYS_SYSCFG_SYSRATE ≠ old.get R.SYS_SYSCFG_SYSRATE then Clkm.nomChange s 10 else s
  Mic.follow (indexRestart (closeMeters s old))

/-- What a write of the SYS page does beside storing its fields and FULLRST (R13, R419). -/
def wrote (s old : State) (off : Nat) : State :=
  if off = 0x20 then
    if s.rawWord .sys 0 0x20 = old.rawWord .sys 0 0x20 then s else rateChanged s old
  else if off = 0x44 then s.set R.SYS_TBFRAC_FRAC 0
  else s

end Sys2Proof.Machine.Sys

namespace Sys2Proof.Machine.Pwr
open Sys2Proof Sys2Proof.Machine

/-- What a write of the PWR page refuses (R31, R420). -/
def check (off d : Nat) : Option Nat :=
  if off = 0x04 then (if bit d 1 then some 6 else none)
  else if off = 0x20 then (if bits d 2 0 = 0 ∨ 3 < bits d 2 0 then some 6 else none)
  else if off = 0x28 then (if bits d 9 0 = 0 ∨ 1000 < bits d 9 0 then some 6 else none)
  else none

/-- A write of MODEREQ is a request (R397). -/
def wrote (s : State) (off d : Nat) : State :=
  if off = 0x20 then request s (bits d 2 0) .modereq else s

end Sys2Proof.Machine.Pwr
end

