-- ==== Sys2Proof/Machine/ResetOps.lean ====
section
/-! DEFINITION. Where an address lies (R25, R29), the retention class of a stored field (R6), the entry to and
the exit from the low-power modes (R398, R399), and the resets (R403 to R406). -/
namespace Sys2Proof.Machine
open Sys2Proof

/-- Where an address lies (R25). -/
inductive Loc where
  /-- A register: its page and instance, the offset in it (in a context or slot entry too), its table row. -/
  | reg (p : Pg) (n off : Nat) (r : Reg)
  /-- A word of MXT. -/
  | mxt
  /-- A word of Thallus. -/
  | th
  /-- A read-only region: Peat, the NVM read windows, the factory area. -/
  | ro
  | reserved
deriving DecidableEq, Repr

/-- The register of a table that holds offset `off`. -/
def regIn (rs : List Reg) (off : Nat) : Option Reg :=
  rs.find? (fun r => decide (r.off ≤ off) && decide (off < r.off + r.stride * (r.count - 1) + 4) &&
    (off - r.off) % r.stride == 0)

/-- The place of a word address.  SAP.MCLKCFG exists on SAP0 and SAP1 alone (R115). -/
def locate (a : Nat) : Loc :=
  if a < 0x10000 then
    match Pg.ofNumber (a / 256) with
    | some (p, n) =>
      match regIn p.regs (a % 256) with
      | some r => if p = .sap ∧ 2 ≤ n ∧ r.fields.any (fun q => q.f == R.SAP_MCLKCFG_EN 0) then .reserved else .reg p n (a % 256) r
      | none => .reserved
    | none => .reserved
  else if 0x100000 ≤ a ∧ a < 0x104000 then
    match regIn Pg.ctx.regs (a % 64) with
    | some r => .reg .ctx ((a - 0x100000) / 64) (a % 64) r
    | none => .reserved
  else if 0x200000 ≤ a ∧ a < 0x206000 then .mxt
  else if 0x400000 ≤ a ∧ a < 0x800000 then .th
  else if 0x800000 ≤ a ∧ a < 0x860000 then .ro
  else if 0x900000 ≤ a ∧ a < 0x902000 then
    match regIn Pg.slt.regs (a % 16) with
    | some r => .reg .slt ((a - 0x900000) / 16) (a % 16) r
    | none => .reserved
  else if 0xA00000 ≤ a ∧ a < 0xB01000 then .ro
  else .reserved

/-- A field row as it stands at word address `a`, seen through window `w`. -/
def FRow.at' (q : FRow) (a w : Nat) : Fld := ⟨a + 16777216 * w, q.f.lo, q.f.w, q.f.rst⟩

/-- The table row of a stored field. -/
def rowOf (key : Nat) : Option FRow :=
  match locate (key / 32 % 16777216) with
  | .reg _ _ _ r => r.fields.find? (fun q => q.f.lo == key % 32)
  | _ => none

end Sys2Proof.Machine

namespace Sys2Proof.Machine.Reset
open Sys2Proof Sys2Proof.Machine

/-- The levels of balls and of the AO domain's own hardware, which stand through every low-power move and
every reset but a POR: they are read, not kept. DESIGN CHOICE, notes/assumptions/9.md. -/
def levels : List Fld :=
  [R.CBUS_STAT_BUSBUSY, R.GPIO_STAT_IN, R.USB_STAT_VBUS]

/-- CO-class fields of what stays powered in STANDBY and LISTEN (R7, R364). -/
def awake : List Fld :=
  [R.PRIV_STAT_PROBE, R.PDM_STAT_CLKRUN, R.PDM_STAT_MICVDDON, R.PDM_STAT_REFSRC, R.FHD_STAT_ENGAGED] ++
  (List.range 8).flatMap (fun n => [R.CDAC_OUT_MODE n, R.CDAC_OUT_GAIN n, R.CDAC_OUT_CODE n])

/-- The ball values of the control DACs, kept through a FULL reset (R364). -/
def balls : List Fld := (List.range 8).map R.CDAC_NOW_VALUE

/-- Keep the stored fields that are among `fs` or whose table row satisfies `p`; the others take their reset
value. -/
def keepRegs (s : State) (fs : List Fld) (p : FRow → Bool) : State :=
  { s with regs := Map.keep (fun k => fs.any (fun f => f.key == k) ||
      (match rowOf k with
       | some q => p q
       | none => false)) s.regs }

/-- Every context returns to IDLE; EPOCH of one that was not IDLE is incremented, and every other word, which is CO,
takes its reset value (R6, R99, R105, R121). DEDUCED, notes/assumptions/47.md. -/
def idleAll (s : State) : State :=
  let s := s.ctxNums.foldl (fun s c =>
    s.updCtx c (fun x => { Ctx.zero with epoch := (Strm.resetIdle x).epoch })) s
  { s with strm := { s.strm with reqs := [], srst := false, saps := [] }, asrc := .zero }

/-- An output that the index restart leaves at its final volume. -/
def settleVols (s : State) : State :=
  { s with ana := { s.ana with
    vols := (s.ana.vols.map (fun e => (e.1, ⟨e.2.c1, e.2.c1, 0, 0⟩))).filter (fun e => e.2 != VolSt.unity) } }

/-- The matrix keeps both halves of MXT (R158); HALF, which is CO, reads 0 again, and a refill in progress is
completed. DEDUCED, notes/assumptions/48.md. -/
def sleepMtx (s : State) : State :=
  let s := Mtx.completeAll s
  let act := Mtx.active s
  let other := if s.on R.MTX_STAT_REFILL then act else if s.on R.MTX_STAT_HALF then s.mtx.half0 else s.mtx.half1
  { s with mtx := { s.mtx with half0 := act, half1 := other, en := false, prev := [], met := [], metStart := 0,
                               metWin := s.get R.MTX_CFG_METWIN, satBlk := false, work := [], gather := [] } }

/-- The engines and slots are powered down; the kernel set in service and Thallus stay. -/
def sleepEng (s : State) : State :=
  { s with eng := { EngSt.zero with ded := s.eng.ded, set := s.eng.set } }

/-- The amplifier is powered down; a record that waits for its boundary is kept (R287). -/
def sleepAmp (s : State) : State :=
  let s := Amp.sleep s
  { s with amp := { s.amp with chans := s.amp.chans.map (fun e => (e.1, { AmpCh.zero with record := e.2.record }))
                               ntc := [], ntcStale := 0 } }

/-- A thermal model whose enable is restored starts afresh (R268). -/
def wakeModels (s : State) : State :=
  (List.range 4).foldl (fun s n => Amp.wroteSp s (s.set (Amp.sp R.SPKP_CTL_EN n) 0) n 0x24) s

/-- Steps 2 to 5 of R398, and the arrival in mode `m`.  A packet that R149 still holds is dropped with the refill that
would have released it, which completes here: the model's choice. DESIGN CHOICE, notes/assumptions/107.md. -/
def enterLow (s : State) (m : Nat) : State :=
  let s := sleepAmp (Lich.sleep (Aux.sleep ([0, 1, 2].foldl Out.stopped s)))
  let s := settleVols (sleepEng (sleepMtx (idleAll s)))
  let s := { s with
    grp := { s.grp with slips := [] }
    clkm := { ClkmSt.zero with dhold := s.clkm.dhold }
    rz := .zero
    nvm := { s.nvm with fifo := [] }
    acc := { s.acc with latches := [], held := [] }
    ana := { s.ana with prev := [], clipBlk := false, btnMute := false, dac := [] }
    lich := { s.lich with counts := [] }
    mic := { s.mic with ridx := [] }
    cdac := { s.cdac with frames := [], powerUp := [] }
    blk := ⟨0, 0⟩ }
  let s := keepRegs s (levels ++ awake) (fun q => q.cls != .co)
  Jack.follow (Mic.follow (Pwr.arrived (s.set R.SYS_STAT_MODE m) m))

/-- Steps of R399 up to the new mode IDLE. DEDUCED, notes/assumptions/40.md. -/
def leaveLow (s : State) : State :=
  let s := Sys.indexRestart (s.set R.SYS_STAT_MODE Pwr.IDLE)
  let s := { s with acc := { s.acc with latches := [] } }
  let s := Clkm.refsFollowEnable (Clkm.toAcquire s)
  let s := Nvm.loadTrims s
  let s := (List.range 16).foldl (fun s n =>
    if s.on (R.ENGN_CTRL_EN n) then s.set (R.ENGN_STAT_STATE n) Sched.SELFTEST else s) s
  let s := if s.on R.RZ_CTRL_EN then Rz.enable s else s
  let s := Cdac.followAll (Cdac.safeFollow (Amp.wake (wakeModels s)))
  Jack.follow (Mic.follow (Pwr.arrived s Pwr.IDLE))

/-- SYS.RSTCAUSE records a reset (R403, R419). -/
def record (s old : State) (cause : Nat) : State :=
  let s := (s.set R.SYS_RSTCAUSE_PREV3 (old.get R.SYS_RSTCAUSE_PREV2)).set R.SYS_RSTCAUSE_PREV2
    (old.get R.SYS_RSTCAUSE_PREV1)
  (s.set R.SYS_RSTCAUSE_PREV1 (old.get R.SYS_RSTCAUSE_LAST)).set R.SYS_RSTCAUSE_LAST cause

/-- A candidate open in FHD or FROND is closed by a FULL reset; from FROND it is counted (R215, R404).
DEDUCED, notes/assumptions/46.md. -/
def closeCand (s : State) : State :=
  if Mic.stage s = Mic.FROND then (Mic.close s Mic.SPORE).bump R.WAKE_REJCNT_FROND
  else if Mic.stage s = Mic.FHD then Mic.close s Mic.SPORE
  else s

/-- CORE, ANA and PWR are reset and AO is kept; the boot begins (R403 to R406).  A request for a lower mode that is held
is dropped, with PWR.STAT.HELD and WAKE.STAT.DEFER, and PWR.STAT.REQ keeps the mode it asked for: the model's choice.
DESIGN CHOICE, notes/assumptions/106.md. -/
def coreReset (s0 : State) (cause : Nat) : State :=
  let s := closeCand (Nvm.interrupted s0)
  let s := idleAll s
  let s := { State.reset with
    pending := s.pending, regs := s.regs, mem := s.mem, free := s.free, tap := s.tap, lpXtal := s.lpXtal
    strm := s.strm
    eng := { EngSt.zero with ded := s.eng.ded }
    acc := { AccSt.zero with locked := s.acc.locked }
    cbus := s.cbus
    nvm := { NvmSt.zero with done := s.nvm.done }
    mic := { s.mic with ridx := [], seq := 0 }
    jack := s.jack
    cdac := { CdacSt.zero with sinks := s.cdac.sinks, wdg := s.cdac.wdg, held := s.cdac.held } }
  let s := keepRegs s (levels ++ awake.take 5 ++ balls) (fun q => q.cls == .ao)
  let s := ((s.set R.SYS_STAT_MODE Pwr.IDLE).set R.SYS_STAT_MOVING 0).set R.SYS_STAT_BOOTDONE 0
  record ((s.set R.PWR_STAT_HELD 0).set R.WAKE_STAT_DEFER 0) s0 cause

/-- A FULL reset by software or by a Rhizome RESET cell: the stop orders first (R404).
DEDUCED, notes/assumptions/45.md. -/
def full (s : State) (cause : Nat) : State :=
  let s := { s with pwr := { s.pwr with stopping := true } }
  let s := [0, 1, 2].foldl Out.stopped s
  coreReset ((List.range 4).foldl Amp.stop s) cause

/-- A WDG reset: the safe-value cause first, then the outputs and bridges at once (R365, R404).
DEDUCED, notes/assumptions/38.md. -/
def wdg (s : State) (cause : Nat) : State :=
  coreReset (Cdac.safeFollow (Cdac.upd s (fun c => { c with wdg := true }))) cause

/-- The straps are sampled (R311, R372, R430). -/
def sample (s : State) (st : Straps) : State :=
  let s := (s.set R.GPIO_STRAPS_ADDR1 st.addr1.toNat).set R.GPIO_STRAPS_ADDR0 st.addr0.toNat
  let s := (s.setB R.GPIO_STRAPS_RZROLE1 st.role1).setB R.GPIO_STRAPS_RZROLE0 st.role0
  s.set R.CBUS_STAT_STRAP (Cbus.strap s)

/-- A POR (R403): every class goes to its reset value, and what had no power holds nothing. -/
def por (s : State) (st : Straps) : State :=
  let s := Nvm.interrupted s
  let s := { State.reset with
    pending := s.pending, mem := Map.keep (fun a => decide (0xA00000 ≤ a)) s.mem, free := s.free
    nvm := { NvmSt.zero with done := s.nvm.done }
    jack := { JackSt.zero with pin := s.jack.pin } }
  sample s st

/-- A PIN reset (R403): as a POR, but RSTCAUSE and KEEP stand. -/
def pin (s0 : State) (st : Straps) : State :=
  let s := Nvm.interrupted s0
  let keep := levels ++ (List.range 4).map R.SYS_KEEP_DATA
  let s := { State.reset with
    pending := s.pending, regs := s.regs, mem := s.mem, free := s.free, tap := s.tap
    eng := { EngSt.zero with ded := s.eng.ded }
    nvm := { NvmSt.zero with done := s.nvm.done }
    jack := { JackSt.zero with pin := s.jack.pin } }
  sample (record (keepRegs s keep (fun _ => false)) s0 2) st

/-- OFF (R395, R400, R455): nothing is powered and nothing is saved. DESIGN CHOICE, notes/assumptions/6.md. -/
def off (s : State) : State :=
  let s := Nvm.interrupted s
  let s := { State.reset with
    pending := s.pending, mem := Map.keep (fun a => decide (0xA00000 ≤ a)) s.mem, free := s.free
    nvm := { NvmSt.zero with done := s.nvm.done }
    jack := { JackSt.zero with pin := s.jack.pin } }
  s.set R.SYS_STAT_MODE 0

end Sys2Proof.Machine.Reset
end

