-- ==== Sys2Proof/Machine/View.lean ====
section
/-! DEFINITION. What a read of a register returns: the stored fields, and the fields that the hardware
composes from the rest of its state (R29, R31, R136, and the register table rule of each page). -/
namespace Sys2Proof.Machine.View
open Sys2Proof Sys2Proof.Machine

/-- The window that a source's access to a register reaches: 0, or one more than what its own SEL register
names (R136 and the register table rules of the pages with a SEL). -/
def winOf (s : State) (code : Nat) (p : Pg) (off : Nat) : Nat :=
  let own := code + 1
  let sel (f : Fld) : Nat := s.get (f.win own) + 1
  match p with
  | .asrc => if off = 0x20 then own else 0
  | .grp => if off = 0x38 then own else if 0x3C ≤ off ∧ off < 0x58 then sel R.GRP_SEL_GRP else 0
  | .mtx =>
    if off = 0x34 ∨ off = 0x3C then own
    else if off = 0x38 then Mtx.mapWin (s.get (R.MTX_MAPSEL_SIDE.win own)) (s.get (R.MTX_MAPSEL_INDEX.win own))
    else if 0x40 ≤ off ∧ off < 0x4C then sel R.MTX_METSEL_MO else 0
  | .sched => if off = 0x38 then own else if 0x3C ≤ off ∧ off < 0x58 then sel R.SCHED_GSEL_SLOT else 0
  | .peat => if off = 0x2C then own else 0
  | .spkp => if off = 0x20 then own else if 0x24 ≤ off ∧ off < 0x50 then sel R.SPKP_SEL_CH else 0
  | .excur =>
    if off = 0x20 ∨ (0x40 ≤ off ∧ off < 0x80) then own
    else if off = 0x24 ∨ off = 0x2C ∨ 0x80 ≤ off then sel R.EXCUR_SEL_CH else 0
  | .usbd =>
    if off = 0x3C then own
    else if off = 0x40 ∨ off = 0x44 then
      Usb.fuWin (s.get (R.USBD_FUSEL_FU.win own)) (s.get (R.USBD_FUSEL_CH.win own))
    else 0
  | .rz => if off = 0x54 ∨ off = 0x58 then own else 0
  | _ => 0

/-- A field that reads 0 (R5). -/
def reads0 : Acc → Bool
  | .wo | .ws => true
  | _ => false

/-- The stored word of a register at word address `a` through window `w`; WO and WS fields read 0 (R5).
DEDUCED, notes/assumptions/74.md. -/
def stored (s : State) (r : Reg) (a w : Nat) : Nat :=
  r.fields.foldl (fun d q => if reads0 q.acc then d else d + s.get (q.at' a w) * 2 ^ q.f.lo) 0

/-- The word `d` with one field replaced. -/
def put (d : Nat) (f : Fld) (v : Nat) : Nat :=
  d - bits d (f.lo + f.w - 1) f.lo * 2 ^ f.lo + v % 2 ^ f.w * 2 ^ f.lo

/-- The ID register of a page (R2, R29). -/
def idWord (p : Pg) (n : Nat) : Nat :=
  match p with
  | .sys => 0x88320100
  | _ => p.first.1 * 0x1000000 + n * 0x10000 + 0x0100

/-- STATUS.STATE (R99). -/
def stateCode : CtxSt → Nat
  | .idle => 0
  | .armed => 1
  | .running => 2
  | .stalled => 3
  | .draining => 4

/-- The number of contexts that satisfy `p`. -/
def countCtx (s : State) (p : Nat → Bool) : Nat := (s.ctxsWhere p).length

/-- Word `off` of context `c` above its configuration words (R99): live status, and the values of the last
boundary (R18). -/
def ctxWord (s : State) (c off d : Nat) : Nat :=
  let x := s.ctx c
  let pair (v : BitVec 48) (lo : Nat) : Nat := if off = lo then v.toNat % 2 ^ 32 else v.toNat / 2 ^ 32
  match off with
  | 0x10 => put (put d (R.CTX_STATUS_CAUSE 0) x.cause) (R.CTX_STATUS_STATE 0) (stateCode x.st)
  | 0x14 => x.startIdx % 2 ^ 32
  | 0x18 | 0x1C => pair x.pub.cin 0x18
  | 0x20 | 0x24 => pair x.pub.cout 0x20
  | 0x28 | 0x2C => pair x.pub.cpad 0x28
  | 0x30 | 0x34 => pair x.pub.cdrop 0x30
  | 0x38 => x.pub.fill
  | 0x3C => x.epoch.toNat
  | _ => d

/-- The context an ASRC window shows, if it is bound (R137). -/
def asrcCtx (s : State) (code : Nat) : Option Nat :=
  let c := s.get (R.ASRC_SEL_CTX.win (code + 1))
  if s.cRecon c = 2 ∧ !s.idle c then some c else none

/-- The STEER context (R137). -/
def steerCtx (s : State) : Option Nat := (s.ctxsWhere (fun c => !s.idle c && s.cRecon c == 1)).head?

/-- The read index a PEAT window shows (R223). -/
def peatIdx (s : State) (code : Nat) : Option Nat :=
  let c := s.get (R.PEAT_RSEL_CTX.win (code + 1))
  if s.cType c = 13 ∧ !s.idle c then s.mic.ridx.find? (fun e => e.1 == c) |>.map (fun e => e.2) else none

/-- The mode, gain and code an indicator channel reads (R367). -/
def indCode (s : State) (n : Nat) : Option Nat :=
  let on := if n = 6 then Mic.cd6Driven s else Mic.cd7Driven s
  let i := s.get (if n = 6 then R.PRIV_POLICY_LIVEI else R.PRIV_POLICY_MUTEI)
  if on then some ((i * 8192 + 50) / 100) else none

/-- OUTn or NOWn of an indicator channel (R367). -/
def indWord (s : State) (n : Nat) (now : Bool) : Nat :=
  match indCode s n with
  | none => 0
  | some c => if now then Cdac.fine 1 c else put (put c (R.CDAC_OUT_MODE 0) 1) (R.CDAC_OUT_GAIN 0) 1

/-- NEW and OVR of a result register for a source (R351). -/
def resultWord (s : State) (code i d : Nat) : Nat :=
  let k := Lich.count s code i
  put (put d (R.LICHR_RESA_NEW 0) (b2n (decide (1 ≤ k)))) (R.LICHR_RESA_OVR 0) (b2n (decide (2 ≤ k)))

/-- The number of the result register at an offset of LICHR: 0 to 15 RESAk, 16 to 31 RESBk, 32 to 35 INJk,
36 and 37 PLAUSA and PLAUSB. -/
def resultNo (off : Nat) : Nat := (off - 0x20) / 4

/-- The composed registers of the clock, stream, group and matrix pages. -/
def audio (s : State) (code : Nat) (p : Pg) (off d : Nat) : Nat :=
  match p with
  | .pll => if off = 0x08 then put d R.PLL_STAT_ACTIVE (Clkm.activeApll s) else d
  | .strm =>
    if off = 0x08 then
      put (put d R.STRM_STAT_NSTALL (countCtx s (fun c => (s.ctx c).st == .stalled))) R.STRM_STAT_NRUN
        (countCtx s (fun c => (s.ctx c).st == .running))
    else if 0x40 ≤ off ∧ off < 0x60 then
      maskOf 32 (fun b => (s.ctx (8 * (off - 0x40) + b)).st == .stalled)
    else if 0x60 ≤ off ∧ off < 0x80 then maskOf 32 (fun b => !s.idle (8 * (off - 0x60) + b))
    else d
  | .asrc =>
    if off = 0x08 then
      (s.ctxsWhere (fun c => !s.idle c && s.cRecon c == 2)).foldl (fun a c => a + s.cNch c) 0
    else if off = 0x3C then
      match steerCtx s with
      | some c => put (put (put d R.ASRC_STEERSTAT_ACTIVE 1) R.ASRC_STEERSTAT_FROZEN (b2n s.asrc.frozen))
          R.ASRC_STEERSTAT_CTX c
      | none => put d R.ASRC_STEERSTAT_FROZEN (b2n s.asrc.frozen)
    else if off = 0x24 ∨ off = 0x28 ∨ off = 0x2C ∨ off = 0x30 then
      match asrcCtx s code with
      | none => 0
      | some c =>
        let v := (s.ctx c).conv
        if off = 0x24 then
          put (put (put d R.ASRC_WSTAT_HOLD (b2n v.hold)) R.ASRC_WSTAT_LOCKED (b2n v.locked)) R.ASRC_WSTAT_BOUND 1
        else if off = 0x28 then v.pubRatio % 2 ^ 32
        else if off = 0x2C then v.pubFrac % 2 ^ 32
        else v.pubIdx % 2 ^ 32
    else d
  | .grp =>
    let runs := fun g => (s.ctxsWhere (fun c => Strm.member s g c && (s.ctx c).st == .running)) != []
    if off = 0x08 then ((List.range 64).filter runs).length
    else if off = 0x28 ∨ off = 0x2C then maskOf 32 (fun b => runs (8 * (off - 0x28) + b))
    else if off = 0x30 ∨ off = 0x34 then maskOf 32 (fun b => Strm.slipping s (8 * (off - 0x30) + b))
    else if off = 0x3C then
      let g := s.get (R.GRP_SEL_GRP.win (code + 1))
      put (put (put d R.GRP_GSTAT_MEMBERS (countCtx s (fun c => Strm.member s g c && !s.idle c)))
        R.GRP_GSTAT_SLIPPING (b2n (Strm.slipping s g))) R.GRP_GSTAT_RUNNING (b2n (runs g))
    else d
  | .mtx =>
    if off = 0x08 then put d R.MTX_STAT_REDUCED (b2n s.highRate)
    else if 0x40 ≤ off ∧ off < 0x4C ∧ s.highRate ∧ 64 ≤ s.get (R.MTX_METSEL_MO.win (code + 1)) then 0
    else d
  | _ => d

/-- The composed registers of the engine pages (R192 to R194). DEDUCED, notes/assumptions/87.md. -/
def engines (s : State) (code : Nat) (p : Pg) (n off d : Nat) : Nat :=
  match p with
  | .eng =>
    if off = 0x08 then put d R.ENG_STAT_NACTIVE (Sched.nActive s)
    else if off = 0x38 then maskOf 16 (fun n => Sched.engState s n == Sched.QUARANTINED)
    else d
  | .sched =>
    let g := (s.slot (s.get (R.SCHED_GSEL_SLOT.win (code + 1)))).g
    if off = 0x08 then
      let d := put d R.SCHED_STAT_RUNMAP (maskOf 4 (fun k => (s.slot k).g.isSome))
      match s.eng.cand with
      | some c => put d R.SCHED_STAT_CANDSLOT c.slot
      | none => d
    else if off = 0x3C then
      match g with
      | some g => put (put d R.SCHED_GHDR_VALID 1) R.SCHED_GHDR_HDR g.hdr
      | none => 0
    else if off = 0x40 then
      match g with
      | some g => put (put d R.SCHED_GINFO_PERIOD (g.period - 1)) R.SCHED_GINFO_NTASK g.tasks.length
      | none => 0
    else d
  | .engn =>
    if off = 0x08 then
      let e := s.engine n
      put (put d (R.ENGN_STAT_DEPTH 0) e.deque.length) (R.ENGN_STAT_GATED 0)
        (b2n (Sched.engState s n == Sched.ACTIVE && e.deque == [] && e.job == none))
    else d
  | _ => d

/-- The composed registers of the microphone and analog pages.  No command brings the undebounced level of MUTE_SW_N, so
SWLEVEL is free. DESIGN CHOICE, notes/assumptions/88.md. -/
def analog (s : State) (code : Nat) (p : Pg) (off d : Nat) : Nat :=
  match p with
  | .priv =>
    if off = 0x08 then
      put (put d R.PRIV_STAT_LIVE (b2n (Mic.live s))) R.PRIV_STAT_SWLEVEL ((Config.freeValue s.free).toNat % 2)
    else d
  | .peat =>
    if off = 0x28 then Mic.cap s
    else if off = 0x38 then (match peatIdx s code with
      | some i => i % 2 ^ 32
      | none => 0)
    else if off = 0x3C then (match peatIdx s code with
      | some i => i / 2 ^ 32
      | none => 0)
    else if off = 0x40 then (match peatIdx s code with
      | some i => Mic.widx s - i
      | none => 0)
    else d
  | .ain =>
    if off = 0x08 then
      put (put d R.AIN_STAT_CUT (maskOf 4 (Ain.isCut s))) R.AIN_STAT_ON
        (maskOf 4 (fun n => decide (3 ≤ s.mode) && s.on R.AIN_CTRL_EN && s.on (R.AIN_INCFG_EN n)))
    else d
  | .jack => if off = 0x08 then put d R.JACK_STAT_DETRAW (b2n (Jack.inserted s)) else d
  | .lich => if off = 0x08 then put d R.LICH_STAT_QDEPTH s.lich.inj.length else d
  | .lichr => if 0x20 ≤ off then resultWord s code (resultNo off) d else d
  | .cdac =>
    if off = 0x08 then
      put (put d R.CDAC_STAT_IND (b2n (Cdac.owned s 6) + 2 * b2n (Cdac.owned s 7))) R.CDAC_STAT_SLEWING
        (maskOf 8 (fun n => !Cdac.owned s n && !Cdac.clamped s && !Cdac.atTarget s n))
    else if 0x20 ≤ off ∧ off < 0xA0 ∧ Cdac.owned s ((off - 0x20) / 16) then
      if off % 16 = 8 then indWord s ((off - 0x20) / 16) false
      else if off % 16 = 12 then indWord s ((off - 0x20) / 16) true
      else d
    else d
  | _ => d

/-- The second bridge of a pair shows the state of the first (R258). -/
def bridges (s : State) (p : Pg) (n off d : Nat) : Nat :=
  if p = .amp ∧ off = 0x08 ∧ Amp.slave s n then put d (R.AMP_STAT_STATE 0) (Amp.st s (n - 1)) else d

/-- The composed registers of the buses, the flash, the arbiter and the system pages.  No command brings the frame number
of an attached device, so FRAMENUM is free then. DESIGN CHOICE, notes/assumptions/26.md. -/
def system (s : State) (p : Pg) (off d : Nat) : Nat :=
  match p with
  | .sys =>
    if off = 0x24 then (if s.lowPower then 0 else s.sampIdx % 2 ^ 32)
    else if off = 0x28 then (if s.lowPower then 0 else s.sampIdx / 2 ^ 32)
    else if off = 0xDC then s.isumTop
    else if 0xE0 ≤ off then s.isum ((off - 0xE0) / 4)
    else d
  | .rzslot =>
    if off = 0x08 then
      put (put d R.RZSLOT_STAT_OWNED ((List.range 512).filter (Rz.mine s)).length) R.RZSLOT_STAT_PENDING
        (s.rz.claims.foldl (fun a e => a + e.2) 0)
    else d
  | .usb => if off = 0x24 ∧ Usb.state s ≠ Usb.DETACHED then (Config.freeValue s.free).toNat % 2 ^ 14 else d
  | .cbus => if off = 0x08 then put d R.CBUS_STAT_PENDING (b2n (s.acc.held.any (fun e => e.src == .ctl))) else d
  | .auxb =>
    if off = 0x34 then put (put d R.AUXB_LEVEL_RX s.aux.rx.length) R.AUXB_LEVEL_TX s.aux.tx.length
    else if off = 0x2C then leNat (s.aux.rx.take 4)
    else d
  | .nvm =>
    if off = 0x08 then put d R.NVM_STAT_TGT (Nvm.target s)
    else if off = 0x2C then s.nvm.fifo.length
    else d
  | .acc =>
    if off = 0x08 then
      put (put d R.ACC_STAT_HOLD (b2n (s.acc.held != []))) R.ACC_STAT_PEND
        (maskOf 4 (fun k => s.acc.held.any (fun e => e.src.code == k)))
    else d
  | _ => d

/-- A CTRL.EN that reads 1 (R31). -/
def fixedEn : Pg → Bool
  | .sys | .pwr | .acc | .priv | .lichr | .cbus => true
  | _ => false

/-- What a read of register `r` at word address `a`, offset `off` of page instance `(p, n)`, returns to a
source. -/
def word (s : State) (code : Nat) (p : Pg) (n off : Nat) (r : Reg) (a : Nat) : Nat :=
  let d := stored s r a (winOf s code p off)
  match p with
  | .ctx => ctxWord s n off d
  | .slt => d
  | _ =>
    if off = 0 then idWord p n
    else if off = 0x04 ∧ fixedEn p then d / 2 * 2 + 1
    else system s p off (bridges s p n off (analog s code p off (engines s code p n off (audio s code p off d))))

end Sys2Proof.Machine.View
end

