-- ==== Sys2Proof/Machine/Arbiter.lean ====
section
/-! DEFINITION. The register arbiter: what it refuses, how a word is written and read, staging, COMMIT, the
snapshot latches, held packets, and the answers of each source (R25 to R58, R149, R375 to R383, R401). -/
namespace Sys2Proof.Machine.Arb
open Sys2Proof Sys2Proof.Machine

/-! Ownership and groups. -/

/-- The address of a page instance. -/
def pageAddr (p : Pg) (n : Nat) : Nat := 256 * (p.first.1 + n)

/-- A source's bit is set in the OWNER of a page (R28, R37). -/
def owns (s : State) (src : Src) (p : Pg) (n : Nat) : Bool := s.on ⟨pageAddr p n + 0x14, src.code, 1, 1⟩

/-- CGRP of a page (R45 to R47); ACC and the pages that have none read 0xF. -/
def cgrp (s : State) (p : Pg) (n : Nat) : Nat :=
  if p.regs.any (fun r => r.off == 0x1C) ∧ p ≠ .acc then s.get ⟨pageAddr p n + 0x1C, 0, 4, 0xF⟩ else 0xF

/-- The page whose OWNER governs writes of an address (R25). -/
def governor (a : Nat) : Option (Pg × Nat) :=
  if a < 0x10000 then Pg.ofNumber (a / 256)
  else if 0x100000 ≤ a ∧ a < 0x104000 then some (.strm, 0)
  else if 0x200000 ≤ a ∧ a < 0x206000 then some (.mtx, 0)
  else if 0x400000 ≤ a ∧ a < 0x800000 then some (.eng, 0)
  else if 0x900000 ≤ a ∧ a < 0x902000 then some (.rzslot, 0)
  else none

/-- The commit group of an address. -/
def groupOf (s : State) (a : Nat) : Nat :=
  match governor a with
  | some (p, n) => cgrp s p n
  | none => 0xF

/-- Every page with its instances. -/
def pages : List (Pg × Nat) := Pg.all.flatMap (fun p => (List.range p.first.2).map (fun n => (p, n)))

/-! What a word write refuses (R37). -/

/-- A field that software can write. -/
def writable : Acc → Bool
  | .ro | .rc => false
  | _ => true

/-- The bits of a word that the register's fields cover. -/
def masked (r : Reg) (d : Nat) : Nat :=
  r.fields.foldl (fun a q => a + bits d (q.f.lo + q.f.w - 1) q.f.lo * 2 ^ q.f.lo) 0

/-- What the home chapter of a register refuses: the value, or the state (R37). -/
def pageCheck (s : State) (src : Src) (p : Pg) (n off win d : Nat) : Option Nat :=
  match p with
  | .sys => Sys.check s off d
  | .pwr => Pwr.check off d
  | .clkm => Clkm.check s off d
  | .pll => Pll.check s off d
  | .sap => Sap.check s n off d
  | .strm => Strm.check s off d
  | .asrc => Asrc.check off d
  | .grp => Grp.check s win off d
  | .mtx => Mtx.check s win off d
  | .eng => Sched.checkEng s off d
  | .sched => Sched.checkSched s off d
  | .engn => Sched.checkEngN s n off d
  | .pdm => Mic.checkPdm s off d
  | .priv => Mic.checkPriv off d
  | .wake => Mic.checkWake s off d
  | .peat => Mic.checkPeat s off d
  | .fhd => if off = 0x24 then Mic.modelCheck s 4 else none
  | .ain => Ain.check s off d
  | .hp => Out.checkHp s off d
  | .lout => Out.checkLout off d
  | .jack => Jack.check s off d
  | .amp => Amp.checkAmp s n off d
  | .ampg => Amp.checkG s off d
  | .spkp => Amp.checkSp s (win - 1) off d
  | .excur => Amp.checkEx s off d
  | .usb => Usb.check s off d
  | .usbd => Usb.checkD s off d
  | .rz => Rz.check s off d
  | .rzslot => none
  | .lich => Lich.check s off d
  | .lichr => none
  | .cdac => Cdac.check s off d
  | .cbus => Cbus.check off d
  | .auxb => Aux.check s off d
  | .nvm => Nvm.check s (owns s src .eng 0) off d
  | .gpio => Gpio.check off d
  | .acc => none
  | .ctx => Strm.checkCtx s n off d
  | .slt => Rz.checkSlot s n off d

/-- An OWNER that would leave no writer (R40), and a CGRP of 8 to 14 (R30). -/
def commonCheck (p : Pg) (off d : Nat) : Option Nat :=
  if p = .ctx ∨ p = .slt then none
  else if off = 0x14 ∧ d % 16 = 0 then some 6
  else if off = 0x1C ∧ 8 ≤ d % 16 ∧ d % 16 ≤ 14 then some 6
  else none

/-- The value and state checks of an aligned register write, with its RWL lock (R5, R37). -/
def regCheck (s : State) (src : Src) (p : Pg) (n off : Nat) (r : Reg) (a d : Nat) : Option Nat :=
  let d := masked r d
  least [
    (r.fields.all (fun q => !writable q.acc), 2),
    (r.fields.any (fun q => q.acc == .rwl) && s.acc.locked.contains a, 3),
    ((commonCheck p off d).isSome, 6),
    ((pageCheck s src p n off (View.winOf s src.code p off) d).isSome,
      (pageCheck s src p n off (View.winOf s src.code p off) d).getD 0)]

/-- Why the write of a word is rejected: the lowest reason that applies; `none` where it is not (R37).
`owned`: the OWNER check is made (the NVM preload makes none, R41). DEDUCED, notes/assumptions/10.md. -/
def wordCheck (s : State) (src : Src) (owned : Bool) (a d : Nat) : Option Nat :=
  let out := owned && (match governor a with
    | some (p, n) => !owns s src p n
    | none => false)
  let place := locate (a / 4 * 4)
  let inner := if a % 4 = 0 then
      (match place with
       | .reg p n off r => regCheck s src p n off r a d
       | _ => none)
    else none
  least [(out, 1), (place == .ro, 2), (place == .reserved, 4), (a % 4 != 0, 5),
    (inner.isSome, inner.getD 0)]

/-! Staging (R45 to R50). -/

/-- The priority of a source in a staging window (R49). -/
def prio : Src → Nat
  | .rz => 3
  | .ctl => 2
  | .usb => 1
  | .eng => 0

/-- A conflict in one staging window is recorded (R49). -/
def conflict (s : State) (a : Nat) (win lose : Src) : State :=
  let s := ((s.set R.ACC_WRCONFLICT_VALID 1).set R.ACC_WRCONFLICT_ADDR a).set R.ACC_WRCONFLICT_WINNER win.code
  ((s.set R.ACC_WRCONFLICT_LOSER lose.code).bump R.ACC_WRCONFCNT_COUNT).set R.ACC_IFLG_WRCONF 1

/-- Put a staged value in the place of the one for the same register and window, or at the end. -/
def putStaged (s : State) (e : Staged) : State :=
  let l := s.acc.staged.filter (fun g => !(g.addr == e.addr && g.win == e.win))
  { s with acc := { s.acc with staged := l ++ [e] } }

/-- A word of an RWS register is staged (R45, R49, R50). -/
def stage (s : State) (src : Src) (a win d : Nat) : State :=
  let new : Staged := ⟨a, win, d, src, true⟩
  match s.acc.staged.find? (fun g => g.addr == a && g.win == win) with
  | none => putStaged s new
  | some g =>
    if !g.fresh ∨ g.src = src then putStaged s new
    else if prio g.src < prio src then conflict (putStaged s new) a src g.src
    else conflict s a g.src src

/-! How a word is written. -/

/-- Store one field of a written word (R5). -/
def storeField (s : State) (a win d : Nat) (q : FRow) : State :=
  let f := q.at' a win
  let v := bits d (f.lo + f.w - 1) f.lo
  match q.acc with
  | .rw | .rwl => s.set f v
  | .w1c => s.set f (maskOf f.w (fun i => bit (s.get f) i && !bit v i))
  | _ => s

/-- The BK fields of a page instance go to their reset value, in every window, with those of the slot table for RZSLOT
(R341), and its staged values are discarded (R30, R48). -/
def clearPage (s : State) (p : Pg) (n : Nat) : State :=
  let page := p.first.1 + n
  let s := { s with regs := Map.keep (fun k => !((k / 32 % 16777216 / 256 == page ||
      (decide (p = Pg.rzslot) && decide (0x9000 ≤ k / 32 % 16777216 / 256) &&
        decide (k / 32 % 16777216 / 256 < 0x9020))) &&
    (match rowOf k with
     | some q => q.bk
     | none => false))) s.regs }
  { s with acc := { s.acc with staged := s.acc.staged.filter (fun g =>
      !(g.addr / 256 == page || (p == .mtx && decide (0x200000 ≤ g.addr)))) } }

/-- What a set of CTRL.SRST does on the page beside what its chapter's own hook does (R193, R355).
DEDUCED, notes/assumptions/72.md. -/
def srst (s : State) (p : Pg) (n : Nat) : State :=
  let s := clearPage s p n
  match p with
  | .sched => Sched.srst s
  | .lichr => Lich.srstR s
  | _ => s

/-- What the write of a register does beside storing its fields, on its own page and on those that follow
it. -/
def pageWrote (s old : State) (src : Src) (p : Pg) (n off win d : Nat) : State :=
  match p with
  | .sys =>
    let s := if off = 0x04 ∧ bit d 4 then s.set R.SYS_CTRL_FULLRST 1 else s
    Sys.wrote s old off
  | .pwr => Pwr.wrote s off d
  | .clkm => Strm.followHolds (Clkm.wrote s old off d)
  | .pll => Mic.follow (Pll.wrote s off)
  | .sap => Sap.wrote s old n off
  | .strm => Strm.wrote s off d
  | .asrc => s
  | .grp => Grp.wrote s win off d
  | .mtx => s
  | .eng => if off = 0x24 then Sched.roll s d else s
  | .sched => if off = 0x24 then Sched.gload s d else s
  | .engn => if off = 0x04 then Sched.wroteEngN s old n d else s
  | .pdm => Mic.wrotePdm s old off
  | .priv => Out.follow (Jack.follow (Mic.wrotePriv s off))
  | .wake => Mic.wroteWake s old off d
  | .peat => Mic.wrotePeat s old off
  | .fhd => if off = 0x24 then Mic.modelBytes s (wordBytes d) else Mic.wroteFhd s off d
  | .ain => Ain.wrote s
  | .hp => Out.wroteHp s old
  | .lout => Out.wroteLout s
  | .jack => Out.follow (Jack.wrote s old)
  | .amp => Cdac.safeFollow (Amp.wroteAmp s n off d)
  | .ampg => Cdac.safeFollow (Amp.wroteG s off)
  | .spkp => Amp.wroteSp s old (win - 1) off
  | .excur => Amp.wroteEx s src.code off d
  | .usb => Usb.wrote s off d
  | .usbd => Usb.wroteD s off
  | .rz => Rz.wrote s old off d
  | .rzslot => s
  | .lich => Cdac.safeFollow (Lich.wrote s off d)
  | .lichr => s
  | .cdac => Cdac.wrote s off d
  | .cbus => Cbus.wrote s off
  | .auxb => Aux.wrote s off d
  | .nvm => Nvm.wrote s off d
  | .gpio => Gpio.wrote s off d
  | .acc => s
  | .ctx => s
  | .slt => Rz.wroteSlot s n off d

/-- Lock an RWL register that has been written (R5). -/
def lock (s : State) (r : Reg) (a : Nat) : State :=
  if r.fields.any (fun q => q.acc == .rwl) then { s with acc := { s.acc with locked := a :: s.acc.locked } } else s

/-- A register word is written. -/
def writeReg (s : State) (src : Src) (p : Pg) (n off : Nat) (r : Reg) (a d : Nat) : State :=
  let old := s
  let d := masked r d
  let win := View.winOf s src.code p off
  let s := lock (r.fields.foldl (fun s q => storeField s a win d q) s) r a
  let s := if r.fields.any (fun q => q.acc == .rws) then stage s src a win d else s
  let s := if off = 0x04 ∧ bit d 1 ∧ p ≠ .ctx ∧ p ≠ .slt then srst s p n else s
  pageWrote s old src p n off win d

/-- A word that has passed its checks is written (R36, R44, R45). -/
def writeOne (s : State) (src : Src) (a d : Nat) : State :=
  match locate a with
  | .reg p n off r => writeReg s src p n off r a d
  | .mxt => stage s src a 0 d
  | .th => (s.setWord a d).dedWritten a
  | _ => s

/-- What became of a run of words (R37): all written, or the first offending word. -/
inductive Run where
  | ok (s : State)
  | bad (reason addr : Nat)

/-- The words of a packet one after another: each is judged against the state the earlier ones leave (R37). -/
def runWords (s : State) (src : Src) : List (Nat × Nat) → Run
  | [] => .ok s
  | (a, d) :: rest =>
    match wordCheck s src true a d with
    | some r => .bad r a
    | none => runWords (writeOne s src a d) src rest

/-! Packets. -/

/-- The address argument of a packet, or 0 (R38). -/
def addrOf : Packet → Nat
  | .writeWord a _ | .readWord a | .writeBlock a _ | .readBlock a _ | .fifoWrite a _ | .fifoRead a _ _ => a.toNat
  | _ => 0

/-- The command code of a packet (R378). -/
def codeOf : Packet → Nat
  | .writeWord _ _ => 0x01
  | .readWord _ => 0x02
  | .writeBlock _ _ => 0x03
  | .readBlock _ _ => 0x04
  | .commit _ => 0x05
  | .readStatus => 0x06
  | .fifoWrite _ _ => 0x08
  | .fifoRead _ _ _ => 0x09
  | .ping => 0x0A
  | .rzForward _ _ => 0x10
  | .fwdResult _ _ => 0x11

/-- A write command: one that has no read phase (R378). -/
def isWrite : Packet → Bool
  | .writeWord _ _ | .writeBlock _ _ | .commit _ | .fifoWrite _ _ | .rzForward _ _ => true
  | _ => false

/-- A length that R33 or the transport refuses. -/
def badLen (src : Src) (n : Nat) : Bool :=
  n == 0 || n % 4 != 0 || decide ((match src with
    | .ctl => 252
    | .eng => 256
    | _ => 4096) < n)

/-- The words a write packet writes. -/
def wordsOf : Packet → List (Nat × Nat)
  | .writeWord a d => [(a.toNat, d.toNat)]
  | .writeBlock a bs => (toWords bs).zipIdx.map (fun e => (a.toNat + 4 * e.2, e.1))
  | .fifoWrite a bs => (toWords bs).map (fun w => (a.toNat, w))
  | _ => []

/-- The packet stages a word of MXT (R149). -/
def writesMxt (p : Packet) : Bool := (wordsOf p).any (fun e => decide (0x200000 ≤ e.1) && decide (e.1 < 0x206000))

/-- Three bytes, low first. -/
def bytes3 (a : Addr) : List Byte := (wordBytes a.toNat).take 3

/-- The bytes of a packet's write phase after its command byte (R378). -/
def argBytes : Packet → List Byte
  | .writeWord a d => bytes3 a ++ wordBytes d.toNat
  | .readWord a => bytes3 a
  | .writeBlock a bs | .fifoWrite a bs => bytes3 a ++ [BitVec.ofNat 8 bs.length] ++ bs
  | .readBlock a n | .fifoRead a n _ => bytes3 a ++ [BitVec.ofNat 8 n]
  | .commit m => [m]
  | .rzForward t bs => (wordBytes t.toNat).take 2 ++ bs
  | .fwdResult o n => (wordBytes o.toNat).take 2 ++ [BitVec.ofNat 8 n]
  | .readStatus | .ping => []

/-- The packet whose bytes these are, from the command byte on, without PEC (R378, R379). -/
def parse : List Byte → Option Packet
  | [] => none
  | c :: r =>
    let a : Addr := BitVec.ofNat 24 (leNat (r.take 3))
    let r3 := r.drop 3
    let n := leNat (r3.take 1)
    match c.toNat with
    | 0x01 => if r.length = 7 then some (.writeWord a (BitVec.ofNat 32 (leNat r3))) else none
    | 0x02 => if r.length = 3 then some (.readWord a) else none
    | 0x03 => if r.length = 4 + n then some (.writeBlock a (r3.drop 1)) else none
    | 0x04 => if r.length = 4 then some (.readBlock a n) else none
    | 0x05 => if r.length = 1 then some (.commit (BitVec.ofNat 8 (leNat r))) else none
    | 0x06 => if r = [] then some .readStatus else none
    | 0x08 => if r.length = 4 + n then some (.fifoWrite a (r3.drop 1)) else none
    | 0x09 => if r.length = 4 then some (.fifoRead a n n) else none
    | 0x0A => if r = [] then some .ping else none
    | _ => none

/-- A setup packet of a control transfer on the vendor interface (R303). -/
structure Setup where
  requestType : Nat
  request : Nat
  value : Nat
  index : Nat
  length : Nat
deriving DecidableEq, Repr

/-- The control transfer that carries a packet: its setup packet and the data stage of an OUT request (R303). -/
def setupOf (p : Packet) : Setup × List Byte :=
  let at' (a : Addr) : Nat × Nat := (a.toNat / 65536, a.toNat % 65536)
  match p with
  | .writeWord a d => (⟨0x40, 0x01, (at' a).1, (at' a).2, 4⟩, wordBytes d.toNat)
  | .readWord a => (⟨0xC0, 0x02, (at' a).1, (at' a).2, 4⟩, [])
  | .writeBlock a bs => (⟨0x40, 0x03, (at' a).1, (at' a).2, bs.length⟩, bs)
  | .readBlock a n => (⟨0xC0, 0x04, (at' a).1, (at' a).2, n⟩, [])
  | .commit m => (⟨0x40, 0x05, m.toNat, 0, 0⟩, [])
  | .readStatus => (⟨0xC0, 0x06, 0, 0, 8⟩, [])
  | .fifoWrite a bs => (⟨0x40, 0x08, (at' a).1, (at' a).2, bs.length⟩, bs)
  | .fifoRead a n _ => (⟨0xC0, 0x09, (at' a).1, (at' a).2, n⟩, [])
  | .ping => (⟨0xC0, 0x0A, 0, 0, 8⟩, [])
  | .rzForward t bs => (⟨0x40, 0x10, t.toNat, 0, bs.length⟩, bs)
  | .fwdResult _ n => (⟨0xC0, 0x11, 0, 0, n⟩, [])

/-- The packet that a control transfer carries: the address is wValue[7:0] and wIndex; `none` for an unknown bRequest
(R303, R304). -/
def ofSetup (q : Setup) (data : List Byte) : Option Packet :=
  let a : Addr := BitVec.ofNat 24 (q.value % 256 * 65536 + q.index % 65536)
  match q.requestType, q.request with
  | 0x40, 0x01 => some (.writeWord a (BitVec.ofNat 32 (leNat data)))
  | 0xC0, 0x02 => some (.readWord a)
  | 0x40, 0x03 => some (.writeBlock a data)
  | 0xC0, 0x04 => some (.readBlock a q.length)
  | 0x40, 0x05 => some (.commit (BitVec.ofNat 8 q.value))
  | 0xC0, 0x06 => some .readStatus
  | 0x40, 0x08 => some (.fifoWrite a data)
  | 0xC0, 0x09 => some (.fifoRead a q.length q.length)
  | 0xC0, 0x0A => some .ping
  | 0x40, 0x10 => some (.rzForward (BitVec.ofNat 16 (q.value % 1024)) data)
  | 0xC0, 0x11 => some (.fwdResult 0 q.length)
  | _, _ => none

/-! Rejections (R38). -/

/-- The field of REJSRC of a source. -/
def rejSrc : Src → Fld
  | .ctl => R.ACC_REJSRC_CTL
  | .usb => R.ACC_REJSRC_USB
  | .rz => R.ACC_REJSRC_RZ
  | .eng => R.ACC_REJSRC_ENG

/-- LASTREJ and IFLG.REJ. -/
def lastRej (s : State) (src : Src) (reason addr : Nat) : State :=
  let s := ((s.set R.ACC_LASTREJ_VALID 1).set R.ACC_LASTREJ_SRC src.code).set R.ACC_LASTREJ_REASON reason
  (s.set R.ACC_LASTREJ_ADDR addr).set R.ACC_IFLG_REJ 1

/-- ERRCNT.REJ of a page. -/
def rejFld (p : Pg) (n : Nat) : Fld := ⟨pageAddr p n + 0x18, 0, 16, 0⟩

/-- An access to a reserved or unaligned address is counted (R26, R27). -/
def reservedAccess (s : State) : State :=
  if s.lowPower then s else (s.bump R.ACC_RSVCNT_COUNT).set R.ACC_IFLG_RSVACC 1

/-- The page in whose ERRCNT a rejected word counts; none for a reserved or unaligned one, which counts in ACC.RSVCNT
whatever the reason recorded (R26, R27, R38). -/
def countedIn (reason addr : Nat) : Option Fld :=
  if reason = 9 then some R.ACC_ERRCNT_REJ
  else if addr % 4 ≠ 0 ∨ locate addr = .reserved then none
  else if locate addr = .ro then some R.ACC_ERRCNT_REJ
  else (governor addr).map (fun e => rejFld e.1 e.2)

/-- A rejected packet is counted and recorded (R38); in STANDBY and LISTEN in its page alone (R375, R401). -/
def countRej (s : State) (src : Src) (reason addr : Nat) : State :=
  if s.lowPower then
    match countedIn reason addr with
    | some f => if reason = 9 then s else s.bump f
    | none => s
  else
    let s := match countedIn reason addr with
      | some f => s.bump f
      | none => reservedAccess s
    lastRej (s.bump (rejSrc src)) src reason addr

/-! Reads (R27, R51 to R55). -/

/-- The snapshot group of an offset: its first offset and its length in bytes (R51). -/
def snapOf (p : Pg) (off : Nat) : Option (Nat × Nat) :=
  p.snaps.findSome? (fun e =>
    let stride := max e.2.2.1 e.2.1
    let i := (off - e.1) / stride
    let b := e.1 + stride * i
    if e.1 ≤ off ∧ i < e.2.2.2 ∧ off < b + e.2.1 then some (b, e.2.1) else none)

/-- The read-to-clear fields of a register are cleared (R5, R52). -/
def clearRc (s : State) (code : Nat) (p : Pg) (off : Nat) (r : Reg) (a : Nat) : State :=
  r.fields.foldl (fun s q => if q.acc == .rc then s.set (q.at' a (View.winOf s code p off)) 0 else s) s

/-- The word at a word address of a page, and the state with its read-to-clear fields cleared. -/
def liveWord (s : State) (code : Nat) (a : Nat) : Nat × State :=
  match locate a with
  | .reg p n off r => (View.word s code p n off r a, clearRc s code p off r a)
  | _ => (0, s)

/-- The words of a snapshot group from address `a` on, taken in one cycle. -/
def takeGroup (s : State) (code : Nat) (a : Nat) : Nat → List Byte × State
  | 0 => ([], s)
  | k + 1 =>
    let r := liveWord s code a
    let t := takeGroup r.2 code (a + 4) k
    (wordBytes r.1 ++ t.1, t.2)

/-- The latch of a source. -/
def latchOf (s : State) (src : Src) : Latch := Map.get ⟨0, []⟩ s.acc.latches src.code

/-- A read of one register. -/
def readReg (s : State) (src : Src) (p : Pg) (n off : Nat) (r : Reg) (a : Nat) : Nat × State :=
  match snapOf p off with
  | some (b, len) =>
    let base := a - (off - b)
    if off = b then
      let t := takeGroup s src.code a (len / 4)
      let s := if p = .lichr ∧ 0x20 ≤ off then
          (List.range (len / 4)).foldl (fun s i => Lich.seen s src.code (View.resultNo off + i)) t.2
        else t.2
      (leNat (t.1.take 4), { s with acc := { s.acc with latches := Map.set ⟨0, []⟩ s.acc.latches src.code ⟨base, t.1⟩ } })
    else
      let l := latchOf s src
      if l.bytes ≠ [] ∧ l.base = base then (leNat ((l.bytes.drop (a - base)).take 4), s)
      else (View.word s src.code p n off r a,
        if s.lowPower then s else (s.bump R.ACC_LATCHMISS_COUNT).set R.ACC_IFLG_LATCHMISS 1)
  | none =>
    if p = .auxb ∧ off = 0x2C then Aux.pop s
    else if p = .usb ∧ off = 0x24 then (View.word s src.code p n off r a, s.tick)
    else (View.word s src.code p n off r a, clearRc s src.code p off r a)

/-- A read of one word (R26 to R28). -/
def readOne (s : State) (src : Src) (a : Nat) : Nat × State :=
  if a % 4 ≠ 0 then (0, reservedAccess s)
  else
    match locate a with
    | .reg p n off r => readReg s src p n off r a
    | .mxt =>
      let e := (a - 0x200000) / 2
      (Map.get 0 (Mtx.active s) e + 65536 * Map.get 0 (Mtx.active s) (e + 1), s)
    | .th => if s.eng.ded.contains a then (0, s.dedRead a) else (s.word a, s)
    | .ro => (s.word a, s)
    | .reserved => (0, reservedAccess s)

/-- A run of words from `a` on, `step` bytes apart. -/
def readWords (s : State) (src : Src) (step : Nat) : Nat → Nat → List Byte × State
  | _, 0 => ([], s)
  | a, k + 1 =>
    let r := readOne s src a
    let t := readWords r.2 src step (a + step) k
    (wordBytes r.1 ++ t.1, t.2)

/-- A FIFO read: from the receive FIFO of AUXB the bytes whose acknowledge completed are taken (R383, R394);
of any other register the same address is read again and again. -/
def readFifo (s : State) (src : Src) (a len taken : Nat) : List Byte × State :=
  if a = 0x612C then
    ((s.aux.rx ++ List.replicate len 0).take len, Aux.upd s (fun x => { x with rx := x.rx.drop (min taken len) }))
  else readWords s src 0 a (len / 4)

/-- The bytes of READ_STATUS (R380). -/
def statusBytes (s : State) : List Byte :=
  let f (n : Nat) : Byte := BitVec.ofNat 8 n
  [f (16 * s.get R.CBUS_LASTRES_REASON + s.get R.CBUS_LASTRES_RESULT),
   f (b2n s.irq + 2 * s.get R.CBUS_IFLG_CMDERR + 4 * s.get R.CBUS_STAT_ADDRCONF +
     8 * b2n (s.acc.held.any (fun e => e.src == .ctl)) + 16 * s.get R.CBUS_STAT_ALTACT),
   f (s.mode + 128 * s.get R.SYS_STAT_MOVING), f s.isumTop,
   f (s.get R.CBUS_PKTCNT_APPLIED), f (s.get R.CBUS_PKTCNT_APPLIED / 256),
   f (s.get R.CBUS_PKTCNT_NOTAPPL), f (s.get R.CBUS_PKTCNT_NOTAPPL / 256)]

/-- The bytes of PING (R381). -/
def pingBytes (s : State) : List Byte := [0x00, 0x01, 0x32, 0x88] ++ s.bytes Nvm.factory 4

/-! COMMIT (R42, R45). -/

/-- The staged values of group `g` are taken for the next boundary; with the MTX page among its pages the halves swap (R45, R148). -/
def takeGroupOf (s : State) (g : Nat) : State :=
  let go := s.acc.staged.filter (fun e => groupOf s e.addr == g)
  let s1 := { s with acc := { s.acc with
    staged := s.acc.staged.filter (fun e => groupOf s e.addr != g)
    taken := s.acc.taken ++ go.map (fun e => ⟨g, e.addr, e.win, e.val⟩) } }
  if cgrp s .mtx 0 = g then { s1 with mtx := { s1.mtx with swapDue := true } } else s1

/-- The source may commit group `g` (R42). -/
def ownsGroup (s : State) (src : Src) (g : Nat) : Bool :=
  pages.all (fun e => cgrp s e.1 e.2 != g || owns s src e.1 e.2)

/-- One bit of a COMMIT. -/
def commitBit (s : State) (src : Src) (mask : Nat) (g : Nat) : State :=
  if !bit mask g then s
  else if ownsGroup s src g then takeGroupOf s g
  else lastRej (s.bump R.ACC_ERRCNT_BLKERR) src 8 g

/-- A COMMIT (R42). -/
def commit (s : State) (src : Src) (mask : Nat) : State :=
  (List.range 8).foldl (fun s g => commitBit s src mask g) s

/-- A bit of the COMMIT is refused (R380). -/
def refusesBit (s : State) (src : Src) (mask : Nat) : Bool :=
  (List.range 8).any (fun g => bit mask g && !ownsGroup s src g)

/-! Applying a packet. -/

/-- What a packet comes to: its answer, the state, and the REASON that a control-bus RESULT of 1 shows. -/
structure Done where
  st : State
  reply : Reply
  /-- `some (reason, address)`: rejected, and not yet counted. -/
  rej : Option (Nat × Nat)
  reason : Nat

/-- A packet is rejected with reason 0x9 (R38). -/
def rejected9 (s : State) (p : Packet) : Done := ⟨s, .rejected 9 (addrOf p), some (9, addrOf p), 0⟩

/-- The words of a write packet (R37). -/
def applyWrites (s : State) (src : Src) (p : Packet) : Done :=
  match runWords s src (wordsOf p) with
  | .ok s => ⟨s, .applied, none, 0⟩
  | .bad r a => ⟨s, .rejected r a, some (r, a), 0⟩

/-- An enclosed packet that may be forwarded (R379). -/
def mayForward (bs : List Byte) : Bool := (parse bs).isSome

/-- The result of a source's last forward (R303, R304, R379). DEDUCED, notes/assumptions/52.md. -/
def fwdResult (s : State) (src : Src) (p : Packet) (off n : Nat) : Done :=
  let own := src.code + 1
  let data := (Map.get ⟨0, false, false, []⟩ s.rz.fwd src.code).data
  if src = .rz then rejected9 s p
  else if !s.on (R.RZ_FWDSTAT_DONE.win own) then ⟨s, .notReady, none, 0⟩
  else if src = .ctl then
    if badLen .ctl n ∨ off % 4 ≠ 0 ∨ s.get (R.RZ_FWDSTAT_LEN.win own) < off + n then rejected9 s p
    else ⟨s, .data ((data.drop off).take n), none, 0⟩
  else if s.get (R.RZ_FWDSTAT_STATUS.win own) ≠ 0 then ⟨s, .rejected (s.get (R.RZ_FWDSTAT_REASON.win own)) 0, none, 0⟩
  else ⟨s, .data (data.take n), none, 0⟩

/-- A packet is applied or rejected (R33 to R42). -/
def applyPacket (s : State) (src : Src) (p : Packet) : Done :=
  match p with
  | .writeWord _ _ => applyWrites s src p
  | .writeBlock _ bs | .fifoWrite _ bs => if badLen src bs.length then rejected9 s p else applyWrites s src p
  | .readWord a => let r := readWords s src 4 a.toNat 1; ⟨r.2, .data r.1, none, 0⟩
  | .readBlock a n =>
    if badLen src n then rejected9 s p else let r := readWords s src 4 a.toNat (n / 4); ⟨r.2, .data r.1, none, 0⟩
  | .fifoRead a n t =>
    if badLen src n then rejected9 s p
    else let r := readFifo s src a.toNat n (if src = .ctl then t else n); ⟨r.2, .data r.1, none, 0⟩
  | .commit m =>
    ⟨commit s src m.toNat, .applied, none, if refusesBit s src m.toNat then 8 else 0⟩
  | .readStatus => ⟨s, .data (statusBytes s), none, 0⟩
  | .ping => ⟨s, .data (pingBytes s), none, 0⟩
  | .rzForward t bs =>
    if src = .rz ∨ t.toNat / 1024 ≠ 0 ∨ 4096 < bs.length ∨ !mayForward bs then rejected9 s p
    else ⟨Rz.forward s src.code t.toNat bs, .applied, none, 0⟩
  | .fwdResult o n => fwdResult s src p o.toNat n

/-! Each source's way to the arbiter. -/

/-- The first word of an engine's packet once the arbiter has dealt with it (R166). -/
def dealt : Reply → List Nat
  | .rejected r _ => [2 + 16 * r]
  | .applied => [1]
  | .data _ => [1]
  | _ => []

/-- Record the answer to a source (R39, R166). DESIGN CHOICE, notes/assumptions/79.md. -/
def answer (s : State) (src : Src) (r : Reply) : State :=
  { s with acc := { s.acc with
    replies := Map.set .none s.acc.replies src.code r
    engWords := if src = .eng then (dealt r ++ s.acc.engWords).take 64 else s.acc.engWords } }

/-- A FULLRST that a packet has set acts once the packet is applied (R403, R404). -/
def acted (s : State) : State := if s.on R.SYS_CTRL_FULLRST then Reset.full s 3 else s

/-- The source is served now (R7, R41, R401, R407). DESIGN CHOICE, notes/assumptions/73.md. -/
def served (s : State) (src : Src) : Bool :=
  !s.pwr.booting && s.mode != 0 && (if src = .ctl then Cbus.hears s else !s.lowPower)

/-- The packet waits for the refill (R149). -/
def holds (s : State) (p : Packet) : Bool :=
  s.acc.held != [] ||
    (writesMxt p && cgrp s .mtx 0 != 0xF && (s.mtx.swapDue || s.on R.MTX_STAT_REFILL))

/-- The packet waits behind those held (R149). -/
def hold (s : State) (h : Held) : State := { s with acc := { s.acc with held := s.acc.held ++ [h] } }

/-- A packet of USB, RZ or ENG (R35, R39). -/
def runOther (s : State) (src : Src) (own : Own) (p : Packet) : State :=
  if !served s src then answer s src .refused
  else if holds s p then answer (hold s ⟨src, .none, p, own⟩) src .notReady
  else
    let d := applyPacket s src p
    let s := match d.rej with
      | some (r, a) => countRej d.st src r a
      | none => d.st
    acted (answer s src d.reply)

/-- The command byte on the bus. -/
def cmdByte (pec : Pec) (p : Packet) : Nat :=
  match pec with
  | .none => codeOf p
  | .byte _ => codeOf p + 0x80

/-- The bytes of a write phase on the bus, from the address on (R377). -/
def written (s : State) (pec : Pec) (p : Packet) : List Byte :=
  BitVec.ofNat 8 (2 * s.get R.CBUS_STAT_ACTIVE) :: BitVec.ofNat 8 (cmdByte pec p) :: argBytes p

/-- The PEC of a write command (R382). -/
def pecOk (s : State) (pec : Pec) (p : Packet) : Bool :=
  match pec with
  | .none => true
  | .byte b =>
    !isWrite p || Sys2Proof.Machine.pec (written s pec p) == b.toNat

/-- The answer to a read with CMD bit 7 set: the PEC over the whole transaction follows the last byte, unless the
controller took fewer of a FIFO read (R382). -/
def withPec (s : State) (pec : Pec) (p : Packet) (r : Reply) : Reply :=
  let cut := match p with
    | .fifoRead _ n t => decide (t < n)
    | _ => false
  match pec, r with
  | .byte _, .data bs =>
    if cut then r
    else .data (bs ++ [BitVec.ofNat 8 (Sys2Proof.Machine.pec
      (written s pec p ++ BitVec.ofNat 8 (2 * s.get R.CBUS_STAT_ACTIVE + 1) :: bs))])
  | _, _ => r

/-- An address that is served in STANDBY and LISTEN (R401); `w`: a write. -/
def lowServed (w : Bool) (a : Nat) : Bool :=
  (match locate (a / 4 * 4) with
   | .ro => !w && decide (peatBase ≤ a) && decide (a < peatBase + peatSize)
   | _ => false) ||
  (match governor a with
   | some (p, n) => decide (a < 0x10000) && (p.ao || (p == .pdm && n == 0 && (a % 256 / 4 == 2 || a % 256 / 4 == 3 || a % 256 / 4 == 4)))
   | none => false)

/-- A command that is served in STANDBY and LISTEN (R376). DEDUCED, notes/assumptions/51.md. -/
def lowCmd (p : Packet) : Bool :=
  match p with
  | .readStatus | .ping => true
  | .writeWord _ _ | .writeBlock _ _ | .fifoWrite _ _ => lowServed true (addrOf p) && (wordsOf p).all (fun e => lowServed true e.1)
  | .readWord _ | .fifoRead _ _ _ => lowServed false (addrOf p)
  | .readBlock a n => (List.range (max 1 (n / 4))).all (fun k => lowServed false (a.toNat + 4 * k))
  | _ => false

/-- A command NACKed under R376: RESULT 6, and with AUTOWAKE a request for IDLE (R376, R401). -/
def unserved (s : State) (pec : Pec) (p : Packet) : State :=
  let s := Cbus.note s (cmdByte pec p) (isWrite p) Cbus.UNSERVED 0
  let s := if s.on R.SYS_CTRL_AUTOWAKE then Pwr.request (s.set R.SYS_IFLG_AUTOWAKE 1) Pwr.IDLE .auto else s
  answer s .ctl .refused

/-- A CTL command is rejected (R375); `res`: at a byte, or at application. -/
def ctlRejected (s : State) (pec : Pec) (p : Packet) (res reason addr : Nat) : State :=
  let s := if s.lowPower ∧ reason = 9 then s else countRej s .ctl reason addr
  answer (Cbus.note s (cmdByte pec p) (isWrite p) res reason) .ctl (.rejected reason addr)

/-- The outcome of a CTL command that reached the arbiter. -/
def ctlDone (d : Done) (pec : Pec) (p : Packet) (res : Nat) : State :=
  match d.rej with
  | some (r, a) => ctlRejected d.st pec p res r a
  | none =>
    if d.reply = .notReady then answer d.st .ctl .notReady
    else acted (answer (Cbus.note d.st (cmdByte pec p) (isWrite p) Cbus.APPLIED d.reason) .ctl (withPec d.st pec p d.reply))

/-- A command on the control bus (R374 to R383, R401). -/
def runCtl (s : State) (pec : Pec) (p : Packet) : State :=
  if !served s .ctl then answer s .ctl .refused
  else if s.acc.held.any (fun e => e.src == .ctl) then answer (s.bump R.CBUS_ERRCNT_BLKERR) .ctl .notReady
  else if pec = .none ∧ s.on R.CBUS_CFG_PECREQ then ctlRejected s pec p Cbus.REJECTED 9 (addrOf p)
  else if s.lowPower ∧ !lowCmd p then unserved s pec p
  else
    let d := applyPacket s .ctl p
    if d.rej.isSome then ctlDone d pec p Cbus.REJECTED
    else if !pecOk s pec p then
      let s := (s.bump R.CBUS_EVCNT_PECERR).set R.CBUS_IFLG_CMDERR 1
      answer (Cbus.note s (cmdByte pec p) true Cbus.BADPEC 0) .ctl .refused
    else if holds s p ∧ p ≠ .readStatus ∧ p ≠ .ping then
      if isWrite p then
        answer (hold s ⟨.ctl, pec, p, .plain⟩) .ctl .notReady
      else answer s .ctl .notReady
    else ctlDone d pec p Cbus.APPLIED

/-- A command packet of a source. DESIGN CHOICE, notes/assumptions/11.md. -/
def run (s : State) (src : Src) (pec : Pec) (p : Packet) : State :=
  match src with
  | .ctl => runCtl s pec p
  | _ => runOther s src .plain p

/-- The write of one register word by a source, as one packet (R44). -/
def write (s : State) (src : Src) (a d : Nat) : State :=
  run s src .none (.writeWord (BitVec.ofNat 24 a) (BitVec.ofNat 32 d))

/-- A write of one register with some bits set and some cleared, the others as they stand.
DESIGN CHOICE, notes/assumptions/75.md. -/
def modify (s : State) (src : Src) (a set clear : Nat) : State :=
  match locate a with
  | .reg _ _ _ r => write s src a (maskOf 32 (fun i => bit set i || (bit (View.stored s r a 0) i && !bit clear i)))
  | _ => write s src a set

/-- A write of one register with one field set to a value, the other bits as they stand. -/
def writeField (s : State) (src : Src) (f : Fld) (v : Nat) : State :=
  modify s src f.addr (v % 2 ^ f.w * 2 ^ f.lo) ((2 ^ f.w - 1) * 2 ^ f.lo)

end Sys2Proof.Machine.Arb
end

