-- ==== Sys2Proof/Machine/Boundary.lean ====
section
/-! DEFINITION. The block boundary in the step order of R15, the committed values of step 3 (R45 to R47, R148 to
R150), and the end of a matrix refill with the packets it releases (R149). -/
namespace Sys2Proof.Machine.Blk
open Sys2Proof Sys2Proof.Machine

/-! Step 3: committed values. -/

/-- Where the committed value of a register goes. DEDUCED, notes/assumptions/18.md. -/
def storeTaken (s : State) (t : Taken) : State :=
  match locate t.addr with
  | .reg p n off r =>
    let old := s
    let s := r.fields.foldl (fun s q =>
      if q.acc == .rws then
        let f := q.at' t.addr t.win
        let v := bits t.val (f.lo + f.w - 1) f.lo
        s.set f (if p == .sched then s.get f ||| v else v)
      else s) s
    if p = .sap ∧ off = 0x34 then Strm.gainCommitted s n
    else if p = .hp ∧ off = 0x24 then Out.volCommitted s old true
    else if p = .lout ∧ off = 0x24 then Out.volCommitted s old false
    else if p = .ain ∧ 0x20 ≤ off ∧ off < 0x30 then Ain.gainCommitted s ((off - 0x20) / 4)
    else if p = .amp ∧ off = 0x24 then Amp.volCommitted s old n
    else s
  | _ => s

/-- A value that belongs to the matrix: an MXT word, MAP or a tap (R150). -/
def ofMatrix (a : Nat) : Bool := Arb.governor a == some (.mtx, 0)

/-- The value is a word of MXT. -/
def isMxt (a : Nat) : Bool := decide (0x200000 ≤ a) && decide (a < 0x206000)

/-- Values staged on a page whose CGRP is 0xF are committed at each boundary (R46). -/
def autoTaken (s : State) : List Taken :=
  (s.acc.staged.filter (fun e => Arb.groupOf s e.addr == 0xF)).map (fun e => ⟨0xF, e.addr, e.win, e.val⟩)

/-- The values of a boundary in ascending group number (R15, 3). -/
def inOrder (ts : List Taken) : List Taken :=
  (List.range 16).flatMap (fun g => ts.filter (fun t => t.grp == g))

/-- Step 3 of a boundary: the values taken by COMMITs and those of CGRP 0xF take effect; the matrix halves
swap with them; a new staging window begins (R15, R45 to R49, R148, R150). -/
def commitStep (s : State) : State :=
  let auto := autoTaken s
  let ts := inOrder (s.acc.taken ++ auto)
  let swap := s.mtx.swapDue || auto.any (fun t => ofMatrix t.addr)
  let s := { s with acc := { s.acc with
    staged := (s.acc.staged.filter (fun e => Arb.groupOf s e.addr != 0xF)).map (fun e => { e with fresh := false })
    taken := [] } }
  let s := (ts.filter (fun t => !isMxt t.addr)).foldl storeTaken s
  if swap then Mtx.swap s ((ts.filter (fun t => isMxt t.addr)).map (fun t => (t.addr, t.val))) else s

/-! The steps of R15. -/

/-- The STEER context leaves RUNNING: the loss of activity of REF11 (R67). -/
def reconFollow (s : State) : State :=
  let was := s.asrc.steerRunning
  let s := Strm.noteRecon s
  if was && !s.asrc.steerRunning then Clkm.refFail s 11 else s

/-- A demand in 0.01 ppb as an OFFSET in 0.1 ppm. -/
def toOffset (u : Int) : Int := roundDiv u 10000

/-- The steering loop at a boundary and the gate of REF11 (R67, R124). -/
def steer (s : State) : State :=
  match s.ctxsWhere (fun c => s.cRecon c == 1 && ((s.ctx c).st == .running || (s.ctx c).st == .stalled)) with
  | c :: _ =>
    let s := Strm.steerStep s c
    if (s.ctx c).st = .running then Clkm.gate s 11 (toOffset (s.geti R.ASRC_STEEROUT_U)) else s
  | [] => s

/-- A STEER context has entered RUNNING at this boundary: I is preset, and the boundary is a gate of REF11 with the
demand that the preset gives (R67, R124). DEDUCED, notes/assumptions/21.md. -/
def steerStarted (s old : State) : State :=
  (s.ctxsWhere (fun c => s.cRecon c == 1 && (s.ctx c).st == .running &&
    (old.ctx c).st != .running)).foldl (fun s c =>
      let s := Strm.steerPreset s c
      Clkm.gate s 11 (toOffset (s.geti R.ASRC_STEEROUT_U))) s

/-- Step 1: ports whose period ends deliver, the ledgers, the meters and the steering loop. -/
def step1 (s : State) (b : Nat) : State :=
  let s := (List.range 4).foldl (fun s k => Sched.endPeriod s b k) s
  steer (Mtx.step1 (Strm.step1 s b) b)

/-- The converters of TYPE 13 contexts take their ratio from the PDM reference APLLA / 16 and lock at their first
boundary, without measurement (R127, R219). DEDUCED, notes/assumptions/97.md. -/
def wakeLock (s : State) : State :=
  if s.on R.PDM_STAT_REFSRC then
    (s.ctxsWhere (fun c => s.cType c == 13 && !s.idle c && !(s.ctx c).conv.locked)).foldl
      (fun s c => Strm.convLock s c (Strm.ratioOf s (Strm.endpointRate s c))) s
  else s

/-- Step 2: the stream state changes, and what the ratio trackers, Rhizome and the microphones take over at a
boundary. -/
def step2 (s : State) (b : Nat) (ratios : List (Byte × Word × Int)) : State :=
  let old := s
  let s := Rz.presBoundary (Rz.resumable s)
  let s := ratios.foldl (fun s e => Strm.trackRatio s e.1.toNat e.2.1.toNat e.2.2) s
  let s := wakeLock (steerStarted (Strm.step2 s b) old)
  let s := Strm.followHolds s
  let s := if old.asrc.steerRunning && !s.asrc.steerRunning then Clkm.refFail s 11 else s
  Mic.startReads s

/-- Step 3, with the stages, inputs and bridges that change at a boundary (R233, R239, R273). -/
def step3 (s : State) : State := Amp.boundary (Ain.boundary (Out.boundary (commitStep (Vol.settle s))))

/-- The device is in IDLE or ACTIVE, where CORE, ANA and PWR are powered and SYSCLK runs (R7, R15, R395). -/
def clocked (s : State) : Bool := decide (3 ≤ s.mode)

/-- The next block boundary (R15, R323).  An index adopted here renumbers it. DEDUCED, notes/assumptions/13.md. -/
def boundary (s : State) (ratios : List (Byte × Word × Int)) : State :=
  if !clocked s then s
  else
    let b := s.blk.base + s.blkLen
    let s := step1 s b
    let s := { s with blk := ⟨b, 0⟩ }
    let a := Rz.adopt s
    let s := if a.rz.adopted ∧ !s.rz.adopted ∨ a.blk ≠ s.blk then Cdac.ptJudge a else a
    let b := s.blk.base
    let s := step3 (step2 s b ratios)
    let s := Cdac.loadAll (Sched.step4 s b) 3 (fun _ => true)
    Mic.follow (Pwr.follow s)

/-! Held packets (R149, R375). -/

/-- The answer to a packet that an RZ sender sent goes back to it: RESULT cells with the read data or one byte
0x01, or one ERROR cell; a broadcast is not answered (R328, R331, R332). -/
def rzAnswer (s : State) (dst tag : Nat) (broadcast : Bool) (r : Reply) : State :=
  let mk (typ : Nat) (bs : List Byte) : State :=
    let cs := Rz.chunks 83 bs
    cs.zipIdx.foldl (fun s e =>
      let c := Rz.mkCell s dst false e.1
      Rz.send s typ { c with tag := BitVec.ofNat 8 tag, frag := BitVec.ofNat 7 e.2
                             last := e.2 + 1 == cs.length }) s
  if broadcast then s
  else
    match r with
    | .data bs => mk Rz.RESULT bs
    | .applied => mk Rz.RESULT [0x01]
    | .rejected r _ => mk Rz.ERROR [0x01, BitVec.ofNat 8 r]
    | _ => s

/-- A later packet of the SET_CUR or of the sequence that a rejected packet ends. -/
def endsWith (o p : Own) : Bool :=
  match o, p with
  | .feature u c _ _ _, .feature u' c' _ _ _ => u == u' && c == c'
  | .sequencer, .sequencer => true
  | _, _ => false

/-- What the outcome of a packet that was held settles (R218, R295, R299, R302); `more`: packets of the same request
are still held. -/
def settle (s : State) (o : Own) (bad more : Bool) : State :=
  match o with
  | .plain => s
  | .auto => if bad then s.set R.USBD_IFLG_SEQFAIL 1 else s
  | .selector => if bad then Usb.stallReply s else Usb.answer s .applied
  | .feature u c m v _ =>
    if bad then Usb.stallReply (Usb.setHostVal s u c m v)
    else if more then s else Usb.answer s .applied
  | .sequencer => if bad then Mic.seqFailed s else s

/-- The packet as it is applied: the word of a feature unit takes its neighbour as it stands now (R302). -/
def nowPacket (s : State) (h : Held) : Packet :=
  match h.own with
  | .feature _ _ _ _ (some (e, g)) =>
    .writeWord (BitVec.ofNat 24 (0x200000 + e / 2 * 4)) (BitVec.ofNat 32 (Usb.fuWord s e g))
  | _ => h.pkt

/-- A held packet is applied or rejected: the state, and whether it was rejected (R149, R375).
DEDUCED, notes/assumptions/17.md. -/
def release1 (s : State) (h : Held) (more : Bool) : State × Bool :=
  let p := nowPacket s h
  let d := Arb.applyPacket s h.src p
  (match h.src with
  | .ctl =>
    let s := match d.rej with
      | some _ => d.st.set R.CBUS_IFLG_LATEREJ 1
      | none => d.st
    Arb.ctlDone { d with st := s } h.pec p Cbus.LATE
  | src =>
    let s := match d.rej with
      | some (r, a) => Arb.countRej d.st src r a
      | none => d.st
    let s := Arb.answer s src d.reply
    let s := if src = .rz then
        match s.rz.owed with
        | o :: r => rzAnswer (Rz.upd s (fun z => { z with owed := r })) o.1 o.2.1 o.2.2 d.reply
        | [] => s
      else s
    Arb.acted (settle s h.own d.rej.isSome more), d.rej.isSome)

/-- Held packets are applied in their order; one that a new COMMIT makes wait holds those behind it, and a rejected
one takes the rest of its request with it (`ended`: the requests so ended). DEDUCED, notes/assumptions/17.md. -/
def releaseAll (s : State) (ended : List Own) : List Held → State
  | [] => s
  | h :: r =>
    if ended.any (fun o => endsWith o h.own) then releaseAll s ended r
    else if Arb.holds s h.pkt then { s with acc := { s.acc with held := h :: r } }
    else
      let x := release1 s h (r.any (fun g => endsWith h.own g.own))
      releaseAll x.1 (if x.2 then h.own :: ended else ended) r

/-- The refill completes, and the held packets are released (R148, R149). -/
def refillDone (s : State) : State :=
  if s.on R.MTX_STAT_REFILL then
    let ws := (s.acc.staged.filter (fun e => isMxt e.addr)).map (fun e => (e.addr, e.val))
    let s := Mtx.refillDone s ws
    let held := s.acc.held
    releaseAll { s with acc := { s.acc with held := [] } } [] held
  else s

end Sys2Proof.Machine.Blk
end

