-- ==== Sys2Proof/Machine/CellOps.lean ====
section
/-! DEFINITION. Rhizome cells at their target and at the master, the reassembly of command packets, and the
reception of a frame (R312, R317, R325 to R333). -/
namespace Sys2Proof.Machine.Rz
open Sys2Proof Sys2Proof.Machine

/-! Cells at their target. -/

/-- The device takes part in its domain. -/
def active (s : State) : Bool := Blk.clocked s && s.on R.RZ_CTRL_EN && role s != OFF && role s != STRANGER

/-- The cell is of this device's domain. -/
def ours (s : State) (c : Cell) : Bool := c.srcdom.toNat == s.get R.RZ_CFG_DOMAIN

/-- This device is a target of the cell: by its address, or of a broadcast of another (R332). -/
def isTarget (s : State) (c : Cell) : Bool :=
  if c.bcast then c.src.toNat != addr s else c.dst.toNat == addr s

/-- The cell may be consumed here. -/
def takes (s : State) (c : Cell) : Bool := active s && isTarget s c && ours s c

/-- A cell at its target takes effect; one of another domain is dropped and counted (R331). -/
def taking (s : State) (c : Cell) (t : State) : State :=
  if takes s c then t else if active s ∧ isTarget s c then s.bump R.RZ_ERRCNT_BLKERR else s

/-- A packet whose bytes are complete goes to the arbiter as an RZ packet, and its sender is answered (R331). -/
def runPacket (s : State) (src tag : Nat) (broadcast : Bool) (bytes : List Byte) : State :=
  match Arb.parse bytes with
  | none => Blk.rzAnswer (Arb.countRej s .rz 9 0) src tag broadcast (.rejected 9 0)
  | some p =>
    if !Arb.served s .rz then Arb.answer s .rz .refused
    else if Arb.holds s p then
      let s := upd s (fun r => { r with owed := r.owed ++ [(src, tag, broadcast)] })
      Arb.answer (Arb.hold s ⟨.rz, .none, p, .plain⟩) .rz .notReady
    else
      let d := Arb.applyPacket s .rz p
      let s := match d.rej with
        | some (r, a) => Arb.countRej d.st .rz r a
        | none => d.st
      Arb.acted (Blk.rzAnswer (Arb.answer s .rz d.reply) src tag broadcast d.reply)

/-- The bytes of a packet whose every fragment is present. DEDUCED, notes/assumptions/59.md. -/
def whole (q : Reasm) : Option (List Byte) :=
  match q.last with
  | none => none
  | some n =>
    if (List.range (n + 1)).all (fun i => q.frags.any (fun f => f.1 == i)) then
      some ((List.range (n + 1)).flatMap (fun i =>
        match q.frags.find? (fun f => f.1 == i) with
        | some f => f.2
        | none => []))
    else none

/-- A fragment is collected, and a complete packet goes to the arbiter (R331). -/
def fragment (s : State) (c : Cell) : State :=
  let key (q : Reasm) : Bool := q.src == c.src.toNat && q.tag == c.tag.toNat
  let q := (s.rz.reasm.find? key).getD ⟨c.src.toNat, c.tag.toNat, [], none⟩
  let q := { q with
    frags := if q.frags.any (fun f => f.1 == c.frag.toNat) then q.frags else q.frags ++ [(c.frag.toNat, c.payload)]
    last := if c.last then some c.frag.toNat else q.last }
  let rest := s.rz.reasm.filter (fun q => !key q)
  match whole q with
  | some bs => runPacket (upd s (fun r => { r with reasm := rest })) q.src q.tag c.bcast bs
  | none => upd s (fun r => { r with reasm := rest ++ [q] })

/-- A CMD cell (R331). -/
def cmdCell (s : State) (c : Cell) : State := taking s c (fragment s c)

/-- A packet is still incomplete tREASM after its first fragment (R331). -/
def reasmTimeout (s : State) (src tag : Nat) : State :=
  if s.rz.reasm.any (fun q => q.src == src && q.tag == tag) then
    upd (s.bump R.RZ_ERRCNT_BLKERR)
      (fun r => { r with reasm := r.reasm.filter (fun q => !(q.src == src && q.tag == tag)) })
  else s

/-- A CLAIM cell at the master (R326). -/
def claimCell (s : State) (c : Cell) : State :=
  taking s c (if isMaster s then claimAt s c.src.toNat (runOf c.payload).1 (runOf c.payload).2 else s)

/-- A GRANT cell (R326): the map is updated, and a claim it answers is no longer outstanding. -/
def grantCell (s : State) (c : Cell) : State :=
  taking s c (if isMaster s then s
    else
      let p := c.payload
      let writer := leNat ((p.drop 3).take 2)
      let free := bit (leNat ((p.drop 5).take 1)) 0
      let s := applyGrant s (runOf p).1 (runOf p).2 writer free
      if writer = addr s then answered s (runOf p).1 (runOf p).2 else s)

/-- A REFUSE cell (R326). -/
def refuseCell (s : State) (c : Cell) : State :=
  taking s c (refused s (runOf c.payload).1 (runOf c.payload).2 (leNat ((c.payload.drop 3).take 1)))

/-- A RELEASE cell at the master (R326). -/
def releaseCell (s : State) (c : Cell) : State :=
  taking s c (if isMaster s then releaseAt s c.src.toNat (runOf c.payload).1 (runOf c.payload).2 else s)

/-- A MAPREQ cell at the master (R327). -/
def mapreqCell (s : State) (c : Cell) : State := taking s c (if isMaster s then mapReqAt s c.src.toNat else s)

/-- A RESULT cell (R332). -/
def resultCell (s : State) (c : Cell) : State := taking s c (result s c)

/-- An ERROR cell (R332). -/
def errorCell (s : State) (c : Cell) : State := taking s c (error s c)

/-- An EVENT cell at the master (R333). -/
def eventCell (s : State) (c : Cell) : State := taking s c (event s c.src.toNat)

/-- A RESET cell (R333): a FULL reset, cause 4, where RRSTEN is set and the sender is the current master. -/
def resetCell (s : State) (c : Cell) : State :=
  taking s c (if s.on R.RZ_CFG_RRSTEN ∧ c.src.toNat = masterAddr s then Reset.full s 4 else s)

/-- A BKANN cell at the master (R336, R337). -/
def bkannCell (s : State) (c : Cell) : State := taking s c (bkann s c.src.toNat)

/-- A cell at its target, by its TYPE (R328). -/
def consume (s : State) (typ : Nat) (c : Cell) : State :=
  match typ with
  | 1 => cmdCell s c
  | 2 => resultCell s c
  | 3 => errorCell s c
  | 4 => claimCell s c
  | 5 => grantCell s c
  | 6 => refuseCell s c
  | 7 => releaseCell s c
  | 8 => mapreqCell s c
  | 9 => eventCell s c
  | 10 => resetCell s c
  | 11 => bkannCell s c
  | _ => s

/-! Routing (R329, R330). -/

/-- No device has taken a cell: it is dropped and counted, and its sender gets an ERROR with STATUS 2 (R329, R340). -/
def unreachable (s : State) (c : Cell) : State :=
  if c.bcast then s
  else
    let s := s.bump R.RZ_ERRCNT_BLKERR
    let e := { mkCell s c.src.toNat false [2, 0] with tag := c.tag }
    if c.src.toNat = addr s then errorCell s { e with dst := c.src } else send s ERROR e

/-- A cell with OUT set is back at the master on the return pass of port `p`: found on no branch, it is
dropped (R329). DEDUCED, notes/assumptions/56.md. -/
def cameBack (s : State) (p : Nat) (typ : Nat) (c : Cell) : State :=
  if !s.rz.ring && s.on R.RZ_STAT_BRANCHED then
    if s.rz.strays.contains (p == 0, typ, c) then
      unreachable (upd s (fun r => { r with strays := r.strays.filter (fun e => e != (p == 0, typ, c)) })) c
    else upd s (fun r => { r with strays := (p == 1, typ, c) :: r.strays.filter (fun e => e.2 != (typ, c)) })
  else unreachable s c

/-- The master sends a cell on outbound. -/
def onward (s : State) (typ : Nat) (c : Cell) : State :=
  send (upd s (fun r => { r with strays := r.strays.filter (fun e => e.2 != (typ, c)) })) typ c

/-- A cell received in order with a good CRC is routed (R329). -/
def route (s : State) (p : Nat) (ret : Bool) (l : LinkCell) : State :=
  let c := l.cell
  let t := l.typ.toNat
  let back (s : State) : State := giveBack s p
  let forward (s : State) : State := upd s (fun r => { r with passing := r.passing ++ [⟨ret, t, l.out, c⟩] })
  if isMaster s then
    if l.out ∧ !ret ∧ p = 0 then forward s
    else back (if l.out then (if ret then cameBack s p t c else s)
      else if c.bcast then onward (consume s t c) t c
      else if c.dst.toNat = addr s then consume s t c
      else onward s t c)
  else if !ret ∧ isTarget s c then (if c.bcast then forward (consume s t c) else back (consume s t c))
  else forward s

/-- One cell of a received frame (R330): a bad CRC is NAKed and counted, a duplicate is discarded. -/
def takeCell (s : State) (p : Nat) (ret : Bool) (l : LinkCell) : State :=
  if !l.good then
    upd (s.bump (R.RZ_LINK_CRCERR p)) (fun r => { r with naks := r.naks.filter (fun q => q != p) ++ [p] })
  else if l.lseq.toNat ≠ Map.get 0 s.rz.rseq p then s
  else
    let s := upd s (fun r => { r with rseq := Map.set 0 r.rseq p ((l.lseq.toNat + 1) % 256) })
    route s p ret l

/-! Frames (R312, R317). -/

/-- A frame of this domain at a master that emits (R312, R321, R325, R338). -/
def atMaster (s : State) (p : Nat) (f : RzFrame) : State :=
  let s := masterHears s f
  if isMaster s ∧ !s.rz.listening ∧ f.muid.toNat = muid s then
    let d := f.accdly.toNat + s.get (R.RZ_HOPDLY_DLY p)
    let own (k : Nat) : Bool := s.rz.sent.any (fun e => e.1 == k)
    let s := if f.ret then upd s (fun r => { r with back := Map.insert p ((f.slots.filter (fun e =>
        !e.2.2 && !own e.1.toNat)).map (fun e => (e.1.toNat, e.2.1))) (Map.erase p r.back) })
      else s
    let s := if !f.ret then
        (if p = 0 then
          let s := (upd s (fun r => { r with ring := true, circA := none })).set R.RZ_STAT_BRANCHED 0
          sendOn (launch s 0 true 5) 0 { passed s 0 true f with ret := true }
         else s)
      else if p = 1 then upd s (fun r => { r with circB := some d })
      else if s.rz.ring then s
      else (upd s (fun r => { r with circA := some d })).set R.RZ_STAT_BRANCHED 1
    readSlots s f
  else s

/-- A frame of this domain at another device (R312, R313, R317, R325 to R327). -/
def atMember (s : State) (p : Nat) (f : RzFrame) : State :=
  if f.ret then
    if p = up s then s else passOn (if s.on R.RZ_STAT_MAPOK then readSlots s f else s) p f
  else if p = up s ∧ locked s p then
    let s := if f.acting ∧ s.get R.RZ_DOMINFO_MADDR ≠ f.maddr.toNat then s.set R.RZ_IFLG_FAILOVER 1 else s
    let s := checkMap (followHeader s p f)
    let s := if s.on R.RZ_STAT_MAPOK then writeSlots (readSlots s f) f.midx.toNat f.slots
      else upd s (fun r => { r with sent := [] })
    track (passOn s p f)
  else s

/-- A frame is received on port `p` (R317). DEDUCED, notes/assumptions/55.md. -/
def receive (s : State) (p : Nat) (f : RzFrame) : State :=
  if !Blk.clocked s ∨ !s.on R.RZ_CTRL_EN ∨ role s = OFF then s
  else
    let was := locked s p
    let s := header s p f.ok
    let foreign := f.ok && f.domain.toNat != s.get R.RZ_CFG_DOMAIN
    if foreign then
      let s := if !isMaster s ∧ role s ≠ STANDBY ∧ !f.ret ∧ p = up s ∧ locked s p then s.set R.RZ_STAT_ROLE STRANGER
        else s
      if role s = STRANGER then passStrange s p f else s
    else
      let s := if f.ok ∧ role s = STRANGER then s.set R.RZ_STAT_ROLE (cfgRole s) else s
      if role s = STRANGER then s
      else
        let s := if !f.ok then s else if isMaster s then atMaster s p f else atMember s p f
        let s := if !was ∧ locked s p ∧ p = up s then announce s else s
        let s := if f.ok then linkControl s p f else s
        f.cells.foldl (fun s l => takeCell s p f.ret l) s

end Sys2Proof.Machine.Rz
end

