-- ==== Sys2Proof/Machine/SeqOps.lean ====
section
/-! DEFINITION. The packets the device itself issues: the USB function's requests to the arbiter (R295, R299,
R302) and the wake sequencer (R218). -/
namespace Sys2Proof.Machine
open Sys2Proof

/-- Issue a packet as a source: the state, and whether it was rejected.  One that is held settles `own` later. -/
def issue (s : State) (src : Src) (own : Own) (p : Packet) : State × Bool :=
  let s := Arb.runOther s src own p
  (s, match Map.get .none s.acc.replies src.code with
    | .rejected _ _ => true
    | _ => false)

/-- Issue the write of one register word. -/
def issueWrite (s : State) (src : Src) (own : Own) (a d : Nat) : State × Bool :=
  issue s src own (.writeWord (BitVec.ofNat 24 a) (BitVec.ofNat 32 d))

/-- The address of STRM.CMD. -/
def strmCmd : Nat := 0x1020

/-- The code of a request in STRM.CMD (R116). -/
def reqCode : Req → Nat
  | .arm => 1
  | .start => 2
  | .stop => 3
  | .drain => 4
  | .release => 5

/-- The word that asks for a request on context `c` (R116). -/
def reqWord (c : Nat) (q : Req) : Nat := reqCode q * 0x100 + c

/-- Ask for a state change of a context through STRM.CMD (R102, R116). -/
def issueReq (s : State) (src : Src) (own : Own) (c : Nat) (q : Req) : State × Bool :=
  issueWrite s src own strmCmd (reqWord c q)

/-- A packet that settles this is held. -/
def waits (s : State) (o : Own) : Bool := s.acc.held.any (fun h => h.own == o)

end Sys2Proof.Machine

namespace Sys2Proof.Machine.Usb
open Sys2Proof Sys2Proof.Machine

/-- A request of the function's own to STRM.CMD; a rejection sets SEQFAIL (R295). -/
def autoReq (s : State) (c : Nat) (q : Req) : State :=
  let r := issueReq s .usb .auto c q
  if r.2 then r.1.set R.USBD_IFLG_SEQFAIL 1 else r.1

/-- The context of a direction's selected setting is left: with AUTOSTART by a STOP, else it stalls (R295). -/
def leave (s : State) (c : Nat) : State := if s.on R.USB_CFG_AUTOSTART then autoReq s c .stop else deselect s c

/-- SET_CONFIGURATION (R295): configuration 0 stalls the running TYPE 2 contexts, and the function no longer being
configured, REF9 is not available (R60); configuration 1 selects setting 0 of both interfaces.
DEDUCED, notes/assumptions/61.md. -/
def setConfiguration (s : State) (on : Bool) : State :=
  if state s ≠ ADDRESSED ∧ state s ≠ CONFIGURED then s
  else if on then
    let bound := (boundCtx s false).toList ++ (boundCtx s true).toList
    let s := bound.foldl leave (noAlts s)
    answer ((s.set R.USB_STAT_STATE CONFIGURED).set R.USB_IFLG_CONFIG 1) .applied
  else
    let s := if state s = CONFIGURED then Clkm.refFail s 9 else s
    answer (((noAlts (stallAll s)).set R.USB_STAT_STATE ADDRESSED).set R.USB_IFLG_CONFIG 1) .applied

/-- SET_INTERFACE of interface 1 or 2 (R295).  A setting the current speed does not offer is answered with
STALL. DEDUCED, notes/assumptions/61.md. -/
def setInterface (s : State) (isIn : Bool) (k : Nat) : State :=
  if state s ≠ CONFIGURED ∨ (k ≠ 0 ∧ alt s isIn k = none) then stallReply s
  else
    let old := selected s isIn
    let prev := boundCtx s isIn
    let s := s.set (if isIn then R.USBD_STAT_ALTIN else R.USBD_STAT_ALTOUT) k
    let s := answer (if k = 0 then s else s.set R.USB_IFLG_ALT 1) .applied
    let s := match prev with
      | some c =>
        if old = k then s else leave s c
      | none => s
    match alt s isIn k with
    | none => s
    | some a =>
      if k = 0 then s
      else
        let c := Strm.altCtx s isIn k
        let s := reselect s c a
        if s.on R.USB_CFG_AUTOSTART then
          autoReq (if s.idle c then autoReq s c .arm else s) c .start
        else s

/-- SET_CUR of the clock selector (R299): a USB packet that writes CLKM.SELCFG with MODE 2 and MANREF, the
other fields as they stand. -/
def setSelector (s : State) (pin : Nat) : State :=
  if state s ≠ CONFIGURED ∨ !s.on R.USB_CFG_CSXWR ∨ pin = 0 ∨ s.usb.sources.length < pin then stallReply s
  else
    let ref := csRef s (s.usb.sources.getD (pin - 1) 1)
    if ref = 15 then stallReply s
    else
      let r := issueWrite s .usb .selector 0x420 (2 + 256 * ref + 65536 * s.get R.CLKM_SELCFG_DISAGREE)
      if r.2 then stallReply r.1 else answer r.1 (if waits r.1 .selector then .notReady else .applied)

/-- The packets of a SET_CUR that changes computed GAINs (R302): one MXT word each, with a COMMIT of the MTX
page's group where it has one; whether one of them was rejected.  `own` says whose word it is. -/
def fuIssue (own : Option (Nat × Nat) → Own) (s : State) : List (Nat × Nat) → State × Bool
  | [] => (s, false)
  | (e, g) :: r =>
    let w := issueWrite s .usb (own (some (e, g))) (0x200000 + e / 2 * 4) (fuWord s e g)
    if w.2 then w
    else
      let grp := Arb.cgrp w.1 .mtx 0
      fuIssue own (if grp < 8 then Arb.runOther w.1 .usb (own none) (.commit (BitVec.ofNat 8 (2 ^ grp))) else w.1) r

/-- SET_CUR of Mute or Volume of a channel of a feature unit (R301, R302). -/
def setFeatureUnit (s : State) (unit ch : Nat) (mute : Bool) (v : Nat) : State :=
  if state s ≠ CONFIGURED ∨ 32 < ch then stallReply s
  else
    let h := hostVal s unit ch
    let new := if mute then setHostVal s unit ch (v % 2) h.2 else setHostVal s unit ch h.1 v
    let r := fuIssue (.feature unit ch h.1 h.2) new (fuChanges s new unit)
    if r.2 then stallReply (setHostVal r.1 unit ch h.1 h.2)
    else answer r.1 (if r.1.acc.held.any (fun e => ofFeature e.own) then .notReady else .applied)

/-- Two bytes, low first. -/
def le2 (n : Nat) : List Byte := (wordBytes n).take 2

/-- The answer to GET_CUR (R299 to R301). -/
def getCur (s : State) (c : UsbCtl) : State :=
  if state s ≠ CONFIGURED then stallReply s
  else
    match c with
    | .samFreq => answer s (.data (le4 (s.get R.USBD_SAMFREQ_RATE)))
    | .clockValid k =>
      if s.usb.sources.contains (k.val + 1) then answer s (.data [BitVec.ofNat 8 (b2n (csValid s (k.val + 1)))])
      else stallReply s
    | .clockSelector => answer s (.data [BitVec.ofNat 8 (currentPin s)])
    | .mute u ch =>
      if ch.toNat ≤ 32 then answer s (.data [BitVec.ofNat 8 (hostVal s (b2n u) ch.toNat).1]) else stallReply s
    | .volume u ch =>
      if ch.toNat ≤ 32 then answer s (.data (le2 (hostVal s (b2n u) ch.toNat).2)) else stallReply s

/-- The answer to GET_RANGE: the rates of the current speed as triples, or the range of a Volume (R300,
R301).  Other controls have none. DEDUCED, notes/assumptions/62.md. -/
def getRange (s : State) (c : UsbCtl) : State :=
  if state s ≠ CONFIGURED then stallReply s
  else
    match c with
    | .samFreq =>
      let rs := rateList s
      answer s (.data (le2 rs.length ++ rs.flatMap (fun r => le4 r ++ le4 r ++ le4 0)))
    | .volume _ ch => if ch.toNat ≤ 32 then answer s (.data volRange) else stallReply s
    | _ => stallReply s

end Sys2Proof.Machine.Usb

namespace Sys2Proof.Machine.Mic
open Sys2Proof Sys2Proof.Machine

/-- The step after step `k` that has something to do, or 0: 3 a COMMIT, 4 and 5 ARM and START of the verifier
context, 6 and 7 of the delivery context. -/
def nextSeq (s : State) (k : Nat) : Nat :=
  (([3, 4, 5, 6, 7].filter (fun j => decide (k < j) &&
    (if j = 3 then decide (Arb.cgrp s .sched 0 < 8)
     else if j ≤ 5 then s.on R.WAKE_VCTX_VEN else s.on R.WAKE_VCTX_DEN))).head?).getD 0

/-- The outcome of a sequencer packet: the next step, or the failure. -/
def seqNext (r : State × Bool) (k : Nat) : State :=
  if r.2 then seqFailed r.1 else upd r.1 (fun m => { m with seq := nextSeq r.1 k })

/-- The wake sequencer issues its next command (R218). DESIGN CHOICE, notes/assumptions/65.md. -/
def seqStep (s : State) : State :=
  if stage s ≠ FROND ∨ s.mode < 3 ∨ s.on R.SYS_STAT_MOVING ∨ waits s .sequencer then s
  else
    let slot := s.get R.WAKE_VSEQ_VSLOT
    let v := s.get R.WAKE_VCTX_CTX
    let d := s.get R.WAKE_VCTX_DCTX
    match s.mic.seq with
    | 1 =>
      let r := issueWrite s .eng .sequencer 0x1924 (s.get R.WAKE_VSEQ_VHDR + 2 ^ 30 * slot)
      if r.2 then seqFailed r.1 else upd r.1 (fun m => { m with seq := 2 })
    | 2 =>
      if s.get R.SCHED_ADMSTAT_STATUS = 2 ∧ s.get R.SCHED_ADMSTAT_SLOT = slot then
        seqNext (issueWrite s .eng .sequencer 0x1934 (2 ^ slot)) 2
      else if s.get R.SCHED_ADMSTAT_STATUS = 1 then s
      else seqFailed s
    | 3 => seqNext (issue s .eng .sequencer (.commit (BitVec.ofNat 8 (2 ^ Arb.cgrp s .sched 0)))) 3
    | 4 => seqNext (issueReq s .eng .sequencer v .arm) 4
    | 5 => seqNext (issueReq s .eng .sequencer v .start) 5
    | 6 => seqNext (issueReq s .eng .sequencer d .arm) 6
    | 7 => seqNext (issueReq s .eng .sequencer d .start) 7
    | _ => s

end Sys2Proof.Machine.Mic
end

