-- ==== Sys2Proof/Machine/DescOps.lean ====
section
/-! DEFINITION. The descriptor records of a USBDESC section and what a configuration descriptor in them says (R291,
R413).  R413 takes the layout of a descriptor from the USB specification: PRESUMED of USB 2.0 and Audio Class 2.0,
notes/assumptions/25.md. -/
namespace Sys2Proof.Machine.Desc
open Sys2Proof Sys2Proof.Machine

/-- Byte `i` of a descriptor. -/
def byte (d : List Byte) (i : Nat) : Nat := (d.getD i 0).toNat

/-- The 16-bit field at byte `i` of a descriptor. -/
def half (d : List Byte) (i : Nat) : Nat := byte d i + 256 * byte d (i + 1)

/-- The records of a body: KIND, INDEX and the descriptor; `none` where one is cut off or has another KIND (R413). -/
def records : Nat → List Byte → Option (List (Nat × Nat × List Byte))
  | _, [] => some []
  | 0, _ => none
  | fuel + 1, b =>
    let n := half b 2
    if b.length < 4 + n ∨ byte b 0 = 0 ∨ 7 < byte b 0 then none
    else (records fuel (b.drop (4 + n))).map (fun r => (byte b 0, byte b 1, (b.drop 4).take n) :: r)

/-- The first record of a kind. -/
def ofKind (rs : List (Nat × Nat × List Byte)) (k : Nat) : Option (List Byte) :=
  (rs.find? (fun r => r.1 == k)).map (fun r => r.2.2)

/-- The descriptors of a configuration, each with the interface and alternate setting it stands in. -/
def split : Nat → Nat → Nat → List Byte → Option (List (Nat × Nat × List Byte))
  | _, _, _, [] => some []
  | 0, _, _, _ => none
  | fuel + 1, i, k, b =>
    let n := byte b 0
    if n < 2 ∨ b.length < n then none
    else
      let here := if byte b 1 = 4 then (byte b 2, byte b 3) else (i, k)
      (split fuel here.1 here.2 (b.drop n)).map (fun r => (here.1, here.2, b.take n) :: r)

/-- The class and subclass of interfaces 0 to 4; the subclass counts for audio alone. -/
def classes : List (Nat × Nat) := [(1, 1), (1, 2), (1, 2), (3, 0), (0xFF, 0)]

/-- An interface descriptor is one of the table's: numbers 0 to 4, alternate settings 0 to 8 of the streaming ones. -/
def interfaceOk (d : List Byte) : Bool :=
  match classes[byte d 2]? with
  | some c => byte d 5 == c.1 && (c.1 != 1 || byte d 6 == c.2) &&
      decide (byte d 3 ≤ (if c = (1, 2) then 8 else 0))
  | none => false

/-- The endpoint addresses of an alternate setting of an interface. -/
def endpointsAt (i k : Nat) : List Nat :=
  match i with
  | 0 => [0x83]
  | 1 => if k = 0 then [] else [0x01, 0x81]
  | 2 => if k = 0 then [] else [0x82]
  | 3 => [0x84]
  | _ => [0x85]

/-- The Audio Control entities of a configuration: the class-specific descriptors of interface 0 but its header. -/
def entities (ds : List (Nat × Nat × List Byte)) : List (List Byte) :=
  (ds.filter (fun e => e.1 == 0 && byte e.2.2 1 == 0x24 && byte e.2.2 2 != 1)).map (fun e => e.2.2)

/-- An entity of a kind: subtype 0x02 and 0x03 a terminal, 0x06 a feature unit, 0x0A a clock source, 0x0B the selector. -/
def entity (es : List (List Byte)) (sub id : Nat) : Option (List Byte) :=
  es.find? (fun d => byte d 2 == sub && byte d 3 == id)

/-- The clock sources in the order of the selector's pins. -/
def pins (es : List (List Byte)) : List Nat :=
  match entity es 0x0B 0x09 with
  | some d => (List.range (byte d 4)).map (fun i => byte d (5 + i))
  | none => []

/-- The type of a USB streaming terminal. -/
def usbStreaming : Nat := 0x0101

/-- The entities are those of the table of R291. -/
def entitiesOk (es : List (List Byte)) : Bool :=
  let srcs := (es.filter (fun d => byte d 2 == 0x0A)).map (fun d => byte d 3)
  let at' (sub id : Nat) (f : List Byte → Bool) : Bool := ((entity es sub id).map f).getD false
  decide (srcs ≠ []) && decide (srcs.Nodup) && decide ((pins es).Nodup) &&
    srcs.all (fun k => decide (1 ≤ k) && decide (k ≤ 8) && (pins es).contains k) &&
    (pins es).all (fun k => srcs.contains k) &&
    at' 0x02 0x10 (fun d => half d 4 == usbStreaming && byte d 7 == 0x09) &&
    at' 0x06 0x11 (fun d => byte d 4 == 0x10) &&
    at' 0x03 0x12 (fun d => byte d 7 == 0x11 && byte d 8 == 0x09) &&
    at' 0x02 0x20 (fun d => byte d 7 == 0x09) &&
    at' 0x06 0x21 (fun d => byte d 4 == 0x20) &&
    at' 0x03 0x22 (fun d => half d 4 == usbStreaming && byte d 7 == 0x21 && byte d 8 == 0x09) &&
    decide (es.length = srcs.length + 7)

/-- A configuration keeps to the table of R291. -/
def configOk (b : List Byte) : Bool :=
  match split b.length 9 0 b with
  | none => false
  | some ds =>
    let faces := (ds.filter (fun e => byte e.2.2 1 == 4)).map (fun e => e.2.2)
    let keys := faces.map (fun d => (byte d 2, byte d 3))
    byte b 1 == 2 && half b 2 == b.length && faces.all interfaceOk && decide (keys.Nodup) &&
      (List.range 5).all (fun i => keys.contains (i, 0)) &&
      keys.all (fun q =>
        ((ds.filter (fun e => e.1 == q.1 && e.2.1 == q.2 && byte e.2.2 1 == 5)).map (fun e => byte e.2.2 2)).mergeSort
          == endpointsAt q.1 q.2) &&
      entitiesOk (entities ds)

/-- The alternate settings of a configuration, with their rate lists. -/
def altsOf (b : List Byte) (high : Bool) (rates : Bool → Nat → List Nat) : List Alt :=
  match split b.length 9 0 b with
  | none => []
  | some ds =>
    let face (i k sub : Nat) : List Byte :=
      ((ds.find? (fun e => e.1 == i && e.2.1 == k && byte e.2.2 1 == 0x24 && byte e.2.2 2 == sub)).map (fun e => e.2.2)).getD []
    (ds.filter (fun e => byte e.2.2 1 == 4 && (e.1 == 1 || e.1 == 2) && e.2.1 != 0)).map (fun e =>
      ⟨e.1 == 2, high, e.2.1, byte (face e.1 e.2.1 1) 10, byte (face e.1 e.2.1 2) 4, byte (face e.1 e.2.1 2) 5,
        rates (e.1 == 2) e.2.1⟩)

/-- The terminals of a configuration by ID, with their types. -/
def terminalsOf (b : List Byte) : List (Nat × Nat) :=
  match split b.length 9 0 b with
  | none => []
  | some ds =>
    ((entities ds).filter (fun d => byte d 2 == 2 || byte d 2 == 3)).map (fun d => (byte d 3, half d 4))

/-- The clock sources of a configuration in the order of the selector's pins. -/
def sourcesOf (b : List Byte) : List Nat :=
  match split b.length 9 0 b with
  | none => []
  | some ds => pins (entities ds)

end Sys2Proof.Machine.Desc
end

