-- ==== Sys2Proof/Machine/BootOps.lean ====
section
/-! DEFINITION. Boot: the sections of the selected image, their register entries, the graphs it loads, and the
state the boot ends in (R291, R293, R363, R406 to R414). -/
namespace Sys2Proof.Machine.Boot
open Sys2Proof Sys2Proof.Machine

/-! Register entries (R411). -/

/-- An entry or a section is skipped and counted. -/
def skip (s : State) : State := (s.bump R.NVM_BOOTSKIP_COUNT).set R.NVM_IFLG_BOOTSKIP 1

/-- The last reset was a FULL or a WDG reset (R403). -/
def afterFull (s : State) : Bool := decide (3 ≤ s.get R.SYS_RSTCAUSE_LAST)

/-- A register that only starts something: every field that software can write is WS or WO. -/
def onlyStarts (r : Reg) : Bool :=
  (r.fields.filter (fun q => Arb.writable q.acc)).all (fun q => q.acc == .ws || q.acc == .wo)

/-- The section types cover these pages (R410). -/
def covers (typ : Nat) (p : Pg) : Bool :=
  match typ with
  | 5 => p == .clkm || p == .pll
  | 6 => p == .cdac
  | 7 => p == .rz || p == .rzslot || p == .slt
  | 8 => p == .cbus
  | _ => true

/-- A register entry takes effect (R411): an RWS field directly, the others as a write makes them. -/
def writeEntry (s : State) (p : Pg) (n off : Nat) (r : Reg) (a d : Nat) : State :=
  let win := View.winOf s 3 p off
  let s := Arb.writeReg s .eng p n off r a d
  if r.fields.any (fun q => q.acc == .rws) then
    let s := { s with acc := { s.acc with staged := s.acc.staged.filter (fun e => !(e.addr == a && e.win == win)) } }
    Blk.storeTaken s ⟨0xF, a, win, d⟩
  else s

/-- One register entry of a section; after a FULL reset one of PRIV.POLICY is passed over uncounted (R206, R406,
R411). -/
def entry (typ : Nat) (s : State) (e : Nat × Nat) : State :=
  let a := e.1
  if a = 0x3120 ∧ covers typ .priv ∧ afterFull s then s
  else if 2 ^ 24 ≤ a ∨ (Arb.wordCheck s .eng false a e.2).isSome then skip s
  else
    match locate a with
    | .reg p n off r =>
      if !covers typ p ∨ onlyStarts r then skip s
      else writeEntry s p n off r a e.2
    | .mxt =>
      if typ ≠ 1 then skip s
      else { s with mtx := { s.mtx with half0 := Mtx.putWord s.mtx.half0 a e.2, half1 := Mtx.putWord s.mtx.half1 a e.2 } }
    | _ => skip s

/-- Pair the words of a section body. -/
def pairs : List Nat → List (Nat × Nat)
  | a :: d :: r => (a, d) :: pairs r
  | _ => []

/-- A section of register entries. DEDUCED, notes/assumptions/42.md. -/
def entries (s : State) (typ : Nat) (body : List Byte) : State := (pairs (toWords body)).foldl (entry typ) s

/-- The select registers of R136: what the entries selected with them does not outlive the load. -/
def selectors : List (Pg × Nat) :=
  [(.asrc, 0x20), (.grp, 0x38), (.mtx, 0x34), (.mtx, 0x3C), (.sched, 0x38), (.peat, 0x2C), (.spkp, 0x20),
    (.excur, 0x20), (.usbd, 0x3C), (.rz, 0x54)]

/-- Put the select registers that the entries used back to their reset value. -/
def unselect (s : State) : State :=
  { s with regs := Map.keep (fun k =>
      !(selectors.any (fun e => k / 32 == Arb.pageAddr e.1 0 + e.2 + 16777216 * 4))) s.regs }

/-! The other sections. -/

/-- An alternate setting obeys R293. -/
def altOk (a : Alt) : Bool :=
  decide (1 ≤ a.k) && decide (a.k ≤ 8) && decide (1 ≤ a.nch) && decide (2 ≤ a.subslot) && decide (a.subslot ≤ 4) &&
  if a.high then
    decide (a.nch ≤ 32) && a.rates.all (fun r => decide (a.nch * a.subslot * (r / 8000 + 1) ≤ 1024))
  else
    decide (a.nch ≤ 8) && a.rates.all (fun r => (r == 44100 || r == 48000) &&
      decide (a.nch * a.subslot * (r / 1000 + 1) ≤ 1023))

/-- The USB part with the ROM default descriptors (R291); the IDs are those of the factory area.
DESIGN CHOICE, notes/assumptions/64.md. -/
def romDesc (s : State) : State :=
  let ids := s.word (Nvm.factory + 0x10)
  let alts := [false, true].flatMap (fun i =>
    [(⟨i, true, 1, 2, 4, 24, [48000]⟩ : Alt), ⟨i, false, 1, 2, 2, 16, [48000]⟩])
  Usb.upd (s.set R.USB_STAT_DESCDEF 1) (fun u => { u with
    alts := alts, sources := [1], vendor := ids % 65536, product := ids / 65536, terminals := [], records := [] })

/-- The USBDESC section: its records, with a device, a high-speed configuration and a BOS descriptor among them, are
taken where its configurations keep to the table of R291 and its settings to R293 (R291, R293, R413). -/
def usbDesc (s : State) (body : List Byte) : State :=
  match Desc.records body.length body with
  | none => skip s
  | some rs =>
    match Desc.ofKind rs 1, Desc.ofKind rs 2, Desc.ofKind rs 5 with
    | some dev, some hs, some _ =>
      let fs := (Desc.ofKind rs 3).toList
      let alts := (hs :: fs).zipIdx.flatMap (fun e =>
        Desc.altsOf e.1 (e.2 == 0) (fun isIn k => Config.usbRates body isIn (e.2 == 0) k))
      if body.length ≤ 8192 ∧ (hs :: fs).all Desc.configOk ∧ alts.all altOk then
        Usb.upd (s.set R.USB_STAT_DESCDEF 0) (fun u => { u with
          alts := alts, sources := Desc.sourcesOf hs, vendor := Desc.half dev 8, product := Desc.half dev 10
          terminals := Desc.terminalsOf hs, records := rs })
      else skip s
    | _, _, _ => skip s

/-- The KERNELSET section (R163, R410): copied to KSETBASE and put into service, or skipped. -/
def kernelSet (s : State) (b : Nat) (e : Nvm.Sect) : State :=
  let base := s.get R.ENG_KSETBASE_OFF
  if thallusSize < base + e.size then skip s
  else
    let s1 := Nvm.copyTo s b e 0 base
    match Sched.readSet s1 base with
    | some r => (Sched.meetSet { s1 with eng := { s1.eng with set := r.1 } } base).set R.ENG_KSETVER_VER r.2
    | none => skip s

/-- A GRAPH section (R414): its body is copied, and with LOAD it waits for its GLOAD. -/
def graph (s : State) (b : Nat) (e : Nvm.Sect) : State :=
  let a := Nvm.bankBase b + e.off
  let dst := s.word a
  let slot := (s.byte (a + 8)).toNat
  if e.size < 16 ∨ dst % 64 ≠ 0 ∨ 3 < slot ∨ thallusSize < dst + (e.size - 16) then skip s
  else
    let hdr := dst + s.word (a + 4)
    let ld := (s.byte (a + 9)).toNat % 2 = 1
    let s := Nvm.copyTo s b e 16 dst
    if ld then Nvm.upd s (fun v => { v with graphs := v.graphs ++ [(slot, hdr, false)] }) else s

/-- One section. -/
def applySect (s : State) (b : Nat) (e : Nvm.Sect) : State :=
  let body := s.bytes (Nvm.bankBase b + e.off) e.size
  match e.typ with
  | 2 => usbDesc s body
  | 3 => kernelSet s b e
  | 4 => graph s b e
  | t => entries s t body

/-- The sections of the image in bank `b` in the order of R407; CBADDR is not applied at a FULL reset (R406). -/
def sections (s : State) (b : Nat) : State :=
  [5, 8, 7, 6, 1, 2, 3, 4].foldl (fun s t =>
    if t = 8 ∧ afterFull s then s
    else
      let s := ((Nvm.sects s b).filter (fun e => e.typ == t)).foldl (fun s e => applySect s b e) s
      if t = 1 then
        Nvm.upd s (fun v => { v with engines := (List.range 16).filter (fun n => s.on (R.ENGN_CTRL_EN n)) })
      else s) s

/-- The factory area is read at POR and PIN (R407, R408). -/
def factoryRead (s : State) : State :=
  Nvm.loadTrims (if afterFull s then s else s.setB R.SYS_STAT_OTPBAD (!Nvm.otpOk s))

/-- Both banks are checked and the image is selected (R412). -/
def choose (s : State) : State :=
  let s := Nvm.setValid (Nvm.setValid s 0 (Nvm.valid s 0)) 1 (Nvm.valid s 1)
  match Nvm.select s with
  | some b => (s.set R.SYS_STAT_ROMDEF 0).set R.SYS_STAT_BOOTBANK b
  | none => (s.set R.SYS_STAT_ROMDEF 1).set R.SYS_STAT_BOOTBANK 0

/-- Steps 5 and 6 of R407: the load is complete, the mode is IDLE, and sources are served; then a mode that the image
asked for is requested (R397). DEDUCED, notes/assumptions/50.md. -/
def finish (s : State) : State :=
  let s := Cdac.powerUp (Clkm.refsFollowEnable s)
  let s := (((s.set R.SYS_STAT_BOOTDONE 1).set R.SYS_IFLG_BOOT 1).set R.SYS_STAT_MODE Pwr.IDLE).set R.SYS_STAT_MOVING 0
  let q := s.pwr.queued
  let s := { s with pwr := { PwrSt.zero with booting := false } }
  let s := if afterFull s then s else Cbus.probeStart s
  let s := if s.on R.RZ_CTRL_EN ∧ Rz.role s = Rz.OFF then Rz.enable s else s
  Pwr.queuedNow (Out.follow (Jack.follow (Mic.follow (Usb.attach s)))) q

/-- BOOT_DONE: the boot runs to its end (R407). -/
def boot (s : State) : State :=
  if !s.pwr.booting ∨ s.mode = 0 then s
  else
    let s := romDesc (choose (factoryRead s))
    let s := if s.on R.SYS_STAT_ROMDEF then s else unselect (sections s (s.get R.SYS_STAT_BOOTBANK))
    finish s

/-! The graphs of the image (R414). -/

/-- The next GRAPH section with LOAD gets its GLOAD, once the kernel set is loaded and the engines that the
PRELOAD section enables have left SELFTEST; one candidate at a time. DEDUCED, notes/assumptions/41.md. -/
def graphLoad (s : State) : State :=
  match s.nvm.graphs with
  | (slot, hdr, false) :: rest =>
    let word := hdr + 2 ^ 30 * slot
    if s.pwr.booting ∨ s.eng.set = [] ∨
        s.nvm.engines.any (fun n => Sched.engState s n == Sched.SELFTEST) ∨
        s.get R.SCHED_ADMSTAT_STATUS = 1 ∨ s.get R.SCHED_GSWITCH_SLOT ≠ 0 ∨
        s.acc.taken.any (fun t => t.addr == 0x1934) then s
    else if hdr ≥ 2 ^ 22 ∨ (Arb.wordCheck s .eng false 0x1924 word).isSome then
      Nvm.upd (skip s) (fun v => { v with graphs := rest })
    else Nvm.upd (Sched.gload s word) (fun v => { v with graphs := (slot, hdr, true) :: rest })
  | _ => s

/-- Admission of a candidate that GRAPH_SECTION_LOAD issued has ended: GSWITCH for the next boundary, without a
COMMIT, or the section is counted as skipped (R414). -/
def graphAdmitted (s : State) : State :=
  match s.nvm.graphs with
  | (slot, hdr, true) :: rest =>
    if !s.eng.cand.any (fun c => c.slot == slot && c.hdr == hdr) then s
    else
      let s1 := Nvm.upd s (fun v => { v with graphs := rest })
      if s.get R.SCHED_ADMSTAT_STATUS = 2 then
        { s1 with acc := { s1.acc with taken := s1.acc.taken ++ [⟨0xF, 0x1934, 0, 2 ^ slot⟩] } }
      else if s.get R.SCHED_ADMSTAT_STATUS = 3 then skip s1 else s
  | _ => s

/-- The checker finishes with the candidate (R170 to R174, R414). -/
def admission (s : State) : State := graphAdmitted (Sched.check s)

end Sys2Proof.Machine.Boot
end

