-- ==== Sys2Proof/Machine/ArbCmds.lean ====
section
/-! DEFINITION. The command packets of the four sources, the writes that have no row of their own and the block
reset (R33 to R51, R374 to R383); and when events of the device's own happen. -/
namespace Sys2Proof.Machine
open Sys2Proof

/-! When events happen. -/

/-- An event of CORE, ANA or PWR: in IDLE and ACTIVE. DESIGN CHOICE, notes/assumptions/2.md. -/
def whenClocked (s : State) (f : State → State) : Host.Outcome State Fault Refusal :=
  .next (if Blk.clocked s then f s else s)

/-- An event of a booted device, in any mode. DESIGN CHOICE, notes/assumptions/2.md. -/
def whenBooted (s : State) (f : State → State) : Host.Outcome State Fault Refusal :=
  .next (if !s.pwr.booting && s.mode != 0 then f s else s)

/-- An event of a device with power: in every mode but OFF. DESIGN CHOICE, notes/assumptions/2.md. -/
def whenPowered (s : State) (f : State → State) : Host.Outcome State Fault Refusal :=
  .next (if s.mode != 0 then f s else s)

/-! Packets. -/

/-- WRITE_WORD (R33, R36, R44). -/
def execWriteWord (src : Src) (pec : Pec) (addr : Addr) (data : Word) (s : State) : Host.Outcome State Fault Refusal :=
  .next (Arb.run s src pec (.writeWord addr data))

/-- READ_WORD (R33, R38). -/
def execReadWord (src : Src) (pec : Pec) (addr : Addr) (s : State) : Host.Outcome State Fault Refusal :=
  .next (Arb.run s src pec (.readWord addr))

/-- WRITE_BLOCK (R33, R37). -/
def execWriteBlock (src : Src) (pec : Pec) (addr : Addr) (data : List Byte) (s : State) :
    Host.Outcome State Fault Refusal :=
  .next (Arb.run s src pec (.writeBlock addr data))

/-- READ_BLOCK (R33, R38). -/
def execReadBlock (src : Src) (pec : Pec) (addr : Addr) (len : Nat) (s : State) : Host.Outcome State Fault Refusal :=
  .next (Arb.run s src pec (.readBlock addr len))

/-- COMMIT (R42 to R51). -/
def execCommit (src : Src) (pec : Pec) (mask : BitVec 8) (s : State) : Host.Outcome State Fault Refusal :=
  .next (Arb.run s src pec (.commit mask))

/-- READ_STATUS (R380). -/
def execReadStatus (src : Src) (pec : Pec) (s : State) : Host.Outcome State Fault Refusal :=
  .next (Arb.run s src pec .readStatus)

/-- FIFO_WRITE (R33). -/
def execFifoWrite (src : Src) (pec : Pec) (addr : Addr) (data : List Byte) (s : State) :
    Host.Outcome State Fault Refusal :=
  .next (Arb.run s src pec (.fifoWrite addr data))

/-- FIFO_READ (R33, R383). -/
def execFifoRead (src : Src) (pec : Pec) (addr : Addr) (len taken : Nat) (s : State) :
    Host.Outcome State Fault Refusal :=
  .next (Arb.run s src pec (.fifoRead addr len taken))

/-- PING (R381). -/
def execPing (src : Src) (pec : Pec) (s : State) : Host.Outcome State Fault Refusal :=
  .next (Arb.run s src pec .ping)

/-- RZ_FORWARD (R332, R379). -/
def execRzForward (src : Src) (pec : Pec) (dst : BitVec 16) (enclosed : List Byte) (s : State) :
    Host.Outcome State Fault Refusal :=
  .next (Arb.run s src pec (.rzForward dst enclosed))

/-- FWD_RESULT (R379). -/
def execFwdResult (src : Src) (pec : Pec) (off : BitVec 16) (len : Nat) (s : State) :
    Host.Outcome State Fault Refusal :=
  .next (Arb.run s src pec (.fwdResult off len))

/-! Register writes. -/

/-- A write of a register that has no row of its own (R36, R44). -/
def execRegisterWrite (src : Src) (addr : Addr) (data : Word) (s : State) : Host.Outcome State Fault Refusal :=
  .next (Arb.write s src addr.toNat data.toNat)

/-- CTRL.SRST of a page is set, the other bits of CTRL as they stand (R30). -/
def execBlkReset (src : Src) (page : Byte) (s : State) : Host.Outcome State Fault Refusal :=
  .next (Arb.modify s src (256 * page.toNat + 4) 2 0)

end Sys2Proof.Machine
end

