-- ==== Sys2Proof/Machine/StrmCmds.lean ====
section
/-! DEFINITION. The block boundary, the stream contexts, the serial ports and rate reconciliation (R15, R88 to
R138). -/
namespace Sys2Proof.Machine
open Sys2Proof

/-- A block boundary (R15). -/
def execBlockBoundary (ratios : List (Byte × Word × Int)) (s : State) : Host.Outcome State Fault Refusal :=
  .next (Blk.boundary s ratios)

/-! STRM.CMD (R102). -/

/-- ARM of a context. -/
def execArm (src : Src) (ctx : Byte) (s : State) : Host.Outcome State Fault Refusal :=
  .next (Arb.write s src strmCmd (reqWord ctx.toNat .arm))

/-- START of a context. -/
def execStart (src : Src) (ctx : Byte) (s : State) : Host.Outcome State Fault Refusal :=
  .next (Arb.write s src strmCmd (reqWord ctx.toNat .start))

/-- STOP of a context. -/
def execStop (src : Src) (ctx : Byte) (s : State) : Host.Outcome State Fault Refusal :=
  .next (Arb.write s src strmCmd (reqWord ctx.toNat .stop))

/-- DRAIN of a context. -/
def execDrain (src : Src) (ctx : Byte) (s : State) : Host.Outcome State Fault Refusal :=
  .next (Arb.write s src strmCmd (reqWord ctx.toNat .drain))

/-- RELEASE of a context. -/
def execRelease (src : Src) (ctx : Byte) (s : State) : Host.Outcome State Fault Refusal :=
  .next (Arb.write s src strmCmd (reqWord ctx.toNat .release))

/-! Frames (R117, R119). -/

/-- A frame arrives from a serial port, a PDM group or the analog inputs; other contexts are written by their
own commands. DEDUCED, notes/assumptions/27.md. -/
def frameArrive (s : State) (c : Nat) (f : Frame) (clip : Bool) : State :=
  match s.cType c with
  | 1 => Strm.arrive (Strm.cleanFrame s c) c (Strm.entering s (s.cInst c) f)
  | 4 => Strm.arrive s c (Mic.gateFrame s c f)
  | 5 => if s.cSink c then s else
      let r := Ain.arrive s c f clip
      Strm.arrive r.2 c r.1
  | _ => s

/-- FRAME_ARRIVAL. -/
def execFrameArrival (ctx : Byte) (frame : List Sample) (clip : Bool) (s : State) :
    Host.Outcome State Fault Refusal :=
  whenClocked s (fun s => if s.cSink ctx.toNat then s else frameArrive s ctx.toNat frame clip)

/-- What an endpoint does with a frame that its sink context has passed on. DESIGN CHOICE, notes/assumptions/85.md. -/
def endpoint (s : State) (e : Nat × Frame) : State :=
  if !s.cSink e.1 then s
  else match s.cType e.1 with
    | 3 => Rz.noteOut s e.1 e.2
    | 6 | 7 => Out.play s e.1 e.2
    | 8 => Amp.play s e.1 e.2
    | 9 => Cdac.noteOut s e.1 e.2
    | _ => s

/-- The contexts of a FRAME_DUE, each once; a USB sink is read by USB_IN_PACKET and an engine's input at its
period. -/
def dueCtxs (s : State) (due : List Byte) : List Nat :=
  ((due.map BitVec.toNat).eraseDups).filter (fun c => !(s.cSink c && (s.cType c == 2 || s.cType c == 10)))

/-- Frames leave the contexts named, and with `tick` the matrix works a sample period (R117, R118, R139).
DESIGN CHOICE, notes/assumptions/28.md. -/
def framesDue (s : State) (due : List Byte) (tick : Bool) : State :=
  let cs := dueCtxs s due
  let s := (cs.filter s.cSink).foldl Strm.cleanFrame s
  let r := Strm.passFrom s cs
  let s := r.1.foldl endpoint r.2
  if tick then
    let s := Rz.spend (Mtx.period s r.1)
    { s with blk := { s.blk with pos := min (s.blk.pos + 1) s.blkLen } }
  else s

/-- FRAME_DUE. -/
def execFrameDue (due : List Byte) (tick : Bool) (s : State) : Host.Outcome State Fault Refusal :=
  whenClocked s (fun s => framesDue s due tick)

/-! Ports (R96, R97, R106 to R114). -/

/-- ZC_TIMEOUT. -/
def execZcTimeout (ctx ch : Byte) (s : State) : Host.Outcome State Fault Refusal :=
  whenClocked s (fun s => Strm.zcTimeout s ctx.toNat ch.toNat)

/-- CLOCK_TRAIL_END. -/
def execClockTrailEnd (port : Fin 6) (s : State) : Host.Outcome State Fault Refusal :=
  whenClocked s (fun s => Strm.trailEnd s port.val)

/-- FRAME_PERIOD_ERROR. -/
def execFramePeriodError (port : Fin 6) (s : State) : Host.Outcome State Fault Refusal :=
  whenClocked s (fun s => Blk.reconFollow (Strm.periodError s port.val))

/-- STALL_DETECT. -/
def execStallDetect (port : Fin 6) (loss : Bool) (s : State) : Host.Outcome State Fault Refusal :=
  whenClocked s (fun s => Blk.reconFollow (Strm.stallDetected s port.val loss))

/-- RATE_MEASURE_DONE. -/
def execRateMeasureDone (port : Fin 6) (rate : Nat) (s : State) : Host.Outcome State Fault Refusal :=
  whenClocked s (fun s => Strm.measured s port.val rate)

/-! Converters and groups (R127 to R138). -/

/-- ASRC_LOCK. -/
def execAsrcLock (ctx : Byte) (ratio : Word) (s : State) : Host.Outcome State Fault Refusal :=
  whenClocked s (fun s => Strm.convLock s ctx.toNat ratio.toNat)

/-- ASRC_RANGE_EXIT. -/
def execAsrcRangeExit (ctx : Byte) (s : State) : Host.Outcome State Fault Refusal :=
  whenClocked s (fun s => Blk.reconFollow (Strm.rangeExit s ctx.toNat))

/-- GRP_STARTAT_WRITE: a half of STARTAT of the group the source has selected. -/
def execGrpStartatWrite (src : Src) (hi : Bool) (data : Word) (s : State) : Host.Outcome State Fault Refusal :=
  .next (Arb.write s src (0x1240 + 4 * b2n hi) data.toNat)

end Sys2Proof.Machine
end

