-- ==== Sys2Proof/Machine/ClkCmds.lean ====
section
/-! DEFINITION. References, the clock manager and the APLLs (R59 to R87). -/
namespace Sys2Proof.Machine
open Sys2Proof

/-- ACTIVITY_LOSS (R63, R66, R67). -/
def execActivityLoss (ref : Fin 12) (s : State) : Host.Outcome State Fault Refusal :=
  whenClocked s (fun s => Clkm.refFail s ref.val)

/-- FREQUENCY_GATE_END of a monitored reference (R64, R66); the gate of REF11 belongs to the steering loop. -/
def execFrequencyGateEnd (ref : Fin 12) (off : Int) (s : State) : Host.Outcome State Fault Refusal :=
  whenClocked s (fun s => if ref.val = 11 then s else Clkm.gate s ref.val off)

/-- WTR_EXPIRE (R66). -/
def execWtrExpire (ref : Fin 12) (s : State) : Host.Outcome State Fault Refusal :=
  whenClocked s (fun s => if ref.val ≠ 0 ∧ Clkm.refState s ref.val = Clkm.WTR then Clkm.refQualify s ref.val else s)

/-- SELECTION_EVALUATION: the selection of this millisecond and the movement of the DPLL offset (R70, R77). -/
def execSelectionEvaluation (phase : Int) (s : State) : Host.Outcome State Fault Refusal :=
  whenClocked s (fun s => Strm.followHolds (Clkm.rankDis (Clkm.slew (Clkm.evaluate s phase))))

/-- A switch or recovery whose slew has reached its target is LOCKED (R72). -/
def lockReached (s : State) : State :=
  if (Clkm.state s = Clkm.SWITCHING ∨ Clkm.state s = Clkm.RECOVERY) ∧
      Clkm.targetOffset s = some (s.geti R.CLKM_DPLLOFF_OFF) then
    (Clkm.goState s Clkm.LOCKED).set R.CLKM_STAT_TARGET 15
  else s

/-- LOCK_ACHIEVED. -/
def execLockAchieved (s : State) : Host.Outcome State Fault Refusal :=
  whenClocked s (fun s => Strm.followHolds (lockReached s))

/-- APLL `n` runs: it drives SYSCLK, or PLL.CTRL.EN is set (R83). -/
def apllOn (s : State) (n : Nat) : Bool := n == Clkm.activeApll s || s.on R.PLL_CTRL_EN

/-- An APLL locks; the one of SYSCLK ends ACQUIRE (R72, R83). DEDUCED, notes/assumptions/37.md. -/
def apllLocked (s : State) (n : Nat) : State :=
  if !apllOn s n then s
  else
    let s := s.set (Clkm.lockField n) 1
    if n = Clkm.activeApll s then Strm.followHolds (Clkm.leaveAcquire s) else s

/-- APLL_LOCK. -/
def execApllLock (b : Bool) (s : State) : Host.Outcome State Fault Refusal :=
  whenClocked s (fun s => apllLocked s (b2n b))

/-- An APLL that has locked loses its lock: flag and count, and a WDG reset for that of SYSCLK (R84). -/
def apllUnlocked (s : State) (n : Nat) : State :=
  if !s.on (Clkm.lockField n) then s
  else
    let s := s.set (Clkm.lockField n) 0
    let s := if n = 0 then (s.set R.PLL_IFLG_UNLOCKA 1).bump R.PLL_UNLCNT_A
      else (s.set R.PLL_IFLG_UNLOCKB 1).bump R.PLL_UNLCNT_B
    if n = Clkm.activeApll s then Reset.wdg s 6 else s

/-- APLL_UNLOCK. -/
def execApllUnlock (b : Bool) (s : State) : Host.Outcome State Fault Refusal :=
  whenClocked s (fun s => apllUnlocked s (b2n b))

/-- HOLDOVER_HISTORY_UPDATE (R79). -/
def execHoldoverHistoryUpdate (s : State) : Host.Outcome State Fault Refusal := whenClocked s Clkm.historyUpdate

/-- The holdover correction of a second (R80). -/
def holdoverCorrected (s : State) : State :=
  if Clkm.state s = Clkm.HOLDOVER then
    { s with clkm := { s.clkm with holdTarget := Clkm.holdoverTarget s } }
  else s

/-- HOLDOVER_CORRECTION. -/
def execHoldoverCorrection (s : State) : Host.Outcome State Fault Refusal := whenClocked s holdoverCorrected

/-- No temperature for 2 s (R81). -/
def temperatureLost (s : State) : State :=
  if s.get R.CLKM_TREF_TSRC = 0 then s else (s.set R.CLKM_STAT_TSTALE 1).set R.CLKM_IFLG_TSTALE 1

/-- TEMPERATURE_STALE. -/
def execTemperatureStale (s : State) : Host.Outcome State Fault Refusal := whenClocked s temperatureLost

/-- TEST_ENTER: CLKM.CTRL.TEST is set (R72, R75). -/
def execTestEnter (src : Src) (s : State) : Host.Outcome State Fault Refusal :=
  .next (Arb.writeField s src R.CLKM_CTRL_TEST 1)

/-- TEST_EXIT: CLKM.CTRL.TEST is cleared (R72). -/
def execTestExit (src : Src) (s : State) : Host.Outcome State Fault Refusal :=
  .next (Arb.writeField s src R.CLKM_CTRL_TEST 0)

/-- NOMINAL_CHANGE of REF1 to REF10 (R62). -/
def execNominalChange (ref : Fin 12) (s : State) : Host.Outcome State Fault Refusal :=
  whenClocked s (fun s => if ref.val = 11 then s else Clkm.nomChange s ref.val)

end Sys2Proof.Machine
end

