-- ==== Sys2Proof/Machine/EngCmds.lean ====
section
/-! DEFINITION. The matrix, the engines, the scheduler and Thallus (R139 to R194). -/
namespace Sys2Proof.Machine
open Sys2Proof

/-! The matrix. -/

/-- MXT_REFILL_DONE (R148, R149). -/
def execMxtRefillDone (s : State) : Host.Outcome State Fault Refusal := whenClocked s Blk.refillDone

/-- CROSSPOINT_ZC_TIMEOUT (R151). -/
def execCrosspointZcTimeout (entry : BitVec 14) (s : State) : Host.Outcome State Fault Refusal :=
  whenClocked s (fun s => Mtx.zcTimeout s entry.toNat)

/-- CROSSPOINT_RAMP_END (R151). -/
def execCrosspointRampEnd (entry : BitVec 14) (s : State) : Host.Outcome State Fault Refusal :=
  whenClocked s (fun s => Mtx.rampEnd s entry.toNat)

/-! Graphs and tasks. -/

/-- GLOAD: SCHED.GLOAD is written (R170). -/
def execGload (src : Src) (data : Word) (s : State) : Host.Outcome State Fault Refusal :=
  .next (Arb.write s src 0x1924 data.toNat)

/-- ADMISSION_DONE (R171 to R174). -/
def execAdmissionDone (s : State) : Host.Outcome State Fault Refusal := whenClocked s Boot.admission

/-- GSWITCH: SCHED.GSWITCH is staged (R175). -/
def execGswitch (src : Src) (mask : BitVec 4) (s : State) : Host.Outcome State Fault Refusal :=
  .next (Arb.write s src 0x1934 mask.toNat)

/-- TASK_DISPATCH (R178). -/
def execTaskDispatch (eng : Fin 16) (s : State) : Host.Outcome State Fault Refusal :=
  whenClocked s (fun s => Sched.dispatch s eng.val)

/-- The task of an engine completes, and its queued packets reach the arbiter in their order (R166, R179). -/
def taskDone (s : State) (n status : Nat) (o : TaskOut) : State :=
  match (s.engine n).job with
  | none => s
  | some _ =>
    let q := (s.engine n).queue
    q.foldl (fun s p => Arb.run s .eng .none p) (Sched.complete s n status o)

/-- TASK_COMPLETE. -/
def execTaskComplete (eng : Fin 16) (status : Nat) (out : TaskOut) (s : State) : Host.Outcome State Fault Refusal :=
  whenClocked s (fun s => taskDone s eng.val status out)

/-- REGISTER_SERVICE_CALL (R166). -/
def execRegisterServiceCall (eng : Fin 16) (packet : Packet) (s : State) : Host.Outcome State Fault Refusal :=
  whenClocked s (fun s => Sched.service s eng.val packet)

/-- TASK_WATCHDOG (R186). -/
def execTaskWatchdog (eng : Fin 16) (cycles : Nat) (s : State) : Host.Outcome State Fault Refusal :=
  whenClocked s (fun s => Sched.watchdog s eng.val cycles)

/-! Droop and Thallus errors. -/

/-- SAG_TRIP inside the operating conditions (R184, R402); outside them the spec gives no behaviour (R441).
DEDUCED, notes/assumptions/78.md. -/
def execSagTrip (vdd33 inside : Bool) (s : State) : Host.Outcome State Fault Refusal :=
  if inside then whenClocked s (fun s => Sched.sag s vdd33) else .fault .outsideConditions

/-- DROOP_STEP_UP (R184). -/
def execDroopStepUp (s : State) : Host.Outcome State Fault Refusal := whenClocked s Sched.stepUp

/-- THALLUS_DOUBLE_BIT_ERROR (R181, R185). -/
def execThallusDoubleBitError (addr : BitVec 22) (slot : Option (Fin 4)) (s : State) :
    Host.Outcome State Fault Refusal :=
  whenClocked s (fun s => if addr.toNat < thallusSize then
    Sched.dedMet s (thallus + addr.toNat) (slot.map Fin.val) else s)

/-- SCRUB_PASS (R185). -/
def execScrubPass (s : State) : Host.Outcome State Fault Refusal := whenClocked s Sched.scrub

/-! Engines. -/

/-- ENGINE_ENABLE: ENGn.CTRL.EN is set (R186). -/
def execEngineEnable (src : Src) (eng : Fin 16) (s : State) : Host.Outcome State Fault Refusal :=
  .next (Arb.writeField s src (R.ENGN_CTRL_EN eng.val) 1)

/-- ENGINE_DISABLE: ENGn.CTRL.EN is cleared (R186). -/
def execEngineDisable (src : Src) (eng : Fin 16) (s : State) : Host.Outcome State Fault Refusal :=
  .next (Arb.writeField s src (R.ENGN_CTRL_EN eng.val) 0)

/-- SELFTEST_DONE (R186). -/
def execSelftestDone (eng : Fin 16) (pass : Bool) (s : State) : Host.Outcome State Fault Refusal :=
  whenClocked s (fun s => Sched.selftestDone s eng.val pass)

/-- ENGINE_QUARANTINE: a double-bit error of IMEM, cause 1, or DMEM, cause 2 (R185 to R187). -/
def execEngineQuarantine (eng : Fin 16) (dmem : Bool) (s : State) : Host.Outcome State Fault Refusal :=
  whenClocked s (fun s => Sched.engError s eng.val (1 + b2n dmem))

/-- ENG_RELEASE: ENGn.CTRL.RELEASE is set (R186, R194). -/
def execEngRelease (src : Src) (eng : Fin 16) (s : State) : Host.Outcome State Fault Refusal :=
  .next (Arb.writeField s src (R.ENGN_CTRL_RELEASE eng.val) 1)

/-- ROLL: ENG.CMD with ACTION ROLL (R189). -/
def execRoll (src : Src) (carry : Bool) (s : State) : Host.Outcome State Fault Refusal :=
  .next (Arb.write s src 0x1824 (0x100 + b2n carry))

/-- ROLL_SET_CHECK_DONE (R189). -/
def execRollSetCheckDone (s : State) : Host.Outcome State Fault Refusal := whenClocked s Sched.setChecked

/-- RELOAD_DONE (R190). -/
def execReloadDone (eng : Fin 16) (ok : Bool) (s : State) : Host.Outcome State Fault Refusal :=
  whenClocked s (fun s => Sched.reloadDone s eng.val ok)

end Sys2Proof.Machine
end

