-- ==== Sys2Proof/Machine/MicCmds.lean ====
section
/-! DEFINITION. Privacy, the microphones, Peat and the wake stages (R195 to R231). -/
namespace Sys2Proof.Machine
open Sys2Proof

/-- What follows a change of mute or refusal: the jack, the outputs and the microphones (R204, R205, R244). -/
def privacyFollow (s : State) : State := Out.follow (Jack.follow (Mic.follow s))

/-- HWMUTE_CHANGE (R202, R204, R205). DESIGN CHOICE, notes/assumptions/88.md. -/
def execHwmuteChange (high : Bool) (s : State) : Host.Outcome State Fault Refusal :=
  whenPowered s (fun s => privacyFollow (Mic.hwMute s high))

/-- PEAT_ZEROED (R204). -/
def execPeatZeroed (s : State) : Host.Outcome State Fault Refusal := whenPowered s Mic.peatZeroed

/-- MIC_START_SEQUENCE (R201). -/
def execMicStartSequence (s : State) : Host.Outcome State Fault Refusal := whenPowered s Mic.start

/-- VDDWAIT_END (R201). -/
def execVddwaitEnd (s : State) : Host.Outcome State Fault Refusal := whenPowered s Mic.vddDone

/-- The SETTLE time of clocks ends: their microphones deliver, SETTLED is set, and held wake stages resume
(R201, R205). -/
def settledMics (s : State) (clocks : Nat) : State :=
  if !s.mic.settling.any (fun m => bit clocks (m / 8)) then s
  else Mic.unhold (Mic.upd (s.set R.PDM_IFLG_SETTLED 1)
    (fun m => { m with settling := m.settling.filter (fun i => !bit clocks (i / 8)) }))

/-- SETTLED. -/
def execSettled (clocks : BitVec 4) (s : State) : Host.Outcome State Fault Refusal :=
  whenPowered s (fun s => settledMics s clocks.toNat)

/-- MICVDD_OVERCURRENT (R200). -/
def execMicvddOvercurrent (s : State) : Host.Outcome State Fault Refusal := whenPowered s Mic.overcurrent

/-- LIVE_PROBE_END (R209). -/
def execLiveProbeEnd (s : State) : Host.Outcome State Fault Refusal :=
  whenPowered s (fun s => privacyFollow (Mic.probeEnd s))

/-- REPROBE (R209). -/
def execReprobe (s : State) : Host.Outcome State Fault Refusal := whenPowered s Mic.reprobe

/-- PEAT_FRAME (R211, R223). -/
def execPeatFrame (xs : List Sample) (s : State) : Host.Outcome State Fault Refusal :=
  whenPowered s (fun s => Mic.peatFrame s xs)

/-! Wake stages (R213 to R222). -/

/-- SPORE_HOP (R213 to R215). -/
def execSporeHop (conf : Byte) (onset : Option (BitVec 64)) (s : State) : Host.Outcome State Fault Refusal :=
  whenPowered s (fun s => Mic.sporeHop s conf.toNat (onset.map BitVec.toNat))

/-- FHD_HOP (R215). -/
def execFhdHop (conf : Byte) (s : State) : Host.Outcome State Fault Refusal :=
  whenPowered s (fun s => Mic.fhdHop s conf.toNat)

/-- FHDWIN_EXPIRE (R215). -/
def execFhdwinExpire (s : State) : Host.Outcome State Fault Refusal :=
  whenPowered s (fun s => if Mic.stage s = Mic.FHD then Mic.closeCounted s R.WAKE_REJCNT_FHD else s)

/-- VWIN_EXPIRE (R215). -/
def execVwinExpire (s : State) : Host.Outcome State Fault Refusal :=
  whenPowered s (fun s => if Mic.stage s = Mic.FROND then Mic.closeCounted s R.WAKE_REJCNT_FROND else s)

/-- VERDICT_ACCEPT: WAKE.VERDICT is written with ACCEPT (R216). -/
def execVerdictAccept (src : Src) (s : State) : Host.Outcome State Fault Refusal := .next (Arb.write s src 0x3238 1)

/-- VERDICT_REJECT: WAKE.VERDICT is written with REJECT (R216). -/
def execVerdictReject (src : Src) (s : State) : Host.Outcome State Fault Refusal := .next (Arb.write s src 0x3238 2)

/-- WAKE_ENABLE: WAKE.CTRL.EN is set (R215). -/
def execWakeEnable (src : Src) (s : State) : Host.Outcome State Fault Refusal :=
  .next (Arb.writeField s src R.WAKE_CTRL_EN 1)

/-- WAKE_DISABLE: WAKE.CTRL.EN is cleared (R215). -/
def execWakeDisable (src : Src) (s : State) : Host.Outcome State Fault Refusal :=
  .next (Arb.writeField s src R.WAKE_CTRL_EN 0)

/-- WAKE_SEQUENCER_STEP (R218). -/
def execWakeSequencerStep (s : State) : Host.Outcome State Fault Refusal := whenPowered s Mic.seqStep

/-- WAKE_DEFER_EXPIRE (R222). -/
def execWakeDeferExpire (s : State) : Host.Outcome State Fault Refusal := whenPowered s Mic.deferExpire

/-- CANDIDATE_EXPIRED (R215). -/
def execCandidateExpired (s : State) : Host.Outcome State Fault Refusal := whenPowered s Mic.candExpired

/-- MODEL_LOAD_START: FHD.WCTRL.START is set (R225). -/
def execModelLoadStart (src : Src) (s : State) : Host.Outcome State Fault Refusal := .next (Arb.write s src 0x3420 1)

/-- CATCHUP_TRANSFER of the delivery context (R224). -/
def execCatchupTransfer (ctx : Byte) (n : Nat) (s : State) : Host.Outcome State Fault Refusal :=
  whenClocked s (fun s => if s.get R.WAKE_VCTX_DCTX = ctx.toNat then Mic.catchUpSend s n else s)

end Sys2Proof.Machine
end

