-- ==== Sys2Proof/Machine/AnaCmds.lean ====
section
/-! DEFINITION. The analog inputs, the output stages and the jack (R232 to R257). -/
namespace Sys2Proof.Machine
open Sys2Proof

/-! Inputs. -/

/-- PGA_ZC_TIMEOUT (R233). -/
def execPgaZcTimeout (input : Fin 4) (s : State) : Host.Outcome State Fault Refusal :=
  whenClocked s (fun s => if Ain.pgaWaits s input.val then Ain.pgaNow s input.val else s)

/-- MICBIAS_OVERCURRENT (R235). -/
def execMicbiasOvercurrent (n : Fin 2) (s : State) : Host.Outcome State Fault Refusal :=
  whenClocked s (fun s => Ain.biasOvercurrent s n.val)

/-! Output stages. -/

/-- OUTPUT_START (R239). -/
def execOutputStart (out : Fin 3) (s : State) : Host.Outcome State Fault Refusal :=
  whenClocked s (fun s => Out.start s out.val)

/-- CHARGE_PUMP_READY (R239). -/
def execChargePumpReady (s : State) : Host.Outcome State Fault Refusal := whenClocked s Out.pumpReady

/-- SERVO_DONE (R239). -/
def execServoDone (out : Fin 3) (left right : Nat) (s : State) : Host.Outcome State Fault Refusal :=
  whenClocked s (fun s => Out.servoDone s out.val left right)

/-- OUTPUT_STOP (R240). -/
def execOutputStop (out : Fin 3) (s : State) : Host.Outcome State Fault Refusal :=
  whenClocked s (fun s => Out.stop s out.val)

/-- OUTPUT_OVERCURRENT (R238). -/
def execOutputOvercurrent (out : Fin 3) (s : State) : Host.Outcome State Fault Refusal :=
  whenClocked s (fun s => Out.overcurrent s out.val)

/-! The jack. -/

/-- HP_DET_CHANGE (R243). -/
def execHpDetChange (high : Bool) (s : State) : Host.Outcome State Fault Refusal :=
  whenPowered s (fun s => Out.follow (Jack.det s high))

/-- JACK_DEBOUNCE_END (R243). -/
def execJackDebounceEnd (s : State) : Host.Outcome State Fault Refusal :=
  whenPowered s (fun s => Out.follow (Jack.debounced s))

/-- JACK_PENDING_RESUME (R243). -/
def execJackPendingResume (s : State) : Host.Outcome State Fault Refusal :=
  whenClocked s (fun s => Out.follow (Jack.resume s))

/-- TYPE_MEASUREMENT_DONE (R244, R245). -/
def execTypeMeasurementDone (uv : Nat) (s : State) : Host.Outcome State Fault Refusal :=
  whenClocked s (fun s => Out.follow (Jack.typeMeasured s uv))

/-- IMPEDANCE_MEASUREMENT_DONE (R246, R247). -/
def execImpedanceMeasurementDone (uv : Nat) (s : State) : Host.Outcome State Fault Refusal :=
  whenClocked s (fun s => Out.follow (Jack.zMeasured s uv))

/-- BUTTON_PRESS (R250, R305). -/
def execButtonPress (uv : Nat) (s : State) : Host.Outcome State Fault Refusal :=
  whenClocked s (fun s => Usb.hidInput (Jack.press s uv))

/-- BUTTON_RELEASE (R250, R305). -/
def execButtonRelease (s : State) : Host.Outcome State Fault Refusal :=
  whenClocked s (fun s => Usb.hidInput (Jack.releaseBtn s))

/-- BTNMUTE_END (R251). -/
def execBtnmuteEnd (s : State) : Host.Outcome State Fault Refusal := whenClocked s Jack.muteEnd

/-- LISTEN_BUTTON_PRESS (R252). -/
def execListenButtonPress (s : State) : Host.Outcome State Fault Refusal := whenPowered s Jack.listenPress

end Sys2Proof.Machine
end

