-- ==== Sys2Proof/Machine/AmpCmds.lean ====
section
/-! DEFINITION. The speaker amplifier and its protection (R258 to R289). -/
namespace Sys2Proof.Machine
open Sys2Proof

/-- An event of the amplifier, and the safe-value cause that follows a thermal state (R365). -/
def ampEvent (s : State) (f : State → State) : Host.Outcome State Fault Refusal :=
  whenClocked s (fun s => Cdac.safeFollow (f s))

/-- AMP_START (R266). -/
def execAmpStart (ch : Fin 4) (s : State) : Host.Outcome State Fault Refusal := ampEvent s (fun s => Amp.start s ch.val)

/-- BOOTSTRAP_DONE (R278). -/
def execBootstrapDone (ch : Fin 4) (s : State) : Host.Outcome State Fault Refusal :=
  ampEvent s (fun s => Amp.bootDone s ch.val)

/-- AMP_STOP (R266). -/
def execAmpStop (ch : Fin 4) (s : State) : Host.Outcome State Fault Refusal := ampEvent s (fun s => Amp.stop s ch.val)

/-- AMP_OVERCURRENT (R278). -/
def execAmpOvercurrent (ch : Fin 4) (s : State) : Host.Outcome State Fault Refusal :=
  ampEvent s (fun s => Amp.overcurrent s ch.val)

/-- RETRY_TIMER_EXPIRE (R278). -/
def execRetryTimerExpire (ch : Fin 4) (s : State) : Host.Outcome State Fault Refusal :=
  ampEvent s (fun s => Amp.retry s ch.val)

/-- LOAD_TEST_DONE (R279). -/
def execLoadTestDone (ch : Fin 4) (termP termN lichUv senseUv senseUa : Int) (s : State) :
    Host.Outcome State Fault Refusal :=
  ampEvent s (fun s => Amp.testDone s ch.val ⟨termP, termN, lichUv, senseUv, senseUa⟩)

/-- CLRFLT: AMPn.CTRL.CLRFLT is set (R278). -/
def execClrflt (src : Src) (ch : Fin 4) (s : State) : Host.Outcome State Fault Refusal :=
  .next (Arb.writeField s src (R.AMP_CTRL_CLRFLT ch.val) 1)

/-- TRIES_CLEAN (R278). -/
def execTriesClean (ch : Fin 4) (s : State) : Host.Outcome State Fault Refusal :=
  ampEvent s (fun s => Amp.triesClean s ch.val)

/-- DC_OFFSET_DETECT (R282). -/
def execDcOffsetDetect (ch : Fin 4) (s : State) : Host.Outcome State Fault Refusal :=
  ampEvent s (fun s => Amp.dcOffset s ch.val)

/-- PVDD_FAULT (R281). -/
def execPvddFault (level : Nat) (s : State) : Host.Outcome State Fault Refusal := ampEvent s (fun s => Amp.pvdd s level)

/-- DIE_TEMPERATURE_THRESHOLD (R283). -/
def execDieTemperatureThreshold (t : Int) (s : State) : Host.Outcome State Fault Refusal :=
  ampEvent s (fun s => Amp.dieTemp s t)

/-- THERMAL_MODEL_STEP of every channel (R268). -/
def execThermalModelStep (s : State) : Host.Outcome State Fault Refusal :=
  ampEvent s (fun s => (Amp.channels s).foldl Amp.thermalStep s)

/-- RE_WINDOW_END (R270). -/
def execReWindowEnd (ch : Fin 4) (uv ua : Nat) (s : State) : Host.Outcome State Fault Refusal :=
  ampEvent s (fun s => Amp.reWindow s ch.val uv ua)

/-- NTC_STALE (R269). -/
def execNtcStale (k : Fin 2) (s : State) : Host.Outcome State Fault Refusal :=
  ampEvent s (fun s => Amp.ntcStale s k.val)

/-- SENSE_SAMPLE (R267, R272, R274 to R276). -/
def execSenseSample (vi : List (BitVec 16 × BitVec 16)) (pvdd : Nat) (s : State) : Host.Outcome State Fault Refusal :=
  ampEvent s (fun s => Amp.sense s vi pvdd)

/-- APPLY: EXCUR.CMD.APPLY is set (R273). -/
def execApply (src : Src) (s : State) : Host.Outcome State Fault Refusal := .next (Arb.write s src 0x4628 1)

end Sys2Proof.Machine
end

