-- ==== Sys2Proof/Machine/UsbCmds.lean ====
section
/-! DEFINITION. The USB audio function (R290 to R310). -/
namespace Sys2Proof.Machine
open Sys2Proof

/-! The device and its requests. -/

/-- VBUS_CHANGE (R290). -/
def execVbusChange (present : Bool) (s : State) : Host.Outcome State Fault Refusal :=
  whenPowered s (fun s => Blk.reconFollow (Usb.vbus s present))

/-- BUS_RESET (R295, R304). -/
def execBusReset (high : Bool) (s : State) : Host.Outcome State Fault Refusal :=
  whenBooted s (fun s => Blk.reconFollow (Usb.busReset s high))

/-- SET_ADDRESS (R309). -/
def execSetAddress (address : BitVec 7) (s : State) : Host.Outcome State Fault Refusal :=
  whenBooted s (fun s => Usb.setAddress s address.toNat)

/-- SET_CONFIGURATION (R295). -/
def execSetConfiguration (configured : Bool) (s : State) : Host.Outcome State Fault Refusal :=
  whenBooted s (fun s => Blk.reconFollow (Usb.setConfiguration s configured))

/-- SET_INTERFACE (R295). -/
def execSetInterface (isIn : Bool) (setting : Nat) (s : State) : Host.Outcome State Fault Refusal :=
  whenBooted s (fun s => Blk.reconFollow (Usb.setInterface s isIn setting))

/-- SET_CUR of the sample frequency (R300). -/
def execSetCurSampleFrequency (hz : Word) (s : State) : Host.Outcome State Fault Refusal :=
  whenBooted s (fun s => if Usb.state s = Usb.CONFIGURED then Blk.reconFollow (Usb.setFreq s hz.toNat)
    else Usb.stallReply s)

/-- SET_CUR of the clock selector (R299). -/
def execSetCurClockSelector (pin : Nat) (s : State) : Host.Outcome State Fault Refusal :=
  whenBooted s (fun s => Usb.setSelector s pin)

/-- SET_CUR of a feature unit (R301, R302). -/
def execSetCurFeatureUnit (unit21 : Bool) (ch : BitVec 6) (mute : Bool) (value : BitVec 16) (s : State) :
    Host.Outcome State Fault Refusal :=
  whenBooted s (fun s => Usb.setFeatureUnit s (b2n unit21) ch.toNat mute value.toNat)

/-- GET_CUR (R299 to R301). -/
def execGetCur (ctl : UsbCtl) (s : State) : Host.Outcome State Fault Refusal :=
  whenBooted s (fun s => Usb.getCur s ctl)

/-- GET_RANGE (R300, R301). -/
def execGetRange (ctl : UsbCtl) (s : State) : Host.Outcome State Fault Refusal :=
  whenBooted s (fun s => Usb.getRange s ctl)

/-- SET_FEATURE and CLEAR_FEATURE of remote wakeup (R308). -/
def execSetFeature (enable : Bool) (s : State) : Host.Outcome State Fault Refusal :=
  whenBooted s (fun s => if Usb.awake s then Usb.answer (s.setB R.USB_STAT_RWEN enable) .applied else s)

/-- UNKNOWN_REQUEST: STALL, counted (R304). -/
def execUnknownRequest (s : State) : Host.Outcome State Fault Refusal :=
  whenBooted s (fun s => if Usb.awake s then Usb.stallReply (s.bump R.USB_ERRCNT_BLKERR) else s)

/-! Streaming and clocks. -/

/-- USB_OUT_PACKET (R296). -/
def execUsbOutPacket (good : Bool) (data : List Byte) (s : State) : Host.Outcome State Fault Refusal :=
  whenClocked s (fun s => Usb.outPacket s good data)

/-- USB_IN_PACKET (R296). -/
def execUsbInPacket (more : Bool) (s : State) : Host.Outcome State Fault Refusal :=
  whenClocked s (fun s => Usb.inPacket s more)

/-- FEEDBACK_UPDATE (R297, R298). -/
def execFeedbackUpdate (m : Nat) (s : State) : Host.Outcome State Fault Refusal :=
  whenClocked s (fun s => if Usb.state s = Usb.CONFIGURED then Usb.feedback s m else s)

/-- CLOCK_VALIDITY_CHANGE of CS1 to CS8 (R299). -/
def execClockValidityChange (k : Fin 8) (s : State) : Host.Outcome State Fault Refusal :=
  whenBooted s (fun s => Usb.validity s (k.val + 1))

/-! Suspend, L1, wakeup and HID. -/

/-- SUSPEND (R295, R306). -/
def execSuspend (s : State) : Host.Outcome State Fault Refusal :=
  whenBooted s (fun s => Blk.reconFollow (Usb.suspend s))

/-- RESUME (R306). -/
def execResume (s : State) : Host.Outcome State Fault Refusal := whenBooted s Usb.resume

/-- LPM_TRANSACTION (R307). -/
def execLpmTransaction (rwake : Bool) (s : State) : Host.Outcome State Fault Refusal :=
  whenBooted s (fun s => Usb.lpm s rwake)

/-- L1_EXIT (R307). -/
def execL1Exit (s : State) : Host.Outcome State Fault Refusal := whenBooted s Usb.l1Exit

/-- RWAKE (R308). -/
def execRwake (s : State) : Host.Outcome State Fault Refusal := whenBooted s Usb.rwake

/-- HID_INPUT_REPORT; `phoneMute`: the 100 ms of a Phone Mute press still run (R305). -/
def execHidInputReport (phoneMute : Bool) (s : State) : Host.Outcome State Fault Refusal :=
  whenBooted s (fun s => Usb.hidInput (Usb.upd s (fun u => { u with phoneMute := u.phoneMute && phoneMute })))

/-- HID_OUTPUT_REPORT (R305). -/
def execHidOutputReport (report : Byte) (s : State) : Host.Outcome State Fault Refusal :=
  whenBooted s (fun s => if Usb.state s = Usb.CONFIGURED then
    Usb.answer ((s.set R.USBD_HIDOUT_LED (report.toNat % 8)).set R.USBD_IFLG_HIDOUT 1) .applied else Usb.stallReply s)

end Sys2Proof.Machine
end

