-- ==== Sys2Proof/Machine/RzCmds.lean ====
section
/-! DEFINITION. The Rhizome cascade (R311 to R341). -/
namespace Sys2Proof.Machine
open Sys2Proof

/-- An event of the Rhizome of a device whose role is not off. DESIGN CHOICE, notes/assumptions/2.md. -/
def whenLinked (s : State) (f : State → State) : Host.Outcome State Fault Refusal :=
  whenClocked s (fun s => if s.on R.RZ_CTRL_EN ∧ Rz.role s ≠ Rz.OFF then f s else s)

/-! Frames and timing. -/

/-- FRAME_RECEIVE (R317). -/
def execFrameReceive (portB : Bool) (frame : RzFrame) (s : State) : Host.Outcome State Fault Refusal :=
  whenClocked s (fun s => Blk.reconFollow (Rz.receive s (b2n portB) frame))

/-- MASTER_FRAME_EMIT (R314). -/
def execMasterFrameEmit (s : State) : Host.Outcome State Fault Refusal := whenLinked s Rz.emit

/-- PORT_SWAP of a device that is not the master (R313). -/
def execPortSwap (s : State) : Host.Outcome State Fault Refusal :=
  whenLinked s (fun s => if Rz.isMaster s then s else Rz.swapPorts s)

/-- ECHO_MEASUREMENT (R319). -/
def execEchoMeasurement (portB : Bool) (trip : BitVec 24) (s : State) : Host.Outcome State Fault Refusal :=
  whenLinked s (fun s => Rz.echo s (b2n portB) trip.toNat)

/-- CIRC_MEASURED (R321). -/
def execCircMeasured (s : State) : Host.Outcome State Fault Refusal := whenLinked s Rz.circMeasured

/-- tHEAL has passed without the outbound pass: REF10 is no longer available (R60, R313).
DESIGN CHOICE, notes/assumptions/36.md. -/
def refHoldEnds (s : State) : State :=
  if s.rz.ref10Hold then Clkm.refFail (Rz.upd s (fun r => { r with ref10Hold := false })) 10 else s

/-- REF10_HOLD_EXPIRE (R313). -/
def execRef10HoldExpire (s : State) : Host.Outcome State Fault Refusal := whenLinked s refHoldEnds

/-- RHIZOME_STALL (R324). -/
def execRhizomeStall (s : State) : Host.Outcome State Fault Refusal :=
  whenLinked s (fun s => Blk.reconFollow (Rz.stallDue s))

/-! Commands of RZ.CMD and the slots. -/

/-- REPRES: RZ.CMD with ACTION 1 (R321). -/
def execRepres (src : Src) (s : State) : Host.Outcome State Fault Refusal := .next (Arb.write s src 0x5028 0x20000000)

/-- RRESET: RZ.CMD with ACTION 2 and an address (R333). -/
def execRreset (src : Src) (dst : BitVec 10) (s : State) : Host.Outcome State Fault Refusal :=
  .next (Arb.write s src 0x5028 (0x40000000 + dst.toNat))

/-- CRESYNC: RZ.CMD with ACTION 3 (R330). -/
def execCresync (src : Src) (s : State) : Host.Outcome State Fault Refusal := .next (Arb.write s src 0x5028 0x60000000)

/-- CLAIM: REQ of a slot (R326). -/
def execClaim (src : Src) (slot : BitVec 9) (s : State) : Host.Outcome State Fault Refusal :=
  .next (Arb.write s src (0x900004 + 16 * slot.toNat) 1)

/-- SLOT_RELEASE: REQ of a slot (R326). -/
def execSlotRelease (src : Src) (slot : BitVec 9) (s : State) : Host.Outcome State Fault Refusal :=
  .next (Arb.write s src (0x900004 + 16 * slot.toNat) 2)

/-- CLAIM_TIMEOUT (R326). -/
def execClaimTimeout (s : State) : Host.Outcome State Fault Refusal := whenLinked s Rz.claimTimeout

/-! Cells. -/

/-- CLAIM_CELL (R326). -/
def execClaimCell (cell : Cell) (s : State) : Host.Outcome State Fault Refusal := .next (Rz.claimCell s cell)

/-- GRANT_CELL (R326). -/
def execGrantCell (cell : Cell) (s : State) : Host.Outcome State Fault Refusal := .next (Rz.grantCell s cell)

/-- REFUSE_CELL (R326). -/
def execRefuseCell (cell : Cell) (s : State) : Host.Outcome State Fault Refusal := .next (Rz.refuseCell s cell)

/-- RELEASE_CELL (R326). -/
def execReleaseCell (cell : Cell) (s : State) : Host.Outcome State Fault Refusal := .next (Rz.releaseCell s cell)

/-- MAPREQ_CELL (R327). -/
def execMapreqCell (cell : Cell) (s : State) : Host.Outcome State Fault Refusal := .next (Rz.mapreqCell s cell)

/-- CMD_CELL (R331). -/
def execCmdCell (cell : Cell) (s : State) : Host.Outcome State Fault Refusal := .next (Rz.cmdCell s cell)

/-- RESULT_CELL (R332). -/
def execResultCell (cell : Cell) (s : State) : Host.Outcome State Fault Refusal := .next (Rz.resultCell s cell)

/-- ERROR_CELL (R332). -/
def execErrorCell (cell : Cell) (s : State) : Host.Outcome State Fault Refusal := .next (Rz.errorCell s cell)

/-- EVENT_CELL (R333). -/
def execEventCell (cell : Cell) (s : State) : Host.Outcome State Fault Refusal := .next (Rz.eventCell s cell)

/-- RESET_CELL (R333). -/
def execResetCell (cell : Cell) (s : State) : Host.Outcome State Fault Refusal := .next (Rz.resetCell s cell)

/-- BKANN_CELL (R336). -/
def execBkannCell (cell : Cell) (s : State) : Host.Outcome State Fault Refusal := .next (Rz.bkannCell s cell)

/-- BKANN_REPEAT (R337). -/
def execBkannRepeat (s : State) : Host.Outcome State Fault Refusal := whenLinked s Rz.announce

/-- BACKUP_RECORD_TIMEOUT (R337). -/
def execBackupRecordTimeout (s : State) : Host.Outcome State Fault Refusal := whenLinked s Rz.bkTimeout

/-- REASSEMBLY_TIMEOUT (R331). -/
def execReassemblyTimeout (from' : BitVec 10) (tag : Byte) (s : State) : Host.Outcome State Fault Refusal :=
  whenLinked s (fun s => Rz.reasmTimeout s from'.toNat tag.toNat)

/-- FORWARD_NO_ANSWER (R332). -/
def execForwardNoAnswer (of : Src) (s : State) : Host.Outcome State Fault Refusal :=
  whenClocked s (fun s => Rz.noAnswer s of.code)

/-- CELL_RESEND (R330). -/
def execCellResend (portB : Bool) (lseq : Byte) (s : State) : Host.Outcome State Fault Refusal :=
  whenLinked s (fun s => Rz.resend s (b2n portB) lseq.toNat)

/-! Masters. -/

/-- MASTER_LOSS_FAILOVER (R336). -/
def execMasterLossFailover (s : State) : Host.Outcome State Fault Refusal := whenLinked s Rz.failover

/-- MASTER_LISTEN_END (R338). -/
def execMasterListenEnd (s : State) : Host.Outcome State Fault Refusal := whenLinked s Rz.listenEnd

end Sys2Proof.Machine
end

