-- ==== Sys2Proof/Machine/LichCmds.lean ====
section
/-! DEFINITION. The housekeeping ADC, the control DACs and the GPIO pins (R342 to R369, R432 to R434). -/
namespace Sys2Proof.Machine
open Sys2Proof

/-! Lichen. -/

/-- REGULAR_PASS_START (R345). -/
def execRegularPassStart (onB : Bool) (s : State) : Host.Outcome State Fault Refusal :=
  whenClocked s (fun s => Lich.passStart s onB)

/-- REGULAR_ENTRY_END (R343, R345). -/
def execRegularEntryEnd (onB : Bool) (sum : Nat) (s : State) : Host.Outcome State Fault Refusal :=
  whenClocked s (fun s => Lich.entryEnd s onB sum)

/-- INJECTED_REQUEST (R346, R347). -/
def execInjectedRequest (amp jack : Bool) (s : State) : Host.Outcome State Fault Refusal :=
  whenClocked s (fun s => Lich.injected s amp jack)

/-- INJECTED_TIMER_TICK (R346). -/
def execInjectedTimerTick (s : State) : Host.Outcome State Fault Refusal := whenClocked s Lich.timerTick

/-- INJSW_GO: LICH.INJSW.GO is set (R346). -/
def execInjswGo (src : Src) (s : State) : Host.Outcome State Fault Refusal :=
  .next (Arb.writeField s src R.LICH_INJSW_GO 1)

/-- INJECTED_ENTRY_END (R347). -/
def execInjectedEntryEnd (onB : Bool) (sum : Nat) (s : State) : Host.Outcome State Fault Refusal :=
  whenClocked s (fun s => Lich.injEnd s onB sum)

/-- PLAUSIBILITY_DUE (R348). -/
def execPlausibilityDue (s : State) : Host.Outcome State Fault Refusal := whenClocked s Lich.plausDue

/-- PLAUSIBILITY_CHECK_END (R349, R365). -/
def execPlausibilityCheckEnd (sumA sumB : Nat) (s : State) : Host.Outcome State Fault Refusal :=
  whenClocked s (fun s => Cdac.safeFollow (Lich.plausEnd s sumA sumB))

/-- CAL: LICH.CTRL.CAL is set (R350). -/
def execCal (src : Src) (s : State) : Host.Outcome State Fault Refusal := .next (Arb.writeField s src R.LICH_CTRL_CAL 1)

/-- CALIBRATION_START (R350). -/
def execCalibrationStart (s : State) : Host.Outcome State Fault Refusal := whenClocked s Lich.calStart

/-- CALIBRATION_DONE (R350). -/
def execCalibrationDone (s : State) : Host.Outcome State Fault Refusal := whenClocked s Lich.calDone

/-! Control DACs. -/

/-- CDAC_INPUT_WRITE: INn of a channel (R357). -/
def execCdacInputWrite (src : Src) (n : Fin 8) (data : Word) (s : State) : Host.Outcome State Fault Refusal :=
  .next (Arb.write s src (0x5C20 + 16 * n.val) data.toNat)

/-- LOAD: CDAC.LOAD (R357). -/
def execLoad (src : Src) (mask : Byte) (s : State) : Host.Outcome State Fault Refusal :=
  .next (Arb.write s src 0x5CE0 mask.toNat)

/-- LOAD_N_EDGE (R357). -/
def execLoadNEdge (s : State) : Host.Outcome State Fault Refusal := whenPowered s Cdac.loadEdge

/-- PT_ARM: CDAC.PTCTL.ARM (R358). -/
def execPtArm (src : Src) (s : State) : Host.Outcome State Fault Refusal := .next (Arb.write s src 0x5CE4 1)

/-- DISARM: CDAC.PTCTL.DISARM (R359). -/
def execDisarm (src : Src) (s : State) : Host.Outcome State Fault Refusal := .next (Arb.write s src 0x5CE4 2)

/-- PRESENTATION_TIME_LOAD (R358). -/
def execPresentationTimeLoad (s : State) : Host.Outcome State Fault Refusal := whenClocked s Cdac.ptStart

/-- SLEW_TICK (R360, R361). -/
def execSlewTick (n : Fin 8) (s : State) : Host.Outcome State Fault Refusal :=
  whenClocked s (fun s => Cdac.tick s n.val)

/-- STREAM_SUBSAMPLE_LOAD (R362). -/
def execStreamSubsampleLoad (ctx : Byte) (j : Nat) (s : State) : Host.Outcome State Fault Refusal :=
  whenClocked s (fun s => Cdac.subLoad s ctx.toNat j)

/-- SAFE_CAUSE_CHANGE (R365). -/
def execSafeCauseChange (s : State) : Host.Outcome State Fault Refusal := whenClocked s Cdac.safeFollow

/-- SAFECLR: CDAC.CTRL.SAFECLR (R365). -/
def execSafeclr (src : Src) (s : State) : Host.Outcome State Fault Refusal :=
  .next (Arb.writeField s src R.CDAC_CTRL_SAFECLR 1)

/-- SUPERVISION_FAULT, and what a LIVE fault of CD6 does (R208, R209, R366). -/
def execSupervisionFault (n : Fin 8) (stands : Bool) (s : State) : Host.Outcome State Fault Refusal :=
  whenPowered s (fun s => privacyFollow (Cdac.supervise s n.val stands))

/-! GPIO. -/

/-- GPIO_EDGE (R432). -/
def execGpioEdge (pin : Fin 8) (high : Bool) (s : State) : Host.Outcome State Fault Refusal :=
  whenPowered s (fun s => Gpio.edge s pin.val high)

/-- SET: GPIO.SET (R434). -/
def execSet (src : Src) (mask : Byte) (s : State) : Host.Outcome State Fault Refusal :=
  .next (Arb.write s src 0x6C44 mask.toNat)

/-- CLR: GPIO.CLR (R434). -/
def execClr (src : Src) (mask : Byte) (s : State) : Host.Outcome State Fault Refusal :=
  .next (Arb.write s src 0x6C48 mask.toNat)

end Sys2Proof.Machine
end

