-- ==== Sys2Proof/Machine/PwrCmds.lean ====
section
/-! DEFINITION. The buses, the power modes, the resets, the boot and the flash (R370 to R420). -/
namespace Sys2Proof.Machine
open Sys2Proof

/-! The control bus. -/

/-- CTL_START (R383, R384). -/
def execCtlStart (edge : CtlEdge) (cut : Option CtlCut) (s : State) : Host.Outcome State Fault Refusal :=
  .next (Cbus.edge s edge cut)

/-- CTL_TIMEOUT (R386). -/
def execCtlTimeout (cut : Option CtlCut) (s : State) : Host.Outcome State Fault Refusal :=
  .next (Cbus.timeout s cut)

/-- ADDRESS_PROBE_START: the first STOP after an ADDRCFG write (R373). -/
def execAddressProbeStart (s : State) : Host.Outcome State Fault Refusal := whenPowered s Cbus.reprobe

/-- ADDRESS_CONFLICT (R373). -/
def execAddressConflict (sdaLow : Bool) (s : State) : Host.Outcome State Fault Refusal :=
  whenPowered s (fun s => Cbus.seen s sdaLow)

/-- ADDRESS_PROBE_END (R373). -/
def execAddressProbeEnd (s : State) : Host.Outcome State Fault Refusal := whenPowered s Cbus.probeEnd

/-- ALERT_RESPONSE (R387). -/
def execAlertResponse (s : State) : Host.Outcome State Fault Refusal := whenPowered s Cbus.alert

/-! The auxiliary bus. -/

/-- AUX_GO: AUXB.CTRL.GO (R388). -/
def execAuxGo (src : Src) (s : State) : Host.Outcome State Fault Refusal := .next (Arb.writeField s src R.AUXB_CTRL_GO 1)

/-- AUX_TRANSFER_END (R388, R390, R391). -/
def execAuxTransferEnd (result : BitVec 3) (nackPos : Byte) (pulses : Bool) (rx : List Byte) (s : State) :
    Host.Outcome State Fault Refusal :=
  whenClocked s (fun s => Aux.transferEnd s result.toNat nackPos.toNat pulses rx)

/-- ARBITRATION_LOST (R389). -/
def execArbitrationLost (pulses : Bool) (s : State) : Host.Outcome State Fault Refusal :=
  whenClocked s (fun s => Aux.arbLost s pulses)

/-- AUX_BACKOFF_END (R389). -/
def execAuxBackoffEnd (s : State) : Host.Outcome State Fault Refusal := whenClocked s Aux.backoffEnd

/-- AUX_TIMEOUT (R391). -/
def execAuxTimeout (pulses : Bool) (rx : List Byte) (s : State) : Host.Outcome State Fault Refusal :=
  whenClocked s (fun s => Aux.timeout s pulses rx)

/-- ABORT: AUXB.CTRL.ABORT (R391). -/
def execAbort (src : Src) (s : State) : Host.Outcome State Fault Refusal :=
  .next (Arb.writeField s src R.AUXB_CTRL_ABORT 1)

/-! Power modes. -/

/-- MODE_REQUEST: PWR.MODEREQ (R397). -/
def execModeRequest (src : Src) (mode : BitVec 3) (s : State) : Host.Outcome State Fault Refusal :=
  .next (Arb.write s src 0x120 mode.toNat)

/-- HELD_REQUEST_TAKEN (R397). -/
def execHeldRequestTaken (s : State) : Host.Outcome State Fault Refusal := whenBooted s Pwr.release

/-- The move to STANDBY or LISTEN completes once every context is ARMED or IDLE and every graph slot has ended its
period (R398). -/
def lowReached (s : State) : State :=
  match s.pwr.target with
  | some m => if s.winding ∧ 3 ≤ s.mode ∧ (List.range 4).all (fun k => !(s.slot k).busy) then Reset.enterLow s m else s
  | none => s

/-- MOVE_TO_LOW_POWER. -/
def execMoveToLowPower (s : State) : Host.Outcome State Fault Refusal := whenBooted s lowReached

/-- PWR.DRAINTO has passed: what has not drained receives STOP (R398). -/
def drainExpired (s : State) : State :=
  match s.pwr.target with
  | some m =>
    let cs := s.ctxsWhere s.live
    if m < Pwr.IDLE ∧ 3 ≤ s.mode ∧ cs ≠ [] then
      { s with strm := { s.strm with reqs := s.strm.reqs ++ cs.map (fun c => (c, Req.stop)) } }.set
        R.PWR_IFLG_DRAINTO 1
    else s
  | none => s

/-- DRAINTO_EXPIRE. -/
def execDraintoExpire (s : State) : Host.Outcome State Fault Refusal := whenBooted s drainExpired

/-- The return to IDLE completes (R399). -/
def idleReached (s : State) : State :=
  if s.pwr.target = some Pwr.IDLE ∧ s.lowPower then Reset.leaveLow s else s

/-- MOVE_TO_IDLE. -/
def execMoveToIdle (s : State) : Host.Outcome State Fault Refusal := whenBooted s idleReached

/-- A move between STANDBY and LISTEN completes (R399). -/
def islandReached (s : State) : State :=
  match s.pwr.target with
  | some m => if m < Pwr.IDLE ∧ s.lowPower then Mic.follow (Pwr.arrived s m) else s
  | none => s

/-- ISLAND_MOVE. -/
def execIslandMove (s : State) : Host.Outcome State Fault Refusal := whenBooted s islandReached

/-- PATH_PREPARED for a START in IDLE (R396). -/
def execPathPrepared (s : State) : Host.Outcome State Fault Refusal :=
  whenClocked s (fun s => if s.mode = Pwr.IDLE then { s with pwr := { s.pwr with pathReady := true } } else s)

/-! Resets and the boot. -/

/-- PWRDN_N goes low (R400). -/
def execPwrdn (s : State) : Host.Outcome State Fault Refusal := .next (Reset.off s)

/-- POR (R403). -/
def execPor (straps : Straps) (s : State) : Host.Outcome State Fault Refusal := .next (Reset.por s straps)

/-- SUPPLY_LOSS (R455). -/
def execSupplyLoss (s : State) : Host.Outcome State Fault Refusal := .next (Reset.off s)

/-- PIN_RESET of a device that is not OFF (R403). -/
def execPinReset (straps : Straps) (s : State) : Host.Outcome State Fault Refusal :=
  whenPowered s (fun s => Reset.pin s straps)

/-- FULLRST: SYS.CTRL.FULLRST (R404). -/
def execFullrst (src : Src) (s : State) : Host.Outcome State Fault Refusal :=
  .next (Arb.writeField s src R.SYS_CTRL_FULLRST 1)

/-- ARBITER_STALL (R404). -/
def execArbiterStall (s : State) : Host.Outcome State Fault Refusal := whenClocked s (fun s => Reset.wdg s 5)

/-- BOOT_DONE (R407). -/
def execBootDone (s : State) : Host.Outcome State Fault Refusal := .next (Boot.boot s)

/-- GRAPH_SECTION_LOAD (R414). -/
def execGraphSectionLoad (s : State) : Host.Outcome State Fault Refusal := whenClocked s Boot.graphLoad

/-! The flash. -/

/-- ERASE: NVM.CMD with ACTION 1 (R416). -/
def execErase (src : Src) (s : State) : Host.Outcome State Fault Refusal := .next (Arb.write s src 0x6820 1)

/-- FLUSH: NVM.CMD with ACTION 2 (R416). -/
def execFlush (src : Src) (s : State) : Host.Outcome State Fault Refusal := .next (Arb.write s src 0x6820 2)

/-- VERIFY: NVM.CMD with ACTION 3 (R416). -/
def execVerify (src : Src) (s : State) : Host.Outcome State Fault Refusal := .next (Arb.write s src 0x6820 3)

/-- COPY: NVM.CMD with ACTION 4 (R416). -/
def execCopy (src : Src) (s : State) : Host.Outcome State Fault Refusal := .next (Arb.write s src 0x6820 4)

/-- NVM_OPERATION_DONE (R415, R416); a request that BUSY held is taken (R397). -/
def execNvmOperationDone (ok : Bool) (s : State) : Host.Outcome State Fault Refusal :=
  whenClocked s (fun s => Nvm.done s ok)

/-- LINE_PROGRAM (R415). -/
def execLineProgram (s : State) : Host.Outcome State Fault Refusal := whenClocked s Nvm.lineProgram

/-! Always-on time. -/

/-- One step of the AO timebase (R419). -/
def timebase (s : State) : State :=
  let f := s.get R.SYS_TBFRAC_FRAC
  if f = 65535 then (s.set R.SYS_TBFRAC_FRAC 0).set R.SYS_TBDAY_DAY (s.get R.SYS_TBDAY_DAY + 1)
  else s.set R.SYS_TBFRAC_FRAC (f + 1)

/-- TIMEBASE_TICK. -/
def execTimebaseTick (s : State) : Host.Outcome State Fault Refusal := whenPowered s timebase

/-- LOW_POWER_CRYSTAL_STARTUP (R407, R428). -/
def execLowPowerCrystalStartup (s : State) : Host.Outcome State Fault Refusal :=
  whenPowered s (fun s => { s with lpXtal := true })

end Sys2Proof.Machine
end

