-- ==== Sys2Proof/Machine/Dispatch.lean ====
section
/-! DEFINITION. The meaning of every command, one arm per row of the table. -/
namespace Sys2Proof.Machine
open Sys2Proof

/-- The effect of a command on everything but the queue. -/
def exec (i : Instr) (s : State) : Host.Outcome State Fault Refusal :=
  match i with
  | .writeWord src pec addr data => Sys2Proof.Machine.execWriteWord src pec addr data s
  | .readWord src pec addr => Sys2Proof.Machine.execReadWord src pec addr s
  | .writeBlock src pec addr data => Sys2Proof.Machine.execWriteBlock src pec addr data s
  | .readBlock src pec addr len => Sys2Proof.Machine.execReadBlock src pec addr len s
  | .commit src pec mask => Sys2Proof.Machine.execCommit src pec mask s
  | .readStatus src pec => Sys2Proof.Machine.execReadStatus src pec s
  | .fifoWrite src pec addr data => Sys2Proof.Machine.execFifoWrite src pec addr data s
  | .fifoRead src pec addr len taken => Sys2Proof.Machine.execFifoRead src pec addr len taken s
  | .ping src pec => Sys2Proof.Machine.execPing src pec s
  | .rzForward src pec dst enclosed => Sys2Proof.Machine.execRzForward src pec dst enclosed s
  | .fwdResult src pec off len => Sys2Proof.Machine.execFwdResult src pec off len s
  | .registerWrite src addr data => Sys2Proof.Machine.execRegisterWrite src addr data s
  | .blkReset src page => Sys2Proof.Machine.execBlkReset src page s
  | .blockBoundary ratios => Sys2Proof.Machine.execBlockBoundary ratios s
  | .arm src ctx => Sys2Proof.Machine.execArm src ctx s
  | .start src ctx => Sys2Proof.Machine.execStart src ctx s
  | .stop src ctx => Sys2Proof.Machine.execStop src ctx s
  | .drain src ctx => Sys2Proof.Machine.execDrain src ctx s
  | .release src ctx => Sys2Proof.Machine.execRelease src ctx s
  | .frameArrival ctx frame clip => Sys2Proof.Machine.execFrameArrival ctx frame clip s
  | .frameDue due tick => Sys2Proof.Machine.execFrameDue due tick s
  | .zcTimeout ctx ch => Sys2Proof.Machine.execZcTimeout ctx ch s
  | .clockTrailEnd port => Sys2Proof.Machine.execClockTrailEnd port s
  | .framePeriodError port => Sys2Proof.Machine.execFramePeriodError port s
  | .stallDetect port loss => Sys2Proof.Machine.execStallDetect port loss s
  | .rateMeasureDone port rate => Sys2Proof.Machine.execRateMeasureDone port rate s
  | .asrcLock ctx ratio => Sys2Proof.Machine.execAsrcLock ctx ratio s
  | .asrcRangeExit ctx => Sys2Proof.Machine.execAsrcRangeExit ctx s
  | .grpStartatWrite src hi data => Sys2Proof.Machine.execGrpStartatWrite src hi data s
  | .activityLoss ref => Sys2Proof.Machine.execActivityLoss ref s
  | .frequencyGateEnd ref off => Sys2Proof.Machine.execFrequencyGateEnd ref off s
  | .wtrExpire ref => Sys2Proof.Machine.execWtrExpire ref s
  | .selectionEvaluation phase => Sys2Proof.Machine.execSelectionEvaluation phase s
  | .lockAchieved => Sys2Proof.Machine.execLockAchieved s
  | .apllLock b => Sys2Proof.Machine.execApllLock b s
  | .apllUnlock b => Sys2Proof.Machine.execApllUnlock b s
  | .holdoverHistoryUpdate => Sys2Proof.Machine.execHoldoverHistoryUpdate s
  | .holdoverCorrection => Sys2Proof.Machine.execHoldoverCorrection s
  | .temperatureStale => Sys2Proof.Machine.execTemperatureStale s
  | .testEnter src => Sys2Proof.Machine.execTestEnter src s
  | .testExit src => Sys2Proof.Machine.execTestExit src s
  | .nominalChange ref => Sys2Proof.Machine.execNominalChange ref s
  | .mxtRefillDone => Sys2Proof.Machine.execMxtRefillDone s
  | .crosspointZcTimeout entry => Sys2Proof.Machine.execCrosspointZcTimeout entry s
  | .crosspointRampEnd entry => Sys2Proof.Machine.execCrosspointRampEnd entry s
  | .gload src data => Sys2Proof.Machine.execGload src data s
  | .admissionDone => Sys2Proof.Machine.execAdmissionDone s
  | .gswitch src mask => Sys2Proof.Machine.execGswitch src mask s
  | .taskDispatch eng => Sys2Proof.Machine.execTaskDispatch eng s
  | .taskComplete eng status out => Sys2Proof.Machine.execTaskComplete eng status out s
  | .registerServiceCall eng packet => Sys2Proof.Machine.execRegisterServiceCall eng packet s
  | .sagTrip vdd33 inside => Sys2Proof.Machine.execSagTrip vdd33 inside s
  | .droopStepUp => Sys2Proof.Machine.execDroopStepUp s
  | .thallusDoubleBitError addr slot => Sys2Proof.Machine.execThallusDoubleBitError addr slot s
  | .scrubPass => Sys2Proof.Machine.execScrubPass s
  | .engineEnable src eng => Sys2Proof.Machine.execEngineEnable src eng s
  | .engineDisable src eng => Sys2Proof.Machine.execEngineDisable src eng s
  | .selftestDone eng pass => Sys2Proof.Machine.execSelftestDone eng pass s
  | .engineQuarantine eng dmem => Sys2Proof.Machine.execEngineQuarantine eng dmem s
  | .taskWatchdog eng cycles => Sys2Proof.Machine.execTaskWatchdog eng cycles s
  | .engRelease src eng => Sys2Proof.Machine.execEngRelease src eng s
  | .roll src carry => Sys2Proof.Machine.execRoll src carry s
  | .rollSetCheckDone => Sys2Proof.Machine.execRollSetCheckDone s
  | .reloadDone eng ok => Sys2Proof.Machine.execReloadDone eng ok s
  | .hwmuteChange high => Sys2Proof.Machine.execHwmuteChange high s
  | .peatZeroed => Sys2Proof.Machine.execPeatZeroed s
  | .micStartSequence => Sys2Proof.Machine.execMicStartSequence s
  | .vddwaitEnd => Sys2Proof.Machine.execVddwaitEnd s
  | .settled clocks => Sys2Proof.Machine.execSettled clocks s
  | .micvddOvercurrent => Sys2Proof.Machine.execMicvddOvercurrent s
  | .liveProbeEnd => Sys2Proof.Machine.execLiveProbeEnd s
  | .reprobe => Sys2Proof.Machine.execReprobe s
  | .peatFrame xs => Sys2Proof.Machine.execPeatFrame xs s
  | .sporeHop conf onset => Sys2Proof.Machine.execSporeHop conf onset s
  | .fhdHop conf => Sys2Proof.Machine.execFhdHop conf s
  | .fhdwinExpire => Sys2Proof.Machine.execFhdwinExpire s
  | .vwinExpire => Sys2Proof.Machine.execVwinExpire s
  | .verdictAccept src => Sys2Proof.Machine.execVerdictAccept src s
  | .verdictReject src => Sys2Proof.Machine.execVerdictReject src s
  | .wakeEnable src => Sys2Proof.Machine.execWakeEnable src s
  | .wakeDisable src => Sys2Proof.Machine.execWakeDisable src s
  | .wakeSequencerStep => Sys2Proof.Machine.execWakeSequencerStep s
  | .wakeDeferExpire => Sys2Proof.Machine.execWakeDeferExpire s
  | .candidateExpired => Sys2Proof.Machine.execCandidateExpired s
  | .modelLoadStart src => Sys2Proof.Machine.execModelLoadStart src s
  | .catchupTransfer ctx n => Sys2Proof.Machine.execCatchupTransfer ctx n s
  | .pgaZcTimeout input => Sys2Proof.Machine.execPgaZcTimeout input s
  | .micbiasOvercurrent n => Sys2Proof.Machine.execMicbiasOvercurrent n s
  | .outputStart out => Sys2Proof.Machine.execOutputStart out s
  | .chargePumpReady => Sys2Proof.Machine.execChargePumpReady s
  | .servoDone out left right => Sys2Proof.Machine.execServoDone out left right s
  | .outputStop out => Sys2Proof.Machine.execOutputStop out s
  | .outputOvercurrent out => Sys2Proof.Machine.execOutputOvercurrent out s
  | .hpDetChange inserted => Sys2Proof.Machine.execHpDetChange inserted s
  | .jackDebounceEnd => Sys2Proof.Machine.execJackDebounceEnd s
  | .jackPendingResume => Sys2Proof.Machine.execJackPendingResume s
  | .typeMeasurementDone uv => Sys2Proof.Machine.execTypeMeasurementDone uv s
  | .impedanceMeasurementDone uv => Sys2Proof.Machine.execImpedanceMeasurementDone uv s
  | .buttonPress uv => Sys2Proof.Machine.execButtonPress uv s
  | .buttonRelease => Sys2Proof.Machine.execButtonRelease s
  | .btnmuteEnd => Sys2Proof.Machine.execBtnmuteEnd s
  | .listenButtonPress => Sys2Proof.Machine.execListenButtonPress s
  | .ampStart ch => Sys2Proof.Machine.execAmpStart ch s
  | .bootstrapDone ch => Sys2Proof.Machine.execBootstrapDone ch s
  | .ampStop ch => Sys2Proof.Machine.execAmpStop ch s
  | .ampOvercurrent ch => Sys2Proof.Machine.execAmpOvercurrent ch s
  | .retryTimerExpire ch => Sys2Proof.Machine.execRetryTimerExpire ch s
  | .loadTestDone ch termP termN lichUv senseUv senseUa => Sys2Proof.Machine.execLoadTestDone ch termP termN lichUv senseUv senseUa s
  | .clrflt src ch => Sys2Proof.Machine.execClrflt src ch s
  | .triesClean ch => Sys2Proof.Machine.execTriesClean ch s
  | .dcOffsetDetect ch => Sys2Proof.Machine.execDcOffsetDetect ch s
  | .pvddFault level => Sys2Proof.Machine.execPvddFault level s
  | .dieTemperatureThreshold t => Sys2Proof.Machine.execDieTemperatureThreshold t s
  | .thermalModelStep => Sys2Proof.Machine.execThermalModelStep s
  | .reWindowEnd ch uv ua => Sys2Proof.Machine.execReWindowEnd ch uv ua s
  | .ntcStale k => Sys2Proof.Machine.execNtcStale k s
  | .senseSample vi pvdd => Sys2Proof.Machine.execSenseSample vi pvdd s
  | .apply src => Sys2Proof.Machine.execApply src s
  | .vbusChange present => Sys2Proof.Machine.execVbusChange present s
  | .busReset high => Sys2Proof.Machine.execBusReset high s
  | .setConfiguration configured => Sys2Proof.Machine.execSetConfiguration configured s
  | .setInterface isIn setting => Sys2Proof.Machine.execSetInterface isIn setting s
  | .setCurSampleFrequency hz => Sys2Proof.Machine.execSetCurSampleFrequency hz s
  | .setCurClockSelector pin => Sys2Proof.Machine.execSetCurClockSelector pin s
  | .setCurFeatureUnit unit21 ch mute value => Sys2Proof.Machine.execSetCurFeatureUnit unit21 ch mute value s
  | .getCur ctl => Sys2Proof.Machine.execGetCur ctl s
  | .getRange ctl => Sys2Proof.Machine.execGetRange ctl s
  | .usbOutPacket good data => Sys2Proof.Machine.execUsbOutPacket good data s
  | .usbInPacket more => Sys2Proof.Machine.execUsbInPacket more s
  | .feedbackUpdate m => Sys2Proof.Machine.execFeedbackUpdate m s
  | .clockValidityChange k => Sys2Proof.Machine.execClockValidityChange k s
  | .suspend => Sys2Proof.Machine.execSuspend s
  | .resume => Sys2Proof.Machine.execResume s
  | .lpmTransaction rwake => Sys2Proof.Machine.execLpmTransaction rwake s
  | .l1Exit => Sys2Proof.Machine.execL1Exit s
  | .rwake => Sys2Proof.Machine.execRwake s
  | .hidInputReport phoneMute => Sys2Proof.Machine.execHidInputReport phoneMute s
  | .hidOutputReport report => Sys2Proof.Machine.execHidOutputReport report s
  | .unknownRequest => Sys2Proof.Machine.execUnknownRequest s
  | .frameReceive portB frame => Sys2Proof.Machine.execFrameReceive portB frame s
  | .masterFrameEmit => Sys2Proof.Machine.execMasterFrameEmit s
  | .portSwap => Sys2Proof.Machine.execPortSwap s
  | .echoMeasurement portB trip => Sys2Proof.Machine.execEchoMeasurement portB trip s
  | .circMeasured => Sys2Proof.Machine.execCircMeasured s
  | .repres src => Sys2Proof.Machine.execRepres src s
  | .rreset src dst => Sys2Proof.Machine.execRreset src dst s
  | .cresync src => Sys2Proof.Machine.execCresync src s
  | .claim src slot => Sys2Proof.Machine.execClaim src slot s
  | .slotRelease src slot => Sys2Proof.Machine.execSlotRelease src slot s
  | .claimTimeout => Sys2Proof.Machine.execClaimTimeout s
  | .claimCell cell => Sys2Proof.Machine.execClaimCell cell s
  | .grantCell cell => Sys2Proof.Machine.execGrantCell cell s
  | .refuseCell cell => Sys2Proof.Machine.execRefuseCell cell s
  | .releaseCell cell => Sys2Proof.Machine.execReleaseCell cell s
  | .mapreqCell cell => Sys2Proof.Machine.execMapreqCell cell s
  | .cmdCell cell => Sys2Proof.Machine.execCmdCell cell s
  | .resultCell cell => Sys2Proof.Machine.execResultCell cell s
  | .errorCell cell => Sys2Proof.Machine.execErrorCell cell s
  | .eventCell cell => Sys2Proof.Machine.execEventCell cell s
  | .resetCell cell => Sys2Proof.Machine.execResetCell cell s
  | .bkannCell cell => Sys2Proof.Machine.execBkannCell cell s
  | .bkannRepeat => Sys2Proof.Machine.execBkannRepeat s
  | .backupRecordTimeout => Sys2Proof.Machine.execBackupRecordTimeout s
  | .reassemblyTimeout from' tag => Sys2Proof.Machine.execReassemblyTimeout from' tag s
  | .forwardNoAnswer of => Sys2Proof.Machine.execForwardNoAnswer of s
  | .cellResend portB lseq => Sys2Proof.Machine.execCellResend portB lseq s
  | .masterLossFailover => Sys2Proof.Machine.execMasterLossFailover s
  | .masterListenEnd => Sys2Proof.Machine.execMasterListenEnd s
  | .rhizomeStall => Sys2Proof.Machine.execRhizomeStall s
  | .regularPassStart onB => Sys2Proof.Machine.execRegularPassStart onB s
  | .regularEntryEnd onB sum => Sys2Proof.Machine.execRegularEntryEnd onB sum s
  | .injectedRequest amp jack => Sys2Proof.Machine.execInjectedRequest amp jack s
  | .injectedTimerTick => Sys2Proof.Machine.execInjectedTimerTick s
  | .injswGo src => Sys2Proof.Machine.execInjswGo src s
  | .injectedEntryEnd onB sum => Sys2Proof.Machine.execInjectedEntryEnd onB sum s
  | .plausibilityDue => Sys2Proof.Machine.execPlausibilityDue s
  | .plausibilityCheckEnd sumA sumB => Sys2Proof.Machine.execPlausibilityCheckEnd sumA sumB s
  | .cal src => Sys2Proof.Machine.execCal src s
  | .calibrationStart => Sys2Proof.Machine.execCalibrationStart s
  | .calibrationDone => Sys2Proof.Machine.execCalibrationDone s
  | .cdacInputWrite src n data => Sys2Proof.Machine.execCdacInputWrite src n data s
  | .load src mask => Sys2Proof.Machine.execLoad src mask s
  | .loadNEdge => Sys2Proof.Machine.execLoadNEdge s
  | .ptArm src => Sys2Proof.Machine.execPtArm src s
  | .disarm src => Sys2Proof.Machine.execDisarm src s
  | .presentationTimeLoad => Sys2Proof.Machine.execPresentationTimeLoad s
  | .slewTick n => Sys2Proof.Machine.execSlewTick n s
  | .streamSubsampleLoad ctx j => Sys2Proof.Machine.execStreamSubsampleLoad ctx j s
  | .safeCauseChange => Sys2Proof.Machine.execSafeCauseChange s
  | .safeclr src => Sys2Proof.Machine.execSafeclr src s
  | .supervisionFault n stands => Sys2Proof.Machine.execSupervisionFault n stands s
  | .ctlStart edge cut => Sys2Proof.Machine.execCtlStart edge cut s
  | .ctlTimeout cut => Sys2Proof.Machine.execCtlTimeout cut s
  | .addressProbeEnd => Sys2Proof.Machine.execAddressProbeEnd s
  | .addressProbeStart => Sys2Proof.Machine.execAddressProbeStart s
  | .alertResponse => Sys2Proof.Machine.execAlertResponse s
  | .auxGo src => Sys2Proof.Machine.execAuxGo src s
  | .auxTransferEnd result nackPos pulses rx => Sys2Proof.Machine.execAuxTransferEnd result nackPos pulses rx s
  | .arbitrationLost pulses => Sys2Proof.Machine.execArbitrationLost pulses s
  | .auxBackoffEnd => Sys2Proof.Machine.execAuxBackoffEnd s
  | .auxTimeout pulses rx => Sys2Proof.Machine.execAuxTimeout pulses rx s
  | .abort src => Sys2Proof.Machine.execAbort src s
  | .modeRequest src mode => Sys2Proof.Machine.execModeRequest src mode s
  | .heldRequestTaken => Sys2Proof.Machine.execHeldRequestTaken s
  | .moveToLowPower => Sys2Proof.Machine.execMoveToLowPower s
  | .draintoExpire => Sys2Proof.Machine.execDraintoExpire s
  | .moveToIdle => Sys2Proof.Machine.execMoveToIdle s
  | .islandMove => Sys2Proof.Machine.execIslandMove s
  | .pathPrepared => Sys2Proof.Machine.execPathPrepared s
  | .pwrdn => Sys2Proof.Machine.execPwrdn s
  | .por straps => Sys2Proof.Machine.execPor straps s
  | .supplyLoss => Sys2Proof.Machine.execSupplyLoss s
  | .pinReset straps => Sys2Proof.Machine.execPinReset straps s
  | .fullrst src => Sys2Proof.Machine.execFullrst src s
  | .arbiterStall => Sys2Proof.Machine.execArbiterStall s
  | .bootDone => Sys2Proof.Machine.execBootDone s
  | .graphSectionLoad => Sys2Proof.Machine.execGraphSectionLoad s
  | .erase src => Sys2Proof.Machine.execErase src s
  | .flush src => Sys2Proof.Machine.execFlush src s
  | .verify src => Sys2Proof.Machine.execVerify src s
  | .copy src => Sys2Proof.Machine.execCopy src s
  | .nvmOperationDone ok => Sys2Proof.Machine.execNvmOperationDone ok s
  | .lineProgram => Sys2Proof.Machine.execLineProgram s
  | .gpioEdge pin high => Sys2Proof.Machine.execGpioEdge pin high s
  | .set src mask => Sys2Proof.Machine.execSet src mask s
  | .clr src mask => Sys2Proof.Machine.execClr src mask s
  | .timebaseTick => Sys2Proof.Machine.execTimebaseTick s
  | .ref10HoldExpire => Sys2Proof.Machine.execRef10HoldExpire s
  | .lowPowerCrystalStartup => Sys2Proof.Machine.execLowPowerCrystalStartup s
  | .addressConflict sdaLow => Sys2Proof.Machine.execAddressConflict sdaLow s
  | .setAddress address => Sys2Proof.Machine.execSetAddress address s
  | .setFeature enable => Sys2Proof.Machine.execSetFeature enable s

end Sys2Proof.Machine
end

