-- ==== Sys2Proof/Machine/LineOps.lean ====
section
/-! DEFINITION. The bytes of a Rhizome frame and of a cell on the line (R315, R316, R327, R328): what the frame a
receiver takes, and the one a transmitter sends, is written as. -/
namespace Sys2Proof.Machine.Line
open Sys2Proof Sys2Proof.Machine

/-- A little-endian 16-bit field. -/
def half (n : Nat) : List Byte := (wordBytes n).take 2

/-- The `n` bytes at offset `o`. -/
def cut (bs : List Byte) (o n : Nat) : List Byte := (bs.drop o).take n

/-- The number that `n` bytes at offset `o` hold. -/
def at' (bs : List Byte) (o n : Nat) : Nat := leNat (cut bs o n)

/-- Bytes with their CRC-16 after them (R316). -/
def sealed (bs : List Byte) : List Byte := bs ++ half (Rz.crc16 bs)

/-- The data octet of K28.5, the COMMA of a header. PRESUMED, notes/assumptions/111.md. -/
def comma : Byte := 0xBC

/-! The header (R316). -/

/-- FLAGS of a header. -/
def flags (f : RzFrame) : Nat := b2n f.half + 2 * b2n f.acting + 4 * b2n f.ret

/-- The 32 bytes of a header; HCRC covers bytes 1 to 29. -/
def header (f : RzFrame) : List Byte :=
  comma :: sealed ([BitVec.ofNat 8 (flags f)] ++ half f.domain.toNat ++ wordBytes f.midx.toNat ++
    wordBytes (f.midx.toNat / 2 ^ 32) ++ wordBytes f.muid.toNat ++ half f.maddr.toNat ++ half f.hops.toNat ++
    wordBytes f.accdly.toNat ++ half f.presd.toNat ++ half f.mapcrc.toNat ++ [0, 0])

/-- The header at the front of a frame's bytes; `ok`: COMMA and HCRC are right. -/
def readHeader (bs : List Byte) : RzFrame :=
  let fl := at' bs 1 1
  { ok := bs.head? == some comma && Rz.crc16 (cut bs 1 29) == at' bs 30 2
    half := bit fl 0, acting := bit fl 1, ret := bit fl 2
    domain := BitVec.ofNat 16 (at' bs 2 2), midx := BitVec.ofNat 64 (at' bs 4 8), muid := BitVec.ofNat 32 (at' bs 12 4)
    maddr := BitVec.ofNat 10 (at' bs 16 2), hops := BitVec.ofNat 10 (at' bs 18 2)
    accdly := BitVec.ofNat 32 (at' bs 20 4), presd := BitVec.ofNat 16 (at' bs 24 2)
    mapcrc := BitVec.ofNat 16 (at' bs 26 2), slots := [], ackseq := 0, nak := false, resync := false
    resyncAns := false, credits := 0, free := 0, cells := [] }

/-! Cells (R328). -/

/-- The 64 bytes of a cell; a payload of fewer than 50 bytes is followed by zeros.
DESIGN CHOICE, notes/assumptions/105.md. -/
def cell (c : LinkCell) : List Byte :=
  let k := c.cell
  sealed ([BitVec.ofNat 8 (c.typ.toNat + 128 * b2n c.out), c.lseq] ++ half (k.dst.toNat + 32768 * b2n k.bcast) ++
    half k.src.toNat ++ half k.srcdom.toNat ++ [BitVec.ofNat 8 (k.frag.toNat + 128 * b2n k.last), k.tag] ++
    half k.payload.length ++ k.payload ++ List.replicate (50 - k.payload.length) 0)

/-- The cell in 64 bytes; `good`: its CRC passes. -/
def readCell (bs : List Byte) : LinkCell :=
  let t := at' bs 0 1
  let d := at' bs 2 2
  let g := at' bs 8 1
  { typ := BitVec.ofNat 4 t, out := bit t 7, lseq := BitVec.ofNat 8 (at' bs 1 1)
    good := Rz.crc16 (cut bs 0 62) == at' bs 62 2
    cell := { bcast := bit d 15, dst := BitVec.ofNat 10 d, src := BitVec.ofNat 10 (at' bs 4 2)
              srcdom := BitVec.ofNat 16 (at' bs 6 2), frag := BitVec.ofNat 7 g, last := bit g 7
              tag := BitVec.ofNat 8 (at' bs 9 1), payload := cut bs 12 (at' bs 10 2) } }

/-! Slots and the link-control block (R315, R327). -/

/-- The words of the 512 slots; one that is not VALID is 0. -/
def slots (f : RzFrame) : List Byte :=
  (List.range 512).flatMap (fun k =>
    wordBytes (((f.slots.find? (fun e => e.1.toNat == k)).map (fun e => e.2.1.toNat)).getD 0))

/-- A map of 512 bits, bit `k mod 8` of byte `k / 8` (R315). -/
def map512 (p : Nat → Bool) : List Byte :=
  (List.range 64).map (fun j => BitVec.ofNat 8 (maskOf 8 (fun i => p (8 * j + i))))

/-- The 32 bytes of a link-control block with no echo symbol (R327). -/
def control (f : RzFrame) : List Byte :=
  [0, f.ackseq, BitVec.ofNat 8 (b2n f.nak + 2 * b2n f.resync + 4 * b2n f.resyncAns),
    BitVec.ofNat 8 f.credits.toNat, BitVec.ofNat 8 f.free.toNat] ++ List.replicate 27 0

/-- The link-control block joins a frame. -/
def readControl (f : RzFrame) (bs : List Byte) : RzFrame :=
  let b := at' bs 2 1
  { f with
    ackseq := BitVec.ofNat 8 (at' bs 1 1), nak := bit b 0, resync := bit b 1, resyncAns := bit b 2
    credits := BitVec.ofNat 5 (at' bs 3 1), free := BitVec.ofNat 5 (at' bs 4 1) }

/-- The five cell positions; one that carries no cell is zeros, TYPE 0. DESIGN CHOICE, notes/assumptions/105.md. -/
def positions (cs : List LinkCell) : List Byte := cs.flatMap cell ++ List.replicate (64 * (5 - cs.length)) 0

/-- The 2,560 bytes of a frame (R315). -/
def frame (f : RzFrame) : List Byte :=
  header f ++ slots f ++ map512 (fun k => f.slots.any (fun e => e.1.toNat == k)) ++
    map512 (fun k => f.slots.any (fun e => e.1.toNat == k && e.2.2)) ++ control f ++ positions f.cells

/-- The frame in 2,560 bytes (R315). -/
def readFrame (bs : List Byte) : RzFrame :=
  let set (o k : Nat) : Bool := bit (at' bs (o + k / 8) 1) (k % 8)
  { readControl (readHeader bs) (cut bs 2208 32) with
    slots := ((List.range 512).filter (set 2080)).map (fun k =>
      (BitVec.ofNat 9 k, BitVec.ofNat 32 (at' bs (32 + 4 * k) 4), set 2144 k))
    cells := ((List.range 5).map (fun k => readCell (cut bs (2240 + 64 * k) 64))).filter (fun c => c.typ != 0) }

end Sys2Proof.Machine.Line
end

