-- ==== Sys2Proof/Safety.lean ====
section
/-! DEFINITION. What counts as a safe run, the laws a state keeps (the ledger of R118, the form of the memory), and
the frame predicates the claims are written with. -/
namespace Sys2Proof.Safety
open Sys2Proof Sys2Proof.Machine

/-- A run of `n` steps is safe: every step answers a next state. -/
def SafeFor : Nat → State → Prop
  | 0, _ => True
  | n + 1, s => ∃ t, step s = .next t ∧ SafeFor n t

/-! The conservation law of R118. -/

/-- IN − OUT − DROP + PAD of a context equals the frames it holds, modulo 2^48; the values that reads return obey
the same law. -/
def Conserved (x : Ctx) : Prop :=
  x.cin - x.cout - x.cdrop + x.cpad = BitVec.ofNat 48 x.fill ∧
    x.pub.cin - x.pub.cout - x.pub.cdrop + x.pub.cpad = BitVec.ofNat 48 x.pub.fill

/-- Every context obeys the law. -/
def AllConserved (s : State) : Prop := ∀ c, Conserved (s.ctx c)

/-! Frames. -/

/-- Every register field that shares no place with one of the list reads as before. -/
def FieldsKept (s t : State) (fs : List Fld) : Prop := ∀ g : Fld, (∀ f ∈ fs, f.key ≠ g.key) → t.get g = s.get g

/-- Every byte of Thallus, Peat, the NVM banks and the factory area reads as before. -/
def BytesKept (s t : State) : Prop := ∀ a, t.byte a = s.byte a

/-- Nothing but the register fields of the list has changed. -/
def OnlyFields (s t : State) (fs : List Fld) : Prop :=
  t = { s with regs := t.regs } ∧ FieldsKept s t fs ∧ BytesKept s t

/-- Nothing has changed. -/
def Unchanged (s t : State) : Prop := t = s

/-! Register writes as one packet (R36, R44). -/

/-- A packet of a source goes straight to the registers: the source is served, nothing is held and the packet has not
to wait for a refill (R149), no FULL reset is pending, and on the control bus the PEC is not required (R382) and in
STANDBY and LISTEN the packet is one that is served (R376). -/
def Ready (s : State) (src : Src) (p : Packet) : Prop :=
  Arb.served s src = true ∧ Arb.holds s p = false ∧ s.on R.SYS_CTRL_FULLRST = false ∧
    (src = .ctl → s.on R.CBUS_CFG_PECREQ = false ∧ (s.lowPower = true → Arb.lowCmd p = true))

/-- The source's write of a register word is accepted: the packet goes straight to the registers and passes every check
of R37. -/
def Accepted (s : State) (src : Src) (a d : Nat) : Prop :=
  Ready s src (.writeWord (BitVec.ofNat 24 a) (BitVec.ofNat 32 d)) ∧ Arb.wordCheck s src true a d = none

/-- The fields in which the outcome of a CTL command is recorded (R380, R393). -/
def outcomeFields : List Fld :=
  [R.CBUS_LASTRES_CMD, R.CBUS_LASTRES_RESULT, R.CBUS_LASTRES_REASON, R.CBUS_PKTCNT_APPLIED, R.CBUS_PKTCNT_NOTAPPL]

/-- The fields in which a rejection is counted and recorded (R38), beside the outcome of a CTL command; `f` is the
page's own count. -/
def rejectionFields (src : Src) (f : Fld) : List Fld :=
  outcomeFields ++ [f, Arb.rejSrc src, R.ACC_ERRCNT_REJ, R.ACC_RSVCNT_COUNT, R.ACC_IFLG_RSVACC, R.ACC_LASTREJ_VALID, R.ACC_LASTREJ_SRC,
    R.ACC_LASTREJ_REASON, R.ACC_LASTREJ_ADDR, R.ACC_IFLG_REJ]

/-- The answers given to the sources, as they stand in `t`, put into `s`. -/
def withAnswers (s t : State) : AccSt := { s.acc with replies := t.acc.replies, engWords := t.acc.engWords }

/-- A packet has been applied that changes register fields alone: those of the list, and the record of the
outcome. -/
def PacketFields (s t : State) (fs : List Fld) : Prop :=
  t = { s with regs := t.regs, acc := withAnswers s t } ∧ FieldsKept s t (outcomeFields ++ fs) ∧ BytesKept s t

/-- The state after an applied write packet with command byte `cmd`, `u` being what its words leave: the outcome is
noted for CTL (R380, R393), the answer is recorded (R39). -/
def recorded (u : State) (src : Src) (cmd : Nat) : State :=
  Arb.answer (if src = .ctl then Cbus.note u cmd true Cbus.APPLIED 0 else u) src .applied

/-- The state after a served read command, `u` being what the read leaves: the outcome is noted for CTL, the bytes are
the answer (R39, R380). -/
def readOut (u : State) (src : Src) (cmd : Nat) (bs : List Byte) : State :=
  Arb.answer (if src = .ctl then Cbus.note u cmd false Cbus.APPLIED 0 else u) src (.data bs)

/-- The PEC that follows the bytes of a read with CMD bit 7 set (R377, R382): over the address byte of the write phase, the
command byte, the address byte of the read phase and the bytes. -/
def readPec (s : State) (cmd : Nat) (bs : List Byte) : Byte :=
  BitVec.ofNat 8 (pec ([2 * s.get R.CBUS_STAT_ACTIVE, cmd, 2 * s.get R.CBUS_STAT_ACTIVE + 1].map (BitVec.ofNat 8) ++ bs))

/-- The word of the register at address `a` with the bits of `set` set and those of `clear` cleared, the others as
they stand. -/
def modified (s : State) (a set clear : Nat) : Nat :=
  match locate a with
  | .reg _ _ _ r => maskOf 32 (fun i => bit set i || (bit (View.stored s r a 0) i && !bit clear i))
  | _ => set

/-- The word of a field's register with the field set to a value, the other bits as they stand. -/
def withField (s : State) (f : Fld) (v : Nat) : Nat :=
  modified s f.addr (v % 2 ^ f.w * 2 ^ f.lo) ((2 ^ f.w - 1) * 2 ^ f.lo)

/-- The state after an accepted request on a context: it has joined the requests that the next boundary applies
(R102, R116). -/
def asked (s : State) (src : Src) (c : Byte) (q : Req) : State :=
  recorded { s with strm := { s.strm with reqs := s.strm.reqs ++ [(c.toNat, q)] } } src 1

/-- The command that asks for a request on a context (R102). -/
def requestOf (q : Req) (src : Src) (c : Byte) : Instr :=
  match q with
  | .arm => .arm src c
  | .start => .start src c
  | .stop => .stop src c
  | .drain => .drain src c
  | .release => .release src c

/-- GPIO outputs take the levels of `v` (R432): beside OUT, STAT.IN of each pin shows the level that the pin drives; with
DEBEN and for BLKTICK it is as before. -/
def Driven (s t : State) (v : Nat) : Prop :=
  t.get R.GPIO_OUT_OUT = v ∧ OnlyFields s t [R.GPIO_OUT_OUT, R.GPIO_STAT_IN, R.GPIO_IFLG_EDGE] ∧
    ∀ n < 8, bit (t.get R.GPIO_STAT_IN) n = match Gpio.driven (s.set R.GPIO_OUT_OUT v) n with
      | some h => if s.on (R.GPIO_CFG_DEBEN n) ∨ s.on (R.GPIO_CFG_FUNC n) then bit (s.get R.GPIO_STAT_IN) n else h
      | none => bit (s.get R.GPIO_STAT_IN) n

/-- A flash operation has ended and the FIFO holds `q` (R415): with 16 bytes in it the next lines are in progress, else
nothing is. -/
def NextLines (s t : State) (q : List Byte) : Prop :=
  t.nvm.fifo = q ∧ t.get R.NVM_STAT_BUSY = b2n (decide (16 ≤ q.length)) ∧
    t.get R.NVM_STAT_OP = 2 * b2n (decide (16 ≤ q.length)) ∧ t.strm.ctxs = s.strm.ctxs

/-- Every context but one is as before. -/
def OtherContextsKept (s t : State) (c : Nat) : Prop := ∀ d, d ≠ c → t.ctx d = s.ctx d

/-- Frame `f` stands at place `k` of the buffer of context `c` in Thallus (R99, R158). -/
def FrameHeld (s : State) (c k : Nat) (f : Frame) : Prop :=
  ∀ ch < s.cNch c, s.word (thallus + Strm.placeAt s c k + 4 * ch) = (f.getD ch 0).toNat

/-- The open candidate is closed without an accept (R215): the stage is `st`, START is none, and `f` counts it. -/
def CandidateClosed (s t : State) (st : Nat) (f : Fld) : Prop :=
  t.get R.WAKE_STAT_STAGE = st ∧ t.get R.FHD_STAT_ENGAGED = 0 ∧ t.get R.WAKE_STARTLO_IDX = 0 ∧
    t.get R.WAKE_STARTHI_IDX = 0 ∧ t.get R.WAKE_IFLG_REJECT = 1 ∧ t.get f = min (s.get f + 1) (2 ^ f.w - 1) ∧
    t = { s with regs := t.regs, mic := { s.mic with seq := 0 } } ∧ FieldsKept s t [R.WAKE_STAT_STAGE,
      R.FHD_STAT_ENGAGED, R.WAKE_STARTLO_IDX, R.WAKE_STARTHI_IDX, R.WAKE_IFLG_REJECT, f]

/-- Nothing but the register fields of the list and what amplifier channel `n` and the queue of load tests hold has
changed. -/
def OnlyChannel (s t : State) (n : Nat) (fs : List Fld) : Prop :=
  t = { s with regs := t.regs, amp := t.amp } ∧ FieldsKept s t fs ∧ ∀ m, m ≠ n → Amp.ch t m = Amp.ch s m

/-- What an event of the USB bus leaves (R295): every RUNNING TYPE 2 context STALLED with CAUSE 4, its frames kept; the
other contexts, and every register field but those of the list and those that a stall and a failing reference write,
as before. -/
def BusEvent (s t : State) (fs : List Fld) : Prop :=
  (∀ c ∈ Usb.running s, (t.ctx c).st = .stalled ∧ (t.ctx c).cause = 4 ∧ (t.ctx c).fill = (s.ctx c).fill ∧
      (t.ctx c).wpos = (s.ctx c).wpos) ∧
    (∀ c, c ∉ Usb.running s → t.ctx c = s.ctx c) ∧ FieldsKept s t (fs ++ [R.ASRC_IFLG_HOLD, R.ASRC_ERRCNT_BLKERR,
      R.STRM_IFLG_STALL, R.STRM_ERRCNT_BLKERR, R.CLKM_REFSTAT_ST, R.CLKM_IFLG_REFFAIL, R.CLKM_ERRCNT_BLKERR]) ∧
    t = { s with regs := t.regs, strm := { s.strm with ctxs := t.strm.ctxs }, usb := t.usb, asrc := t.asrc }

/-- The control-DAC channels of `p` whose LDSRC is `k` have loaded (R357): OUT is IN; of the other channels OUT is as
before.  A channel of the privacy logic does not load (R367). -/
def Loaded (s t : State) (k : Nat) (p : Nat → Bool) : Prop :=
  (∀ n < 8,
    (p n = true → s.get (R.CDAC_CFG_LDSRC n) = k → Cdac.owned s n = false →
      t.get (R.CDAC_OUT_MODE n) = s.get (R.CDAC_IN_MODE n) ∧ t.get (R.CDAC_OUT_GAIN n) = s.get (R.CDAC_IN_GAIN n) ∧
        t.get (R.CDAC_OUT_CODE n) = s.get (R.CDAC_IN_CODE n)) ∧
    (p n = false ∨ s.get (R.CDAC_CFG_LDSRC n) ≠ k ∨ Cdac.owned s n = true →
      t.get (R.CDAC_OUT_MODE n) = s.get (R.CDAC_OUT_MODE n) ∧ t.get (R.CDAC_OUT_GAIN n) = s.get (R.CDAC_OUT_GAIN n) ∧
        t.get (R.CDAC_OUT_CODE n) = s.get (R.CDAC_OUT_CODE n))) ∧
    t = { s with regs := t.regs, cdac := t.cdac } ∧
    FieldsKept s t (R.CDAC_IFLG_PUDONE :: (List.range 8).flatMap (fun n =>
      [R.CDAC_OUT_MODE n, R.CDAC_OUT_GAIN n, R.CDAC_OUT_CODE n, R.CDAC_NOW_VALUE n]))

end Sys2Proof.Safety
end

