-- ==== Sys2Proof/Certificates/Slice0/Obligations.lean ====
section
/-! DEFINITION. The statements of this row, for the provers: laws of the command queue and of every step, then family
by family what each command does.  `Ready` and `Accepted` (Sys2Proof/Safety.lean) say when a packet of a source goes
straight to the registers and passes the checks of R37; `recorded` and `readOut` record the outcome. -/
section
open Sys2Proof Sys2Proof.Machine Sys2Proof.Safety

/-- One step runs exactly the command at the front of the queue, on the state with the queue's rest. -/
def Obligations.QueueFront : Prop :=
  ∀ (c : Instr) (rest : List Instr) (s : State),
    step { s with pending := c :: rest } = exec c { s with pending := rest }

/-- On an empty queue the block idles. The model's choice: notes/assumptions/1.md. -/
def Obligations.EmptyQueueIdles : Prop := ∀ s : State, s.pending = [] → step s = .next s

/-- Every command answers a next state in every state; the one exception is a SAG_TRIP whose operand tells that the
supplies are outside the conditions of R440, for which R441 gives no behaviour: a fault. -/
def Obligations.OutcomesClosed : Prop :=
  ∀ (c : Instr) (s : State), (∃ t, exec c s = .next t) ∨
    (∃ v, c = .sagTrip v false ∧ exec c s = .fault .outsideConditions)

/-- What reset leaves: every register field at its reset value, every context, graph slot and engine empty, every
crosspoint muted, nothing staged, taken or held, every byte as unwritten, and no source served before the boot ends.
Where the rules leave the reading open it is the model's choice: notes/assumptions/5.md and notes/assumptions/7.md. -/
def Obligations.ResetState : Prop :=
  (∀ f : Fld, State.reset.get f = f.rst % 2 ^ f.w) ∧ (∀ c, State.reset.ctx c = Ctx.zero) ∧
    (∀ k, State.reset.slot k = Slot.empty) ∧ (∀ n, State.reset.engine n = Eng.zero) ∧
    (∀ e, Map.get 0 (Mtx.active State.reset) e = 0) ∧ State.reset.acc.staged = [] ∧ State.reset.acc.taken = [] ∧
    State.reset.acc.held = [] ∧ State.reset.pending = [] ∧ (∀ a, State.reset.byte a = memDefault a) ∧
    (∀ src, Arb.served State.reset src = false) ∧
    Clkm.state State.reset = Clkm.ACQUIRE ∧ (∀ n : Fin 12, n.val ≠ 0 → Clkm.refState State.reset n.val = Clkm.DISABLED)

/-- Every step keeps the memory in its canonical form. Where the rules leave the reading open it is the model's
choice: notes/assumptions/7.md. -/
def Obligations.MemoryCanonicalKept : Prop := ∀ s t : State, s.memWf = true → step s = .next t → t.memWf = true

/-- Every step keeps the conservation law of every context (R118). -/
def Obligations.ConservationKept : Prop := ∀ s t : State, AllConserved s → step s = .next t → AllConserved t

/-- After reset the memory is in its canonical form and every context obeys the conservation law (R118). -/
def Obligations.InvariantsAtReset : Prop := State.reset.memWf = true ∧ AllConserved State.reset

/-- OFF is left by POR alone (R395, R403): every other command leaves the device in OFF, and none but PWRDN and the
loss of a supply changes anything beside the answer to its source, which is that the source is not served. Where the
rules leave the reading open it is the model's choice: notes/assumptions/6.md and notes/assumptions/79.md. -/
def Obligations.OffIsClosed : Prop :=
  ∀ (c : Instr) (s t : State), s.mode = 0 → (∀ st, c ≠ .por st) → exec c s = .next t →
    t.mode = 0 ∧ (c ≠ .pwrdn → c ≠ .supplyLoss → t = { s with acc := withAnswers s t })

/-- Words written to Thallus by a packet that goes straight to it (R25, R33, R36, R185): the bytes read what was
written, lowest first, every other byte reads as before, a double-bit error of a written word is gone, and nothing
else changes but the record of the outcome. -/
def Obligations.ThallusWrites : Prop :=
  ∀ (s : State) (src : Src) (a : Addr), a.toNat % 4 = 0 → 0x400000 ≤ a.toNat → Arb.owns s src .eng 0 = true →
    (∀ d : Word, a.toNat < 0x800000 → Ready s src (.writeWord a d) →
      ∃ t, exec (.writeWord src .none a d) s = .next t ∧ t.bytes a.toNat 4 = wordBytes d.toNat ∧
        (∀ b, b < a.toNat ∨ a.toNat + 4 ≤ b → t.byte b = s.byte b) ∧ FieldsKept s t outcomeFields ∧
        t = { s with regs := t.regs, mem := t.mem, acc := withAnswers s t
                     eng := { s.eng with ded := s.eng.ded.filter (fun w => w != a.toNat) } }) ∧
    (∀ bs : List Byte, a.toNat + bs.length ≤ 0x800000 → Arb.badLen src bs.length = false →
      Ready s src (.writeBlock a bs) →
      ∃ t, exec (.writeBlock src .none a bs) s = .next t ∧ t.bytes a.toNat bs.length = bs ∧
        (∀ b, b < a.toNat ∨ a.toNat + bs.length ≤ b → t.byte b = s.byte b) ∧ FieldsKept s t outcomeFields ∧
        t = { s with regs := t.regs, mem := t.mem, acc := withAnswers s t, eng := { s.eng with ded := t.eng.ded } } ∧
        (∀ w, w ∈ t.eng.ded ↔ w ∈ s.eng.ded ∧ ¬ (a.toNat ≤ w ∧ w < a.toNat + bs.length ∧ w % 4 = 0)))

/-- The transfer FIFOs of AUX (R33, R383, R394): bytes of a FIFO_WRITE join the transmit FIFO in order, where it holds
them; a FIFO_READ answers the oldest bytes received, 0 beyond them, and takes from the receive FIFO the bytes whose
acknowledge completed on CTL, all of them for another source. -/
def Obligations.AuxFifos : Prop :=
  ∀ (s : State) (src : Src),
    (∀ bs : List Byte, Arb.badLen src bs.length = false → Ready s src (.fifoWrite 0x6128 bs) →
      Arb.owns s src .auxb 0 = true → s.aux.tx.length + bs.length ≤ 256 →
      exec (.fifoWrite src .none 0x6128 bs) s =
        .next (recorded { s with aux := { s.aux with tx := s.aux.tx ++ bs } } src 8)) ∧
    (∀ n k : Nat, Arb.badLen src n = false → Ready s src (.fifoRead 0x612C n k) → k ≤ n →
      exec (.fifoRead src .none 0x612C n k) s =
        .next (readOut { s with aux := { s.aux with rx := s.aux.rx.drop (if src = .ctl then k else n) } } src 9
          ((s.aux.rx ++ List.replicate n 0).take n)))

/-- Reads of Thallus and of SYS.ID answer the bytes there and change nothing but the record of the outcome (R25, R29,
R33). -/
def Obligations.Reads : Prop :=
  ∀ (s : State) (src : Src),
    (∀ a : Addr, a.toNat % 4 = 0 → 0x400000 ≤ a.toNat → a.toNat < 0x800000 → a.toNat ∉ s.eng.ded →
      Ready s src (.readWord a) → exec (.readWord src .none a) s = .next (readOut s src 2 (s.bytes a.toNat 4))) ∧
    (∀ (a : Addr) (n : Nat), a.toNat % 4 = 0 → 0x400000 ≤ a.toNat → a.toNat + n ≤ 0x800000 →
      Arb.badLen src n = false → (∀ w ∈ s.eng.ded, w < a.toNat ∨ a.toNat + n ≤ w) → Ready s src (.readBlock a n) →
      exec (.readBlock src .none a n) s = .next (readOut s src 4 (s.bytes a.toNat n))) ∧
    (Ready s src (.readWord 0) → exec (.readWord src .none 0) s = .next (readOut s src 2 [0x00, 0x01, 0x32, 0x88]))

/-- PING answers SYS.ID, 0x00, 0x01, 0x32, 0x88 in revision A1, and the low word of the unique ID, followed by the PEC
where CMD bit 7 is set on CTL, and changes nothing but the answer: it is no "last CTL command" (R380 to R382). On CTL
it is served in every mode except OFF. -/
def Obligations.Ping : Prop :=
  ∀ (s : State) (src : Src) (pec : Pec) (bs : List Byte), bs = [0x00, 0x01, 0x32, 0x88] ++ s.bytes 0xB00000 4 →
    (Ready s src .ping → src ≠ .ctl ∨ pec = .none → exec (.ping src pec) s = .next (Arb.answer s src (.data bs))) ∧
    (∀ b, Ready s .ctl .ping →
      exec (.ping .ctl (.byte b)) s = .next (Arb.answer s .ctl (.data (bs ++ [readPec s 0x8A bs])))) ∧
    (s.mode ≠ 0 → Cbus.hears s = true → s.acc.held = [] → s.on R.SYS_CTRL_FULLRST = false →
      s.on R.CBUS_CFG_PECREQ = false → Ready s .ctl .ping) ∧
    (s.mode = 0 → exec (.ping src pec) s = .next (Arb.answer s src .refused))

/-- READ_STATUS answers the eight bytes of R380, followed by the PEC where CMD bit 7 is set on CTL (R382), and changes
nothing but the answer. -/
def Obligations.ReadStatus : Prop :=
  ∀ (s : State) (src : Src) (bs : List Byte), Ready s src .readStatus → bs = [
      16 * s.get R.CBUS_LASTRES_REASON + s.get R.CBUS_LASTRES_RESULT,
      b2n s.irq + 2 * s.get R.CBUS_IFLG_CMDERR + 4 * s.get R.CBUS_STAT_ADDRCONF + 16 * s.get R.CBUS_STAT_ALTACT,
      s.mode + 128 * s.get R.SYS_STAT_MOVING, s.isumTop,
      s.get R.CBUS_PKTCNT_APPLIED, s.get R.CBUS_PKTCNT_APPLIED / 256,
      s.get R.CBUS_PKTCNT_NOTAPPL, s.get R.CBUS_PKTCNT_NOTAPPL / 256].map (BitVec.ofNat 8) →
    (∀ pec, src ≠ .ctl ∨ pec = .none → exec (.readStatus src pec) s = .next (Arb.answer s src (.data bs))) ∧
    (∀ b, src = .ctl →
      exec (.readStatus .ctl (.byte b)) s = .next (Arb.answer s .ctl (.data (bs ++ [readPec s 0x86 bs]))))

/-- A write packet with an offending word takes no effect at all (R37): beside the counts and records of R38, the
outcome of a CTL command and the answer, everything is as before. -/
def Obligations.RejectedChangesNothing : Prop :=
  ∀ (s : State) (src : Src) (a x : Addr) (d : Word) (bs : List Byte) (r : Nat),
    (Ready s src (.writeWord a d) → Arb.wordCheck s src true a.toNat d.toNat = some r →
      ∃ t, exec (.writeWord src .none a d) s = .next t ∧ Map.get .none t.acc.replies src.code = .rejected r a.toNat ∧
        t = { s with regs := t.regs, acc := withAnswers s t } ∧
        FieldsKept s t (rejectionFields src ((Arb.countedIn r a.toNat).getD R.ACC_RSVCNT_COUNT))) ∧
    (Ready s src (.writeBlock a bs) → Arb.badLen src bs.length = false →
      Arb.runWords s src (Arb.wordsOf (.writeBlock a bs)) = .bad r x.toNat →
      ∃ t, exec (.writeBlock src .none a bs) s = .next t ∧
        Map.get .none t.acc.replies src.code = .rejected r x.toNat ∧
        t = { s with regs := t.regs, acc := withAnswers s t } ∧
        FieldsKept s t (rejectionFields src ((Arb.countedIn r x.toNat).getD R.ACC_RSVCNT_COUNT)))

/-- A write to a region that no source writes is rejected with reason 2, whatever the OWNER settings, and counted on
the ACC page (R458); nothing but the counts and records changes. Reads of these regions are served. -/
def Obligations.ReadOnlyRegions : Prop :=
  ∀ (s : State) (src : Src) (a : Addr),
    (0x800000 ≤ a.toNat ∧ a.toNat < 0x860000) ∨ (0xA00000 ≤ a.toNat ∧ a.toNat < 0xB01000) →
    (∀ (i : Instr) (d : Word) (bs : List Byte),
      (i = .writeWord src .none a d ∧ Ready s src (.writeWord a d)) ∨
      (i = .writeBlock src .none a bs ∧ Arb.badLen src bs.length = false ∧ Ready s src (.writeBlock a bs)) ∨
      (i = .fifoWrite src .none a bs ∧ Arb.badLen src bs.length = false ∧ Ready s src (.fifoWrite a bs)) →
      ∃ t, exec i s = .next t ∧ Map.get .none t.acc.replies src.code = .rejected 2 a.toNat ∧
        t = { s with regs := t.regs, acc := withAnswers s t } ∧ FieldsKept s t (rejectionFields src R.ACC_ERRCNT_REJ) ∧
        (s.lowPower = false →
          (a.toNat % 4 = 0 → t.get R.ACC_ERRCNT_REJ = min (s.get R.ACC_ERRCNT_REJ + 1) 0xFFFF ∧
            t.get R.ACC_RSVCNT_COUNT = s.get R.ACC_RSVCNT_COUNT) ∧
          (a.toNat % 4 ≠ 0 → t.get R.ACC_RSVCNT_COUNT = min (s.get R.ACC_RSVCNT_COUNT + 1) (2 ^ R.ACC_RSVCNT_COUNT.w - 1) ∧
            t.get R.ACC_ERRCNT_REJ = s.get R.ACC_ERRCNT_REJ) ∧
          t.get R.ACC_LASTREJ_REASON = 2 ∧ t.get R.ACC_LASTREJ_ADDR = a.toNat ∧ t.get R.ACC_IFLG_REJ = 1)) ∧
    (a.toNat % 4 = 0 → Ready s src (.readWord a) →
      exec (.readWord src .none a) s = .next (readOut s src 2 (s.bytes a.toNat 4))) ∧
    (∀ n : Nat, a.toNat % 4 = 0 → (a.toNat + n ≤ 0x860000 ∨ (0xA00000 ≤ a.toNat ∧ a.toNat + n ≤ 0xB01000)) →
      Arb.badLen src n = false → Ready s src (.readBlock a n) →
      exec (.readBlock src .none a n) s = .next (readOut s src 4 (s.bytes a.toNat n)))

/-- OWNER (R40): a write to a page's OWNER passes the checks only from a source whose bit is set in that OWNER, and
only where the new value leaves one of bits [3:0] set; the accepted value stands and nothing else changes, shown on
SYS. -/
def Obligations.OwnerRule : Prop :=
  ∀ (s : State) (src : Src) (d : Word),
    (∀ e ∈ Arb.pages, Arb.wordCheck s src true (Arb.pageAddr e.1 e.2 + 0x14) d.toNat = none ↔
      Arb.owns s src e.1 e.2 = true ∧ d.toNat % 16 ≠ 0) ∧
    (Ready s src (.writeWord 0x14 d) → Arb.owns s src .sys 0 = true → d.toNat % 16 ≠ 0 →
      exec (.registerWrite src 0x14 d) s = .next (recorded ((((s.set R.SYS_OWNER_ENG (bits d.toNat 3 3)).set
        R.SYS_OWNER_RZ (bits d.toNat 2 2)).set R.SYS_OWNER_USB (bits d.toNat 1 1)).set
        R.SYS_OWNER_CTL (bits d.toNat 0 0)) src 1))

/-- Immediate registers (R44): the value of SYS.KEEPk stands once its write is applied, from any source, and nothing
else changes; a set of CTRL.SRST returns the fields of the page marked BK to their reset value, and no other field
(R30), shown on CBUS. -/
def Obligations.ImmediateAndBlockReset : Prop :=
  ∀ (s : State) (src : Src),
    (∀ (k : Fin 4) (d : Word), Accepted s src (0x30 + 4 * k.val) d.toNat →
      exec (.registerWrite src (BitVec.ofNat 24 (0x30 + 4 * k.val)) d) s =
        .next (recorded (s.set (R.SYS_KEEP_DATA k.val) d.toNat) src 1)) ∧
    (Accepted s src 0x6004 (modified s 0x6004 2 0) →
      ∃ t, exec (.blkReset src 0x60) s = .next t ∧ t.get R.CBUS_IFLG_TIMEOUT = 0 ∧ t.get R.CBUS_IFLG_LATEREJ = 0 ∧
        t.get R.CBUS_IFLG_ABORT = 0 ∧ t.get R.CBUS_IFLG_CMDERR = 0 ∧ t.get R.CBUS_IFLG_ADDRCONF = 0 ∧
        t.get R.CBUS_ERRCNT_BLKERR = 0 ∧ t.get R.CBUS_ERRCNT_REJ = 0 ∧ t.get R.CBUS_EVCNT_TIMEOUTS = 0 ∧
        t.get R.CBUS_EVCNT_PECERR = 0 ∧ t.get R.CBUS_EVCNT_ABORTS = 0 ∧
        PacketFields s t [R.CBUS_IFLG_TIMEOUT, R.CBUS_IFLG_LATEREJ, R.CBUS_IFLG_ABORT, R.CBUS_IFLG_CMDERR,
          R.CBUS_IFLG_ADDRCONF, R.CBUS_ERRCNT_BLKERR, R.CBUS_ERRCNT_REJ, R.CBUS_EVCNT_TIMEOUTS,
          R.CBUS_EVCNT_PECERR, R.CBUS_EVCNT_ABORTS])

/-- Staging (R45, R49, R149, R175): a word of MXT and a GSWITCH are staged and change no active value; a value of the
same register staged before by the same source gives way to the new one. -/
def Obligations.Staging : Prop :=
  ∀ (s : State) (src : Src),
    (∀ (a : Addr) (d : Word), 0x200000 ≤ a.toNat → a.toNat < 0x206000 → Accepted s src a.toNat d.toNat →
      (∀ g ∈ s.acc.staged, g.addr = a.toNat → g.win = 0 → g.src = src) →
      ∃ t, exec (.writeWord src .none a d) s = .next t ∧ PacketFields s { t with acc := { t.acc with staged := s.acc.staged } } [] ∧
        (∀ g, g ∈ t.acc.staged ↔ g = ⟨a.toNat, 0, d.toNat, src, true⟩ ∨
          (g ∈ s.acc.staged ∧ ¬ (g.addr = a.toNat ∧ g.win = 0)))) ∧
    (∀ m : BitVec 4, Accepted s src 0x1934 m.toNat → (∀ g ∈ s.acc.staged, g.addr ≠ 0x1934) →
      exec (.gswitch src m) s = .next (recorded { s with acc := { s.acc with
        staged := s.acc.staged ++ [⟨0x1934, 0, m.toNat, src, true⟩] } } src 1))

/-- COMMIT of one group (R42, R45, R148): where its source owns every page of the group, the staged values of the
group are taken for the next boundary, those of other groups stay staged, and with the MTX page in the group the
halves swap; where it does not, nothing is taken, and the bit is counted and recorded with reason 8. -/
def Obligations.CommitTakes : Prop :=
  ∀ (s : State) (src : Src) (g : Fin 8), Ready s src (.commit (BitVec.ofNat 8 (2 ^ g.val))) →
    ((∀ e ∈ Arb.pages, Arb.cgrp s e.1 e.2 = g.val → Arb.owns s src e.1 e.2 = true) →
      exec (.commit src .none (BitVec.ofNat 8 (2 ^ g.val))) s = .next (recorded
        { s with acc := { s.acc with
                   staged := s.acc.staged.filter (fun e => Arb.groupOf s e.addr != g.val)
                   taken := s.acc.taken ++ (s.acc.staged.filter (fun e => Arb.groupOf s e.addr == g.val)).map
                     (fun e => ⟨g.val, e.addr, e.win, e.val⟩) }
                 mtx := { s.mtx with swapDue := s.mtx.swapDue || Arb.cgrp s .mtx 0 == g.val } } src 5)) ∧
    ((∃ e ∈ Arb.pages, Arb.cgrp s e.1 e.2 = g.val ∧ Arb.owns s src e.1 e.2 = false) →
      ∃ t, exec (.commit src .none (BitVec.ofNat 8 (2 ^ g.val))) s = .next t ∧
        t.get R.ACC_ERRCNT_BLKERR = min (s.get R.ACC_ERRCNT_BLKERR + 1) 0xFFFF ∧ t.get R.ACC_LASTREJ_REASON = 8 ∧
        t.get R.ACC_LASTREJ_ADDR = g.val ∧ t.get R.ACC_LASTREJ_SRC = src.code ∧ t.get R.ACC_IFLG_REJ = 1 ∧
        PacketFields s t [R.ACC_ERRCNT_BLKERR, R.ACC_LASTREJ_VALID, R.ACC_LASTREJ_SRC, R.ACC_LASTREJ_REASON,
          R.ACC_LASTREJ_ADDR, R.ACC_IFLG_REJ])

/-- Forwarding over Rhizome, and the control transfers that carry packets (R34, R303, R332, R379): a setup packet and
its data spell the packet they were built from, where its fields are those a transfer can carry; the arbiter accepts
RZ_FORWARD from CTL, USB and ENG, and rejects it from RZ. One of at most 50 bytes, not a broadcast, queues the
enclosed packet as one CMD cell; FWD_RESULT of CTL answers the data returned; a forward without an answer for 100 ms
ends with STATUS 3. -/
def Obligations.Forwarding : Prop :=
  (∀ p : Packet, (∀ a n k, p = .fifoRead a n k → k = n) → (∀ d bs, p = .rzForward d bs → d.toNat < 1024) →
    (∀ o n, p = .fwdResult o n → o = 0) → Arb.ofSetup (Arb.setupOf p).1 (Arb.setupOf p).2 = some p) ∧
  ∀ (s : State) (src : Src) (dst : BitVec 16) (bs : List Byte),
    (src ≠ .rz → dst.toNat < 1024 → (Arb.parse bs).isSome = true → Ready s src (.rzForward dst bs) →
      ∃ t, exec (.rzForward src .none dst bs) s = .next t ∧ Map.get .none t.acc.replies src.code = .applied ∧
        (bs.length ≤ 50 → s.on (R.RZ_FWDCFG_BCAST.win (src.code + 1)) = false → s.get R.RZ_STAT_ROLE = 1 →
          t.rz.txq = s.rz.txq ++
            [(Rz.CMD, { Rz.mkCell s dst.toNat false bs with tag := BitVec.ofNat 8 s.rz.tag })] ∧
          t.get (R.RZ_FWDSTAT_DONE.win (src.code + 1)) = 0 ∧
          t = { s with regs := t.regs, acc := withAnswers s t
                       rz := { s.rz with txq := t.rz.txq, tag := (s.rz.tag + 1) % 256, fwd := t.rz.fwd } })) ∧
    (Ready s .rz (.rzForward dst bs) → ∃ t, exec (.rzForward .rz .none dst bs) s = .next t ∧
      Map.get .none t.acc.replies 2 = .rejected 9 0 ∧ t.rz = s.rz) ∧
    (∀ (off : BitVec 16) (n : Nat), Ready s .ctl (.fwdResult off n) → Arb.badLen .ctl n = false →
      off.toNat % 4 = 0 → s.on (R.RZ_FWDSTAT_DONE.win 1) = true → off.toNat + n ≤ s.get (R.RZ_FWDSTAT_LEN.win 1) →
      exec (.fwdResult .ctl .none off n) s =
        .next (readOut s .ctl 0x11 (((Map.get ⟨0, false, false, []⟩ s.rz.fwd 0).data.drop off.toNat).take n))) ∧
    (3 ≤ s.mode → (Map.get ⟨0, false, false, []⟩ s.rz.fwd src.code).busy = true →
      ∃ t, exec (.forwardNoAnswer src) s = .next t ∧ t.get (R.RZ_FWDSTAT_DONE.win (src.code + 1)) = 1 ∧
        t.get (R.RZ_FWDSTAT_STATUS.win (src.code + 1)) = 3 ∧ t.get (R.RZ_FWDSTAT_LEN.win (src.code + 1)) = 0 ∧
        t.get R.RZ_IFLG_FWDDONE = 1 ∧ t = { s with regs := t.regs, rz := { s.rz with fwd := t.rz.fwd } } ∧
        FieldsKept s t [R.RZ_FWDSTAT_DONE.win (src.code + 1), R.RZ_FWDSTAT_STATUS.win (src.code + 1),
          R.RZ_FWDSTAT_REASON.win (src.code + 1), R.RZ_FWDSTAT_LEN.win (src.code + 1), R.RZ_IFLG_FWDDONE])

/-- A reference that fails (R62, R63, R66, R313): from QUALIFIED it is FAILED, flagged and counted; from WTR it is
FAILED; REF10 with the end of its hold. Nothing else changes. The state of one reference is stored in its own two bits
(R86): it reads back, and every other reference reads as before. Where the rules leave the reading open it is the
model's choice: notes/assumptions/36.md. -/
def Obligations.ReferenceFails : Prop :=
  (∀ (s : State) (r : Fin 12), 3 ≤ s.mode → r.val ≠ 0 →
    (Clkm.refState s r.val = Clkm.QUALIFIED →
      exec (.activityLoss r) s =
        .next (((Clkm.setRefState s r.val Clkm.FAILED).set R.CLKM_IFLG_REFFAIL 1).bump R.CLKM_ERRCNT_BLKERR) ∧
      (r.val ≠ 11 → exec (.nominalChange r) s =
        .next (((Clkm.setRefState s r.val Clkm.FAILED).set R.CLKM_IFLG_REFFAIL 1).bump R.CLKM_ERRCNT_BLKERR))) ∧
    (Clkm.refState s r.val = Clkm.WTR →
      exec (.activityLoss r) s = .next (Clkm.setRefState s r.val Clkm.FAILED) ∧
      (r.val ≠ 11 → exec (.nominalChange r) s = .next (Clkm.setRefState s r.val Clkm.FAILED))) ∧
    (Clkm.refState s 10 = Clkm.QUALIFIED → s.on R.RZ_CTRL_EN = true → s.get R.RZ_STAT_ROLE ≠ 0 →
      s.rz.ref10Hold = true →
      exec .ref10HoldExpire s = .next (((Clkm.setRefState (Rz.upd s (fun r => { r with ref10Hold := false })) 10
        Clkm.FAILED).set R.CLKM_IFLG_REFFAIL 1).bump R.CLKM_ERRCNT_BLKERR))) ∧
  ∀ (s : State) (n m v : Nat), 1 ≤ n → n ≤ 11 → v < 4 →
    Clkm.refState (Clkm.setRefState s n v) n = v ∧ (1 ≤ m → m ≤ 11 → m ≠ n →
      Clkm.refState (Clkm.setRefState s n v) m = Clkm.refState s m)

/-- A frequency gate of an enabled, available reference in FAILED (R64, R66): the offset is stored, clamped; inside
ACCEPT the reference is QUALIFIED at once where WTR is 0 and waits in WTR where it is not; outside it stays FAILED.
WTR_EXPIRE qualifies it. -/
def Obligations.ReferenceQualifies : Prop :=
  ∀ (s : State) (r : Fin 12) (off : Int), 3 ≤ s.mode → r.val ≠ 0 → r.val ≠ 11 →
    (Clkm.refEnabled s r.val = true → Clkm.refAvailable s r.val = true → Clkm.refState s r.val = Clkm.FAILED →
      -32767 ≤ off → off ≤ 32767 →
      (off.natAbs ≤ s.get (R.CLKM_REFLIM_ACCEPT r.val) → s.get (R.CLKM_REFMON_WTR r.val) = 0 →
        exec (.frequencyGateEnd r off) s = .next ((Clkm.setRefState (s.seti (R.CLKM_REFMON_OFFSET r.val) off) r.val
          Clkm.QUALIFIED).set R.CLKM_IFLG_REFQUAL 1)) ∧
      (off.natAbs ≤ s.get (R.CLKM_REFLIM_ACCEPT r.val) → s.get (R.CLKM_REFMON_WTR r.val) ≠ 0 →
        exec (.frequencyGateEnd r off) s = .next (Clkm.setRefState (s.seti (R.CLKM_REFMON_OFFSET r.val) off) r.val
          Clkm.WTR)) ∧
      (s.get (R.CLKM_REFLIM_ACCEPT r.val) < off.natAbs →
        exec (.frequencyGateEnd r off) s = .next (s.seti (R.CLKM_REFMON_OFFSET r.val) off))) ∧
    (Clkm.refState s r.val = Clkm.WTR → exec (.wtrExpire r) s =
      .next ((Clkm.setRefState s r.val Clkm.QUALIFIED).set R.CLKM_IFLG_REFQUAL 1))

/-- The clock manager's states (R68, R70, R72, R79, R80, R81, R83, R84): in LOCKED, MODE 4 goes to FREERUN with no
reference; a switch that has reached its target is LOCKED; the lock of an APLL that runs is shown; the loss of an APLL
that does not drive SYSCLK is flagged and counted; a second of LOCKED joins the history; the holdover target is
renewed each second; a stale temperature is flagged. `Strm.followHolds` is what a change of state does to the
converters (R129): the ratio of each is held in RECOVERY and TEST and while its context is STALLED. -/
def Obligations.ClockManager : Prop :=
  ∀ s : State, 3 ≤ s.mode →
    (∀ ph, Clkm.state s = Clkm.LOCKED → s.on R.CLKM_CTRL_EN = true → s.get R.CLKM_SELCFG_MODE = 4 →
      ∃ t, exec (.selectionEvaluation ph) s = .next (Strm.followHolds t) ∧ Clkm.state t = Clkm.FREERUN ∧ Clkm.selRef t = 15 ∧
        t.get R.CLKM_IFLG_STATECHG = 1 ∧ t = { s with regs := t.regs, clkm := { s.clkm with history := [] } } ∧
        FieldsKept s t [R.CLKM_STAT_STATE, R.CLKM_STAT_SELREF, R.CLKM_STAT_TARGET, R.CLKM_IFLG_STATECHG,
          R.CLKM_DPLLOFF_OFF, R.CLKM_STAT_RANKDIS, R.CLKM_IFLG_RANKDIS]) ∧
    (Clkm.state s = Clkm.SWITCHING → Clkm.targetOffset s = some (s.geti R.CLKM_DPLLOFF_OFF) →
      exec .lockAchieved s = .next (Strm.followHolds (((s.set R.CLKM_IFLG_STATECHG 1).set R.CLKM_STAT_STATE Clkm.LOCKED).set
        R.CLKM_STAT_TARGET 15))) ∧
    (∀ b : Bool, Clkm.state s ≠ Clkm.ACQUIRE → ∀ u, u = s.set (if b then R.PLL_STAT_LOCKB else R.PLL_STAT_LOCKA) 1 →
      (b2n b = Clkm.activeApll s → exec (.apllLock b) s = .next (Strm.followHolds u)) ∧
      (b2n b ≠ Clkm.activeApll s → s.on R.PLL_CTRL_EN = true → exec (.apllLock b) s = .next u)) ∧
    (∀ c : Nat, (Strm.followHolds s).ctx c = (if s.cRecon c = 2 ∧ (s.ctx c).st ≠ .idle then { s.ctx c with
        conv := { (s.ctx c).conv with hold := decide ((s.ctx c).st = .stalled ∨ Clkm.state s = Clkm.RECOVERY ∨
          Clkm.state s = Clkm.TEST) } } else s.ctx c)) ∧
    (∃ u, u = Strm.followHolds s ∧ u = { s with regs := u.regs, strm := { s.strm with ctxs := u.strm.ctxs } } ∧
      FieldsKept s u [R.ASRC_IFLG_HOLD, R.ASRC_ERRCNT_BLKERR]) ∧
    (Clkm.activeApll s = 0 → s.on R.PLL_STAT_LOCKB = true → exec (.apllUnlock true) s =
      .next (((s.set R.PLL_STAT_LOCKB 0).set R.PLL_IFLG_UNLOCKB 1).bump R.PLL_UNLCNT_B)) ∧
    (Clkm.activeApll s = 1 → s.on R.PLL_STAT_LOCKA = true → exec (.apllUnlock false) s =
      .next (((s.set R.PLL_STAT_LOCKA 0).set R.PLL_IFLG_UNLOCKA 1).bump R.PLL_UNLCNT_A)) ∧
    (Clkm.state s = Clkm.LOCKED → Clkm.selRef s ≠ 0 → Clkm.selRef s ≠ 15 →
      s.clkm.history.length < s.get R.CLKM_DPLLCFG_HOLDAVG → exec .holdoverHistoryUpdate s =
        .next { s with clkm := { s.clkm with history := ((s.geti R.CLKM_DPLLOFF_OFF, s.geti R.CLKM_TEMP_TNOW,
          s.get R.SYS_TBDAY_DAY * 65536 + s.get R.SYS_TBFRAC_FRAC) :: s.clkm.history).take 65 } }) ∧
    (Clkm.state s = Clkm.HOLDOVER → exec .holdoverCorrection s =
      .next { s with clkm := { s.clkm with holdTarget := Clkm.holdoverTarget s } }) ∧
    (s.get R.CLKM_TREF_TSRC ≠ 0 → exec .temperatureStale s =
      .next ((s.set R.CLKM_STAT_TSTALE 1).set R.CLKM_IFLG_TSTALE 1))

/-- TEST (R72, R75, R77, R80): a set CTRL.TEST enters the state TEST with no reference, the offset still where it was
and TESTWORD its target; a cleared one leaves it for HOLDOVER where HOLDVALID is 1, with HOLDOFF and its correction as
the target. `Strm.followHolds` holds the converters (R129). -/
def Obligations.TestMode : Prop :=
  ∀ (s : State) (src : Src), s.get R.CLKM_CTRL_SRST = 0 →
    (Accepted s src 0x404 (withField s R.CLKM_CTRL_TEST 1) → s.on R.CLKM_CTRL_TEST = false →
      ∃ t, exec (.testEnter src) s = .next (recorded (Strm.followHolds t) src 1) ∧ t.get R.CLKM_CTRL_TEST = 1 ∧
        Clkm.state t = Clkm.TEST ∧ Clkm.selRef t = 15 ∧
        Clkm.targetOffset t = some (Clkm.pull (s.geti R.CLKM_TESTWORD_OFF)) ∧
        t = { s with regs := t.regs, clkm := { s.clkm with history := [] } } ∧
        FieldsKept s t [R.CLKM_CTRL_TEST, R.CLKM_STAT_STATE, R.CLKM_STAT_SELREF, R.CLKM_STAT_TARGET,
          R.CLKM_IFLG_STATECHG]) ∧
    (Accepted s src 0x404 (withField s R.CLKM_CTRL_TEST 0) → Clkm.state s = Clkm.TEST → Clkm.holdValid s = true →
      ∃ t, exec (.testExit src) s = .next (recorded (Strm.followHolds t) src 1) ∧ t.get R.CLKM_CTRL_TEST = 0 ∧
        Clkm.state t = Clkm.HOLDOVER ∧
        t = { s with regs := t.regs, clkm := { s.clkm with history := [], holdTarget := Clkm.holdoverTarget s } } ∧
        FieldsKept s t [R.CLKM_CTRL_TEST, R.CLKM_STAT_STATE, R.CLKM_STAT_SELREF, R.CLKM_STAT_TARGET,
          R.CLKM_IFLG_STATECHG, R.CLKM_IFLG_HOLD, R.CLKM_EVCNT_HOLDENT])

/-- STRM.CMD (R102, R116): an accepted ARM, START, STOP, DRAIN or RELEASE joins the requests that the next boundary
applies, in the order accepted, and changes nothing else; one that the table of R102 does not allow in the state the
context will have is rejected with reason 7 and joins nothing. -/
def Obligations.StreamRequests : Prop :=
  ∀ (s : State) (src : Src) (c : Byte),
    (Accepted s src 0x1020 (reqWord c.toNat .arm) → exec (.arm src c) s = .next (asked s src c .arm)) ∧
    (Accepted s src 0x1020 (reqWord c.toNat .start) → exec (.start src c) s = .next (asked s src c .start)) ∧
    (Accepted s src 0x1020 (reqWord c.toNat .stop) → exec (.stop src c) s = .next (asked s src c .stop)) ∧
    (Accepted s src 0x1020 (reqWord c.toNat .drain) → exec (.drain src c) s = .next (asked s src c .drain)) ∧
    (Accepted s src 0x1020 (reqWord c.toNat .release) → exec (.release src c) s = .next (asked s src c .release)) ∧
    (∀ q : Req, Ready s src (.writeWord 0x1020 (BitVec.ofNat 32 (reqWord c.toNat q))) → Arb.owns s src .strm 0 = true →
      Strm.allowed (Strm.predicted s c.toNat) q = false →
      ∃ t, exec (requestOf q src c) s = .next t ∧
        Map.get .none t.acc.replies src.code = .rejected 7 0x1020 ∧ t.strm = s.strm ∧ BytesKept s t)

/-- A frame from a serial port (R95, R99, R110, R115, R117, R119): it ends a run of period errors of a slave port, and
the eighth clean one in turn gives frame lock; in a RUNNING source it is counted in IN, and held in Thallus with the
bits below DWIDTH zero, or at a full buffer discarded and counted in DROP; in IDLE, ARMED, STALLED and DRAINING it is
not counted. Which place it takes is the model's choice: notes/assumptions/93.md. -/
def Obligations.FrameArrival : Prop :=
  ∀ (s u : State) (c : Byte) (f g : List Sample) (clip : Bool) (p : Nat), 3 ≤ s.mode → s.cSink c.toNat = false →
    s.cType c.toNat = 1 → p = s.cInst c.toNat → u = Strm.cleanFrame s c.toNat → g = Strm.entering s p f →
    (∀ x ∈ g, ∀ b < 32 - Strm.widthOf (s.get (R.SAP_FMT_DWIDTH p)), x.getLsbD b = false) ∧
    (∀ (i b : Nat), i < f.length → 32 - Strm.widthOf (s.get (R.SAP_FMT_DWIDTH p)) ≤ b →
      (g.getD i 0).getLsbD b = (f.getD i 0).getLsbD b) ∧
    (s.on (R.SAP_CTRL_MASTER p) = false → s.on (R.SAP_CTRL_EN p) = true →
      (u.sap p).errRun = 0 ∧ u.on (R.SAP_STAT_BCLKACT p) = true ∧
      Map.get 0 (u.sap p).clean c.toNat = min 8 (Map.get 0 (s.sap p).clean c.toNat + 1) ∧
      (7 ≤ Map.get 0 (s.sap p).clean c.toNat → u.on (R.SAP_STAT_FRAMELOCK p) = true) ∧
      u = { s with regs := u.regs, strm := { s.strm with saps := u.strm.saps } } ∧
      FieldsKept s u [R.SAP_STAT_BCLKACT p, R.SAP_STAT_FRAMELOCK p]) ∧
    (s.on (R.SAP_CTRL_MASTER p) = true ∨ s.on (R.SAP_CTRL_EN p) = false → u = s) ∧
    ((s.ctx c.toNat).st = .running → (s.ctx c.toNat).fill < s.cBufLen c.toNat →
      ∀ a, a = Strm.placeAt s c.toNat (s.ctx c.toNat).wpos → a + 4 * s.cNch c.toNat ≤ thallusSize →
      ∃ t, exec (.frameArrival c f clip) s = .next t ∧ FrameHeld t c.toNat (s.ctx c.toNat).wpos g ∧
        t.ctx c.toNat = { s.ctx c.toNat with cin := (s.ctx c.toNat).cin + 1, fill := (s.ctx c.toNat).fill + 1
                                             wpos := ((s.ctx c.toNat).wpos + 1) % s.cBufLen c.toNat } ∧
        OtherContextsKept s t c.toNat ∧
        (∀ b, b < thallus + a ∨ thallus + a + 4 * s.cNch c.toNat ≤ b → t.byte b = s.byte b) ∧
        t = { u with mem := t.mem, strm := { u.strm with ctxs := t.strm.ctxs }, eng := { s.eng with ded := t.eng.ded } }) ∧
    ((s.ctx c.toNat).st = .running → s.cBufLen c.toNat ≤ (s.ctx c.toNat).fill →
      ∃ t, exec (.frameArrival c f clip) s = .next t ∧
        t.ctx c.toNat = { s.ctx c.toNat with cin := (s.ctx c.toNat).cin + 1, cdrop := (s.ctx c.toNat).cdrop + 1 } ∧
        OtherContextsKept s t c.toNat ∧ t = { u with strm := { u.strm with ctxs := t.strm.ctxs } }) ∧
    ((s.ctx c.toNat).st ≠ .running → exec (.frameArrival c f clip) s = .next u)

/-- A due frame of a RUNNING source that no group governs, no converter paces and no Rhizome slot feeds (R117, R119):
the oldest frame held leaves and is counted in OUT; with none held a zero frame leaves in its place, counted in OUT
and PAD; a source outside the serial ports passes it on as it stood. A TYPE 3 source takes the slots of index now -
PRESD (R322): a frame of which a sample is missing or late is counted in PAD, any other in IN. A sample period of
SYSRATE moves the position in the block. Where the rules leave the reading open it is the model's choice:
notes/assumptions/28.md. -/
def Obligations.FramesDue : Prop :=
  ∀ (s : State), 3 ≤ s.mode →
    (∀ c : Byte, s.cSink c.toNat = false → s.cRecon c.toNat ≠ 2 → 64 ≤ s.cGroup c.toNat →
      (s.ctx c.toNat).st = .running → Strm.aheadAt s c.toNat s.sampIdx = none → s.cType c.toNat ≠ 3 →
      (∀ e ∈ s.grp.slips, e.1 < 64) →
      s.dedIn (Strm.placeAt s c.toNat (Strm.oldestPlace s c.toNat)) (4 * s.cNch c.toNat) = [] →
      ∃ t, exec (.frameDue [c] false) s = .next t ∧ (t.ctx c.toNat).cout = (s.ctx c.toNat).cout + 1 ∧
        (t.ctx c.toNat).fill = (s.ctx c.toNat).fill - 1 ∧ (t.ctx c.toNat).wpos = (s.ctx c.toNat).wpos ∧
        (t.ctx c.toNat).cpad = (s.ctx c.toNat).cpad + (if (s.ctx c.toNat).fill = 0 then 1 else 0) ∧
        (s.cType c.toNat ≠ 1 → (s.ctx c.toNat).rampIn = none → (t.ctx c.toNat).last =
          if (s.ctx c.toNat).fill = 0 then zeroFrame (s.cNch c.toNat)
          else Strm.frameAt s c.toNat (Strm.oldestPlace s c.toNat)) ∧
        (t.ctx c.toNat).cin = (s.ctx c.toNat).cin ∧ (t.ctx c.toNat).cdrop = (s.ctx c.toNat).cdrop ∧
        (t.ctx c.toNat).st = .running ∧ OtherContextsKept s t c.toNat ∧
        t = { s with strm := { s.strm with ctxs := t.strm.ctxs } }) ∧
    (∀ (c : Byte) (ok : Bool), s.cSink c.toNat = false → s.cRecon c.toNat ≠ 2 → 64 ≤ s.cGroup c.toNat →
      (s.ctx c.toNat).st = .running → Strm.aheadAt s c.toNat s.sampIdx = none → s.cType c.toNat = 3 →
      s.get R.RZ_PRES_PRESD ≤ s.sampIdx → (s.ctx c.toNat).fill = 0 → 0 < s.cBufLen c.toNat → (∀ e ∈ s.grp.slips, e.1 < 64) →
      (ok = true ↔ ∀ e ∈ Strm.slotFrame s c.toNat (s.sampIdx - s.get R.RZ_PRES_PRESD), ∃ y : SlotRx, e = some y ∧ y.late = false) →
      ∃ t, exec (.frameDue [c] false) s = .next t ∧ (t.ctx c.toNat).cout = (s.ctx c.toNat).cout + 1 ∧
        (t.ctx c.toNat).cin = (s.ctx c.toNat).cin + (if ok then 1 else 0) ∧
        (t.ctx c.toNat).cpad = (s.ctx c.toNat).cpad + (if ok then 0 else 1) ∧
        (t.ctx c.toNat).cdrop = (s.ctx c.toNat).cdrop ∧ (t.ctx c.toNat).fill = 0 ∧ (t.ctx c.toNat).st = .running ∧
        OtherContextsKept s t c.toNat) ∧
    (∃ t, exec (.frameDue [] true) s = .next t ∧ t.blk = ⟨s.blk.base, min (s.blk.pos + 1) s.blkLen⟩)

/-- Events of a serial port (R96, R97, R106, R108, R110, R113): a channel that waits for a zero crossing begins its
ramp and flags ZCTO, one that waits to take a gain ramps to it from the gain before; the clocks stop at the end of the
trail; a period error is counted, flagged and loses the frame lock; a slave port whose clock is missing stalls its
contexts with cause 1 or 2; a measured rate is shown, gives frame lock, and lets a context stalled by its clock
resume. -/
def Obligations.PortEvents : Prop :=
  ∀ (s : State) (p : Fin 6), 3 ≤ s.mode →
    (∀ (c ch : Byte) (h : Chan), s.cType c.toNat = 1 → (s.ctx c.toNat).chans[ch.toNat]? = some h → h.gate = .waitOpen →
      h.next = none → exec (.zcTimeout c ch) s = .next ((s.setCtx c.toNat { s.ctx c.toNat with
        chans := (s.ctx c.toNat).chans.set ch.toNat { h with gate := .rampOpen s.sampIdx } }).set
        (R.SAP_IFLG_ZCTO (s.cInst c.toNat)) 1)) ∧
    (∀ (c ch : Byte) (h : Chan) (g : Nat), s.cType c.toNat = 1 → (s.ctx c.toNat).chans[ch.toNat]? = some h →
      h.gate = .opened → h.next = some g → exec (.zcTimeout c ch) s = .next ((s.setCtx c.toNat { s.ctx c.toNat with
        chans := (s.ctx c.toNat).chans.set ch.toNat { h with gain := g, next := none, ramp := some (s.sampIdx, h.gain) } }).set
        (R.SAP_IFLG_ZCTO (s.cInst c.toNat)) 1)) ∧
    (s.on (R.SAP_STAT_CLKRUN p) = true →
      (∀ c ∈ s.ctxNums, Strm.onPort s p c = true → s.live c = false ∧ (s.ctx c).kept = false) →
      exec (.clockTrailEnd p) s = .next (((s.set (R.SAP_STAT_CLKRUN p) 0).set (R.SAP_STAT_LEADTRAIL p) 0).setSap p
        { s.sap p with leadDone := false })) ∧
    (s.on (R.SAP_CTRL_MASTER p) = false → s.asrc.steerRunning = false → Strm.portLive s p = [] →
      exec (.framePeriodError p) s = .next (Strm.noteRecon (((((s.setSap p { s.sap p with
        errRun := (s.sap p).errRun + 1, clean := [] }).bump (R.SAP_ERRCNT_BLKERR p)).set (R.SAP_IFLG_FRAMEERR p) 1).set
        (R.SAP_STAT_FRAMELOCK p) 0).setB (R.SAP_STAT_BCLKACT p) (s.on (R.SAP_CTRL_EN p)))) ∧
      (∀ u, u = (s.set (R.SAP_STAT_FRAMELOCK p) 0).setSap p { s.sap p with clean := [] } →
        exec (.stallDetect p false) s = .next (Strm.noteRecon u) ∧
        exec (.stallDetect p true) s = .next (Strm.noteRecon (u.set (R.SAP_STAT_BCLKACT p) 0)))) ∧
    (∀ (c : Nat) (loss : Bool), s.on (R.SAP_CTRL_MASTER p) = false → s.asrc.steerRunning = false →
      Strm.portLive s p = [c] → s.cRecon c ≠ 2 →
      ∃ t, exec (.stallDetect p loss) s = .next t ∧ (t.ctx c).st = .stalled ∧
        (t.ctx c).cause = (if loss then 1 else 2) ∧ (t.ctx c).fill = (s.ctx c).fill ∧ OtherContextsKept s t c ∧
        t.get (R.SAP_STAT_FRAMELOCK p) = 0 ∧ t.get R.STRM_IFLG_STALL = 1 ∧ t.get (R.SAP_IFLG_STALL p) = 1 ∧
        t.sap p = { s.sap p with clean := [] } ∧ (∀ q, q ≠ p.val → t.sap q = s.sap q) ∧
        t = { s with regs := t.regs, strm := { s.strm with ctxs := t.strm.ctxs, saps := t.strm.saps }, asrc := t.asrc } ∧
        FieldsKept s t [R.SAP_STAT_FRAMELOCK p, R.SAP_STAT_BCLKACT p, R.STRM_IFLG_STALL, R.STRM_ERRCNT_BLKERR,
          R.SAP_IFLG_STALL p, R.SAP_STALLCNT_COUNT p]) ∧
    (∀ rate : Nat, s.on (R.SAP_CTRL_MASTER p) = false →
      (∀ c ∈ s.ctxNums, Strm.onPort s p c = true → (s.ctx c).st ≠ .stalled) →
      exec (.rateMeasureDone p rate) s = .next ((((s.set (R.SAP_MEASRATE_RATE p) rate).set (R.SAP_STAT_FRAMELOCK p) 1).set
        (R.SAP_STAT_BCLKACT p) 1).setSap p { s.sap p with errRun := 0 })) ∧
    (∀ (rate c : Nat), s.on (R.SAP_CTRL_MASTER p) = false → s.ctxNums = [c] → Strm.onPort s p c = true →
      (s.ctx c).st = .stalled → (s.ctx c).cause = 1 ∨ (s.ctx c).cause = 2 →
      ((rate : Int) - s.get (R.SAP_FRATE_RATE p)).natAbs * 1000 ≤ s.get (R.SAP_FRATE_RATE p) →
      exec (.rateMeasureDone p rate) s = .next (((((s.set (R.SAP_MEASRATE_RATE p) rate).set
        (R.SAP_STAT_FRAMELOCK p) 1).set (R.SAP_STAT_BCLKACT p) 1).setSap p { s.sap p with errRun := 0 }).setCtx c
        { s.ctx c with resume := true }))

/-- Converters and groups (R96, R127, R129, R130, R138): a converter locks at a ratio within 1/16 to 16, on a master
port while its clocks run, and takes that ratio unless its own is held; a RUNNING context other than a PDM one whose
ratio leaves that range stalls with cause 4; a half of STARTAT is stored for the group the source has selected, and
the first of the two halves opens the pending state, the second ends it. -/
def Obligations.ConvertersAndGroups : Prop :=
  ∀ s : State,
    (∀ (c : Byte) (r : Word), 3 ≤ s.mode → s.cRecon c.toNat = 2 → (s.ctx c.toNat).st ≠ .idle →
      2 ^ 20 ≤ r.toNat → r.toNat ≤ 2 ^ 28 →
      ((s.cType c.toNat ≠ 1 ∨ s.on (R.SAP_CTRL_MASTER (s.cInst c.toNat)) = false ∨
          s.on (R.SAP_STAT_CLKRUN (s.cInst c.toNat)) = true) →
        ((s.ctx c.toNat).conv.hold = false → exec (.asrcLock c r) s = .next ((s.set R.ASRC_IFLG_LOCK 1).setCtx c.toNat
          { s.ctx c.toNat with
            conv := { (s.ctx c.toNat).conv with locked := true, retune := false, ratio := r.toNat } })) ∧
        ((s.ctx c.toNat).conv.hold = true → (s.ctx c.toNat).conv.retune = false → (s.ctx c.toNat).conv.locked = true →
          exec (.asrcLock c r) s = .next ((s.set R.ASRC_IFLG_LOCK 1).setCtx c.toNat (s.ctx c.toNat)))) ∧
      (s.cType c.toNat = 1 → s.on (R.SAP_CTRL_MASTER (s.cInst c.toNat)) = true →
        s.on (R.SAP_STAT_CLKRUN (s.cInst c.toNat)) = false → exec (.asrcLock c r) s = .next s)) ∧
    (∀ c : Byte, 3 ≤ s.mode → s.cRecon c.toNat = 2 → s.cType c.toNat ≠ 4 → (s.ctx c.toNat).st = .running → s.asrc.steerRunning = false →
      ∃ t, exec (.asrcRangeExit c) s = .next t ∧ (t.ctx c.toNat).st = .stalled ∧ (t.ctx c.toNat).cause = 4 ∧
        (t.ctx c.toNat).conv.locked = false ∧ (t.ctx c.toNat).conv.hold = true ∧
        (t.ctx c.toNat).fill = (s.ctx c.toNat).fill ∧ t.get R.ASRC_IFLG_RANGE = 1 ∧ t.get R.STRM_IFLG_STALL = 1 ∧
        OtherContextsKept s t c.toNat ∧
        t = { s with regs := t.regs, strm := { s.strm with ctxs := t.strm.ctxs }, asrc := t.asrc } ∧
        FieldsKept s t [R.ASRC_IFLG_RANGE, R.ASRC_IFLG_HOLD, R.ASRC_ERRCNT_BLKERR, R.STRM_IFLG_STALL,
          R.STRM_ERRCNT_BLKERR]) ∧
    (∀ (src : Src) (hi : Bool) (d : Word), Accepted s src (0x1240 + 4 * b2n hi) d.toNat →
      Map.get 0 s.grp.pend (s.get (R.GRP_SEL_GRP.win (src.code + 1))) = 0 →
      exec (.grpStartatWrite src hi d) s = .next (recorded
        { s.set ((R.GRP_STARTAT_IDX (b2n hi)).win (s.get (R.GRP_SEL_GRP.win (src.code + 1)) + 1)) d.toNat with
          grp := { s.grp with
            pend := Map.set 0 s.grp.pend (s.get (R.GRP_SEL_GRP.win (src.code + 1))) (if hi then 2 else 1) } } src 1)) ∧
    (∀ (src : Src) (hi : Bool) (d : Word), Accepted s src (0x1240 + 4 * b2n hi) d.toNat →
      Map.get 0 s.grp.pend (s.get (R.GRP_SEL_GRP.win (src.code + 1))) = (if hi then 1 else 2) →
      exec (.grpStartatWrite src hi d) s = .next (recorded
        { s.set ((R.GRP_STARTAT_IDX (b2n hi)).win (s.get (R.GRP_SEL_GRP.win (src.code + 1)) + 1)) d.toNat with
          grp := { s.grp with
            pend := Map.set 0 s.grp.pend (s.get (R.GRP_SEL_GRP.win (src.code + 1))) 0 } } src 1))

/-- A block boundary (R13, R15, R45, R49): a new block begins one BLOCK_LEN later unless an index waits to be adopted,
every value taken has come into force, and what is still staged belongs to the staging window before; step 3 puts a
taken word of a tap in force. Where the rules leave the reading open it is the model's choice:
notes/assumptions/13.md. -/
def Obligations.BlockBoundary : Prop :=
  ∀ s : State,
    (∀ ratios, 3 ≤ s.mode → s.on R.RZ_STAT_ADOPTWAIT = false →
      ∃ t, exec (.blockBoundary ratios) s = .next t ∧ t.blk = ⟨s.blk.base + s.blkLen, 0⟩ ∧ t.acc.taken = [] ∧
        (∀ g ∈ t.acc.staged, g.fresh = false)) ∧
    (∀ (k : Fin 16) (v : Word), s.acc.taken = [⟨0, 0x1450 + 4 * k.val, 0, v.toNat⟩] → s.acc.staged = [] →
      s.mtx.swapDue = false → (Blk.commitStep s).acc.taken = [] ∧
        (Blk.commitStep s).get (R.MTX_TAP_EN k.val) = bits v.toNat 31 31 ∧
        (Blk.commitStep s).get (R.MTX_TAP_MO k.val) = bits v.toNat 30 24 ∧
        (Blk.commitStep s).get (R.MTX_TAP_CTX k.val) = bits v.toNat 15 8 ∧
        (Blk.commitStep s).get (R.MTX_TAP_CH k.val) = bits v.toNat 4 0)

/-- The routing matrix (R148, R151): at the end of a refill the inactive half is a copy of the active one; a
crosspoint that found no zero crossing starts its ramp, of one block where it had none, and flags ZCTO; a ramp whose
samples are done is over. -/
def Obligations.MatrixEvents : Prop :=
  ∀ s : State, 3 ≤ s.mode →
    (s.on R.MTX_STAT_REFILL = true → s.acc.held = [] → s.acc.staged = [] → exec .mxtRefillDone s =
      .next ((Mtx.putHalf s (!s.on R.MTX_STAT_HALF) (Mtx.active s)).set R.MTX_STAT_REFILL 0)) ∧
    (∀ (e : BitVec 14) (x : XChg), s.mtx.chg = [(e.toNat, x)] → x.waiting = true →
      exec (.crosspointZcTimeout e) s = .next ((({ s with mtx := { s.mtx with chg := [(e.toNat, { x with
        waiting := false, len := if x.len = 0 then s.blkLen else x.len })] } }.set R.MTX_IFLG_ZCTO 1).set
        R.MTX_STAT_RAMP 1).set R.MTX_STAT_ZCPEND 0)) ∧
    (∀ (e : BitVec 14) (x : XChg), s.mtx.chg = [(e.toNat, x)] → x.waiting = false → x.len ≤ x.n →
      exec (.crosspointRampEnd e) s =
        .next (({ s with mtx := { s.mtx with chg := [] } }.set R.MTX_STAT_RAMP 0).set R.MTX_STAT_ZCPEND 0))

/-- Admission (R170 to R173, R175, R414): an accepted GLOAD makes its header the candidate, CHECKING, with the limits
of ADMCFG as they stand; the checker ends with ADMITTED and ADMOK, or REJECTED with the reason and task of the first
failure and ADMREJ; a GRAPH section of the image becomes the candidate of its slot. -/
def Obligations.Admission : Prop :=
  ∀ s : State,
    (∀ (src : Src) (d : Word), Accepted s src 0x1924 d.toNat → exec (.gload src d) s = .next (recorded (((((
      { s with eng := { s.eng with cand := some ⟨bits d.toNat 31 30, bit d.toNat 29, bit d.toNat 28, bits d.toNat 21 0, none,
        s.get R.SCHED_ADMCFG_DROOPFLOOR, s.get R.SCHED_ADMCFG_UTILCAP⟩ } }.set
        R.SCHED_ADMSTAT_STATUS 1).set R.SCHED_ADMSTAT_SLOT (bits d.toNat 31 30)).set R.SCHED_ADMSTAT_REASON 0).set
        R.SCHED_ADMSTAT_TASK 0)) src 1)) ∧
    (∀ c : Cand, 3 ≤ s.mode → s.nvm.graphs = [] → s.eng.ded = [] → s.eng.cand = some c → s.get R.SCHED_ADMSTAT_STATUS = 1 →
      c.empty = false →
      (∀ r k, Sched.validate s c.slot c.hdr c.newset = some (r, k) → r ≠ 0 → r < 16 → k < 1024 →
        ∃ t, exec .admissionDone s = .next t ∧ t.get R.SCHED_ADMSTAT_STATUS = 3 ∧ t.get R.SCHED_ADMSTAT_REASON = r ∧
          t.get R.SCHED_ADMSTAT_TASK = k ∧ t.get R.SCHED_IFLG_ADMREJ = 1 ∧ OnlyFields s t [R.SCHED_ADMSTAT_STATUS,
            R.SCHED_ADMSTAT_SLOT, R.SCHED_ADMSTAT_REASON, R.SCHED_ADMSTAT_TASK, R.SCHED_ADMCP_CP, R.SCHED_ADMW_W,
            R.SCHED_IFLG_ADMREJ]) ∧
      (Sched.validate s c.slot c.hdr c.newset = none →
        Sched.verdictOf s { c with graph := some (Sched.readGraph s c.hdr) } = 0 →
        ∃ t, exec .admissionDone s = .next t ∧ t.get R.SCHED_ADMSTAT_STATUS = 2 ∧ t.get R.SCHED_ADMSTAT_REASON = 0 ∧
          t.get R.SCHED_IFLG_ADMOK = 1 ∧ t = { s with
            regs := t.regs, eng := { s.eng with cand := some { c with graph := some (Sched.readGraph s c.hdr) } } })) ∧
    (∀ (slot hdr : Nat) (rest : List (Nat × Nat × Bool)), 3 ≤ s.mode → s.nvm.graphs = (slot, hdr, false) :: rest →
      s.pwr.booting = false → s.eng.set ≠ [] → s.nvm.engines = [] → s.get R.SCHED_ADMSTAT_STATUS ≠ 1 →
      s.get R.SCHED_GSWITCH_SLOT = 0 → s.acc.taken = [] → slot < 4 → hdr < 2 ^ 22 → hdr % 64 = 0 →
      ∃ t, exec .graphSectionLoad s = .next t ∧ t.eng.cand = some ⟨slot, false, false, hdr, none,
          s.get R.SCHED_ADMCFG_DROOPFLOOR, s.get R.SCHED_ADMCFG_UTILCAP⟩ ∧
        t.get R.SCHED_ADMSTAT_STATUS = 1 ∧ t.get R.SCHED_ADMSTAT_SLOT = slot ∧
        t.nvm.graphs = (slot, hdr, true) :: rest)

/-- Tasks (R157, R164 to R166, R169, R178, R179, R185): an ACTIVE engine with nothing to do takes the head of its own
deque, whose descriptor, parameters, lists, state banks and F the kernel finds in ARG0 to ARG6; a completed task is
counted, its bank bit toggles, its status is in ARG0 and its engine is free; the bank it wrote, or its intermediate
buffer, stands in Thallus; the single-bit errors corrected meanwhile are counted; the register service queues up to
four packets of the running task. Where the rules leave the reading open it is the model's choice:
notes/assumptions/76.md. -/
def Obligations.Tasks : Prop :=
  ∀ (s : State) (n : Fin 16), 3 ≤ s.mode →
    (∀ (j : Job) (r : List Job), Sched.engState s n = Sched.ACTIVE → (s.engine n).job = none →
      (s.engine n).deque = j :: r → j.again = false →
      exec (.taskDispatch n) s = .next ((s.setEngine n { s.engine n with deque := r }).setEngine n
        { s.engine n with deque := r, job := some j, queue := [], args := Sched.entryArgs s n j }) ∧
      (∀ (g : Graph) (d : TaskD) (one : Bool), (s.slot j.slot).g = some g → d = Sched.taskOf s j.slot j.task → d.state ≠ 0 →
        one = (s.slot j.slot).bank.contains j.task → Sched.entryArgs s n j = [thallus + g.desc + 32 * j.task,
          thallus + d.param, thallus + d.inList, thallus + d.outList, thallus + d.state + Sched.stateSize s n d * b2n one,
          thallus + d.state + Sched.stateSize s n d * b2n (!one), Sched.frames s g])) ∧
    (∀ (j : Job) (g : Graph) (status : Nat) (m : TaskOut) (d : TaskD), m.ports = [] → d = Sched.taskOf s j.slot j.task → (s.engine n).job = some j → (s.engine n).queue = [] →
      Sched.engState s n = Sched.ACTIVE → (s.slot j.slot).g = some g → d.succs = [] →
      (s.slot j.slot).done.length + 1 < g.tasks.length →
      ∃ t, exec (.taskComplete n status m) s = .next t ∧
        t.get (R.ENGN_TASKS_COUNT n) = min (s.get (R.ENGN_TASKS_COUNT n) + 1) 0xFFFFFFFF ∧
        t.get (R.ENGN_TASKERR_COUNT n) =
          (if status = 0 then s.get (R.ENGN_TASKERR_COUNT n) else min (s.get (R.ENGN_TASKERR_COUNT n) + 1) 0xFFFFFFFF) ∧
        t.slot j.slot = { s.slot j.slot with
          bank := if (s.slot j.slot).bank.contains j.task then (s.slot j.slot).bank.filter (fun i => i != j.task)
            else j.task :: (s.slot j.slot).bank
          done := (s.slot j.slot).done ++ [j.task] } ∧
        t.engine n = { s.engine n with
          job := none, args := (s.engine n).args.set 0 status, scratch := m.scratch, macs := m.macs } ∧
        t.get (R.ENGN_ERRCNT_BLKERR n) = min (s.get (R.ENGN_ERRCNT_BLKERR n) + m.sec) 0xFFFF ∧
        (m.sec ≠ 0 → t.get (R.ENGN_IFLG_SEC n) = 1) ∧
        t.get R.ENG_ERRCNT_BLKERR = min (s.get R.ENG_ERRCNT_BLKERR + m.thSec) 0xFFFF ∧
        (d.outs = [] → d.state = 0 → BytesKept s t) ∧
        (∀ b, d.outs = [b] → b.port = false → d.state = 0 →
          b.at' + 4 * (Sched.midWords (Sched.frames s g) b (m.mids.getD 0 [])).length ≤ thallusSize →
          t.bytes (thallus + b.at') (4 * (Sched.midWords (Sched.frames s g) b (m.mids.getD 0 [])).length) =
            (Sched.midWords (Sched.frames s g) b (m.mids.getD 0 [])).flatMap wordBytes) ∧
        (∀ a ws, d.outs = [] → d.state ≠ 0 →
          a = d.state + Sched.stateSize s n d * b2n (!(s.slot j.slot).bank.contains j.task) →
          ws = m.bank.take (Sched.stateSize s n d / 4) → a + 4 * ws.length ≤ thallusSize →
          t.bytes (thallus + a) (4 * ws.length) = ws.flatMap (fun w => wordBytes w.toNat) ∧
          (∀ x, x < thallus + a ∨ thallus + a + 4 * ws.length ≤ x → t.byte x = s.byte x)) ∧
        t = { s with regs := t.regs, mem := t.mem
                     eng := { s.eng with slots := t.eng.slots, engs := t.eng.engs, ded := t.eng.ded } } ∧
        FieldsKept s t [R.ENGN_TASKS_COUNT n, R.ENGN_TASKERR_COUNT n, R.ENGN_ERRCNT_BLKERR n, R.ENGN_IFLG_SEC n,
          R.ENG_ERRCNT_BLKERR]) ∧
    (∀ p : Packet, (s.engine n).job ≠ none →
      ((s.engine n).queue.length < 4 → exec (.registerServiceCall n p) s =
        .next (s.setEngine n { s.engine n with queue := (s.engine n).queue ++ [p], code := 0 })) ∧
      (4 ≤ (s.engine n).queue.length →
        exec (.registerServiceCall n p) s = .next (s.setEngine n { s.engine n with code := 1 })))

/-- The states of an engine (R163, R186): EN takes it from OFF to SELFTEST; a passed self-test loads the kernel set
and makes it ready, ACTIVE at the next boundary, a failed one QUARANTINED with cause 5; a cleared EN takes it from
SELFTEST or QUARANTINED to OFF and from ACTIVE, with a task running, to DRAINING; RELEASE takes it from QUARANTINED to
SELFTEST. Where the rules leave the reading open it is the model's choice: notes/assumptions/16.md. -/
def Obligations.EngineStates : Prop :=
  ∀ (s : State) (src : Src) (n : Fin 16),
    (Accepted s src (R.ENGN_CTRL_EN n).addr (withField s (R.ENGN_CTRL_EN n) 1) → Sched.engState s n = Sched.OFF →
      exec (.engineEnable src n) s =
        .next (recorded ((s.set (R.ENGN_CTRL_EN n) 1).set (R.ENGN_STAT_STATE n) Sched.SELFTEST) src 1)) ∧
    (Accepted s src (R.ENGN_CTRL_EN n).addr (withField s (R.ENGN_CTRL_EN n) 0) → s.on (R.ENGN_CTRL_EN n) = true →
      (Sched.engState s n = Sched.SELFTEST ∨ Sched.engState s n = Sched.QUARANTINED →
        exec (.engineDisable src n) s = .next (recorded (((s.set (R.ENGN_CTRL_EN n) 0).setEngine n { s.engine n with
          job := none, queue := [], ready := false, forRoll := false }).set (R.ENGN_STAT_STATE n) Sched.OFF) src 1)) ∧
      (Sched.engState s n = Sched.ACTIVE → (s.engine n).job ≠ none →
        ∃ t, exec (.engineDisable src n) s = .next t ∧ Sched.engState t n = Sched.DRAINING ∧
          t.get (R.ENGN_CTRL_EN n) = 0 ∧ (t.engine n).job = (s.engine n).job ∧ (t.engine n).deque = [])) ∧
    (Accepted s src (R.ENGN_CTRL_RELEASE n).addr (withField s (R.ENGN_CTRL_RELEASE n) 1) →
      s.on (R.ENGN_CTRL_EN n) = true → Sched.engState s n = Sched.QUARANTINED → exec (.engRelease src n) s =
        .next (recorded ((s.set (R.ENGN_CTRL_EN n) 1).set (R.ENGN_STAT_STATE n) Sched.SELFTEST) src 1)) ∧
    (3 ≤ s.mode → Sched.engState s n = Sched.SELFTEST →
      exec (.selftestDone n true) s = .next (s.setEngine n { s.engine n with
        ready := true, scratch := [],
        ver := if s.get R.ENG_STAT_ROLL = 2 ∧ n.val ∉ s.eng.todo then s.eng.rollVer else s.get R.ENG_KSETVER_VER,
        kerns := if s.get R.ENG_STAT_ROLL = 2 ∧ n.val ∉ s.eng.todo then s.eng.rollSet else s.eng.set }) ∧
      ∃ t, exec (.selftestDone n false) s = .next t ∧ Sched.engState t n = Sched.QUARANTINED ∧
        t.get (R.ENGN_STAT_QCAUSE n) = 5 ∧ t.get R.ENG_IFLG_QUAR = 1 ∧ BytesKept s t)

/-- Quarantine (R185 to R187): a double-bit error in IMEM or DMEM of an ACTIVE engine, and a task that runs longer
than four times its WCET, quarantine the engine with cause 1, 2 or 3; its task is shown in LASTFAULT and runs again
elsewhere: on another ACTIVE engine, or from the overflow list. -/
def Obligations.Quarantine : Prop :=
  ∀ (s : State) (n : Fin 16) (j : Job), 3 ≤ s.mode → Sched.engState s n = Sched.ACTIVE → (s.engine n).job = some j →
    (s.engine n).deque = [] → j.slot < 4 → j.task < 1024 →
    (∀ dmem : Bool, ∃ t, exec (.engineQuarantine n dmem) s = .next t ∧ Sched.engState t n = Sched.QUARANTINED ∧
      t.get (R.ENGN_STAT_QCAUSE n) = 1 + b2n dmem ∧ t.get (R.ENGN_IFLG_DED n) = 1 ∧ t.get R.ENG_IFLG_QUAR = 1 ∧
      t.get (R.ENGN_LASTFAULT_SLOT n) = j.slot ∧ t.get (R.ENGN_LASTFAULT_TASK n) = j.task ∧ (t.engine n).job = none ∧
      ({ j with again := true } ∈ t.eng.overflow ∨ ∃ m, m ≠ n.val ∧ { j with again := true } ∈ (t.engine m).deque)) ∧
    (∀ cycles : Nat, 4 * (Sched.taskOf s j.slot j.task).wcet < cycles →
      ∃ t, exec (.taskWatchdog n cycles) s = .next t ∧ Sched.engState t n = Sched.QUARANTINED ∧
        t.get (R.ENGN_STAT_QCAUSE n) = 3 ∧ t.get (R.ENGN_IFLG_WDOG n) = 1 ∧ t.get R.ENG_IFLG_QUAR = 1 ∧
        ({ j with again := true } ∈ t.eng.overflow ∨ ∃ m, m ≠ n.val ∧ { j with again := true } ∈ (t.engine m).deque))

/-- The rolling update (R189, R190): an accepted ROLL starts the check of the staged set; a set that is not valid ends
the roll with ROLLFAIL, a valid one with no graph running starts the update of the engines; a passed reload gives the
engine the new set and makes it ready, a failed one quarantines it with cause 6. -/
def Obligations.RollingUpdate : Prop :=
  ∀ s : State,
    (∀ (src : Src) (carry : Bool), Accepted s src 0x1824 (0x100 + b2n carry) → exec (.roll src carry) s =
      .next (recorded ({ s with eng := { s.eng with carry := carry } }.set R.ENG_STAT_ROLL 1) src 1)) ∧
    (3 ≤ s.mode → s.get R.ENG_STAT_ROLL = 1 → s.eng.ded = [] →
      (Sched.readSet s (s.get R.ENG_KSETBASE_OFF) = none →
        exec .rollSetCheckDone s = .next ((s.set R.ENG_IFLG_ROLLFAIL 1).set R.ENG_STAT_ROLL 0)) ∧
      (∀ r, Sched.readSet s (s.get R.ENG_KSETBASE_OFF) = some r → (∀ k, (s.slot k).g = none) →
        exec .rollSetCheckDone s = .next ({ s with eng := { s.eng with
          rollSet := r.1, rollVer := r.2, todo := List.range 16 } }.set R.ENG_STAT_ROLL 2))) ∧
    (∀ n : Fin 16, 3 ≤ s.mode → Sched.engState s n = Sched.UPDATING →
      exec (.reloadDone n true) s = .next (s.setEngine n { s.engine n with
        ready := true, forRoll := false, scratch := [], ver := s.eng.rollVer, kerns := s.eng.rollSet }) ∧
      ∃ t, exec (.reloadDone n false) s = .next t ∧ Sched.engState t n = Sched.QUARANTINED ∧
        t.get (R.ENGN_STAT_QCAUSE n) = 6 ∧ t.get R.ENG_IFLG_QUAR = 1)

/-- Droop and Thallus errors (R184, R185, R402, R441): a sag inside the operating conditions steps the engine clock
down, at most to step 3, and is flagged and counted by its supply; outside them the spec gives no behaviour and the
step faults; 50 microseconds without a trip step it up; a double-bit error is counted, its address recorded, and the
word stays in error until written; a scrub pass is counted, counts the single-bit errors it corrects and meets every
word in error. Where the rules leave the reading open it is the model's choice: notes/assumptions/39.md and
notes/assumptions/78.md. -/
def Obligations.DroopAndErrors : Prop :=
  ∀ s : State,
    (∀ v : Bool, exec (.sagTrip v false) s = .fault .outsideConditions) ∧
    (∀ v : Bool, 3 ≤ s.mode → s.get R.ENG_STAT_CLKSTEP < 3 → exec (.sagTrip v true) s = .next
      (((((s.set (if v then R.PWR_STAT_SAG33 else R.PWR_STAT_SAGC) 1).set R.PWR_IFLG_SAG 1).set R.ENG_STAT_CLKSTEP
        (s.get R.ENG_STAT_CLKSTEP + 1)).bump (if v then R.ENG_DROOPCNT_VDD33 else R.ENG_DROOPCNT_VDDC)).set
        R.SCHED_IFLG_DROOP 1)) ∧
    (∀ v : Bool, 3 ≤ s.mode → s.get R.ENG_STAT_CLKSTEP = 3 → exec (.sagTrip v true) s =
      .next ((s.set (if v then R.PWR_STAT_SAG33 else R.PWR_STAT_SAGC) 1).set R.PWR_IFLG_SAG 1)) ∧
    (3 ≤ s.mode → exec .droopStepUp s = .next (((s.set R.PWR_STAT_SAG33 0).set R.PWR_STAT_SAGC 0).set
      R.ENG_STAT_CLKSTEP (s.get R.ENG_STAT_CLKSTEP - 1))) ∧
    (∀ a : BitVec 22, 3 ≤ s.mode → a.toNat % 4 = 0 → 0x400000 + a.toNat ∉ s.eng.ded →
      exec (.thallusDoubleBitError a none) s = .next ((({ s with eng := { s.eng with
        ded := (0x400000 + a.toNat) :: s.eng.ded } }.bump R.ENG_TDED_COUNT).set R.ENG_TDEDADDR_ADDR
        (0x400000 + a.toNat)).set R.ENG_IFLG_TDED 1)) ∧
    (∀ (a : BitVec 22) (k : Fin 4), 3 ≤ s.mode → (s.slot k).busy = true →
      ∃ t, exec (.thallusDoubleBitError a (some k)) s = .next t ∧ (t.slot k).bad = true ∧ t.get R.ENG_IFLG_TDED = 1) ∧
    (3 ≤ s.mode → ∃ fixed : Nat,
      (s.eng.ded = [] → exec .scrubPass s =
        .next ((s.tick.addSat R.ENG_ERRCNT_BLKERR fixed).bumpWrap R.ENG_SCRUBPASS_COUNT)) ∧
      (∀ w : Nat, s.eng.ded = [w] → exec .scrubPass s = .next (((((s.tick.addSat R.ENG_ERRCNT_BLKERR fixed).bump
        R.ENG_TDED_COUNT).set R.ENG_TDEDADDR_ADDR w).set R.ENG_IFLG_TDED 1).bumpWrap R.ENG_SCRUBPASS_COUNT)))

/-- Mute and the microphone supply (R200 to R205, R209). A low MUTE_SW_N mutes: MUTED, HWMUTE, the flag and the count,
every PDM clock low, MICVDD_OUT open, the wake stage HELD or still OFF. Peat then reads 0 throughout. The start
sequence probes with LIVEREQ set, else closes MICVDD_OUT; the clocks of the needed microphones follow the wait,
SETTLED the settle time. An overcurrent opens the switch. A good probe ends refusal, a bad one brings it; a new one
runs while it lasts. Where the rules leave the reading open it is the model's choice: notes/assumptions/66.md. -/
def Obligations.MuteAndMicrophones : Prop :=
  ∀ s : State, s.mode ≠ 0 →
    (s.on R.PRIV_STAT_MUTED = false → ∃ t, exec (.hwmuteChange false) s = .next t ∧
      t.on R.PRIV_STAT_MUTED = true ∧ t.on R.PRIV_STAT_HWMUTE = true ∧ t.on R.PRIV_IFLG_MUTE = true ∧
      t.get R.PRIV_EVCNT_MUTES = min (s.get R.PRIV_EVCNT_MUTES + 1) 0xFFFF ∧ t.get R.PDM_STAT_CLKRUN = 0 ∧
      t.get R.PDM_STAT_MICVDDON = 0 ∧ t.mic.ph = .off ∧ t.mic.zeroing = true ∧
      t.get R.WAKE_STAT_STAGE = (if s.get R.WAKE_STAT_STAGE = 0 then 0 else 4) ∧ BytesKept s t ∧
      t.strm.ctxs = s.strm.ctxs) ∧
    (s.on R.PRIV_STAT_MUTED = true → s.on R.PRIV_CTRL_SWMUTE = false → ∃ t, exec (.hwmuteChange true) s = .next t ∧
      t.on R.PRIV_STAT_MUTED = false ∧ t.on R.PRIV_STAT_HWMUTE = false ∧ t.on R.PRIV_IFLG_UNMUTE = true ∧
      BytesKept s t ∧ t.strm.ctxs = s.strm.ctxs) ∧
    (s.mic.zeroing = true → exec .peatZeroed s =
      .next { (s.clearBytes 0x800000 0x860000).set R.PRIV_IFLG_PEATZERO 1 with mic := { s.mic with zeroing := false } }) ∧
    (Mic.needed s ≠ [] → s.mic.ph = .off → Strm.micsCut s = false →
      (s.on R.PRIV_POLICY_LIVEREQ = true → exec .micStartSequence s =
        .next { s.set R.PRIV_STAT_PROBE 1 with mic := { s.mic with probeBad := false, ph := .probe } }) ∧
      (s.on R.PRIV_POLICY_LIVEREQ = false → s.on R.PDM_IFLG_MICVDDOC = false → exec .micStartSequence s =
        .next { (s.set R.PDM_STAT_MICVDDON 1).set R.PDM_STAT_MICVDDOC 0 with mic := { s.mic with ph := .vddWait } })) ∧
    (s.mic.ph = .vddWait → Strm.micsCut s = false → exec .vddwaitEnd s = .next { s.set R.PDM_STAT_CLKRUN (Mic.clocksWanted s)
      with mic := { s.mic with ph := .running, settling := (Mic.needed s).filter (fun i => bit (Mic.clocksWanted s) (i / 8)) } }) ∧
    (∀ clocks : BitVec 4, s.mic.settling.any (fun m => bit clocks.toNat (m / 8)) = true →
      s.get R.WAKE_STAT_STAGE ≠ 4 → exec (.settled clocks) s = .next { s.set R.PDM_IFLG_SETTLED 1 with
        mic := { s.mic with settling := s.mic.settling.filter (fun i => !bit clocks.toNat (i / 8)) } }) ∧
    (s.on R.PDM_STAT_MICVDDON = true → exec .micvddOvercurrent s =
      .next ((((s.set R.PDM_STAT_MICVDDON 0).set R.PDM_STAT_MICVDDOC 1).set R.PDM_IFLG_MICVDDOC 1).bump
        R.PDM_ERRCNT_BLKERR)) ∧
    (s.on R.PRIV_STAT_PROBE = true → ∃ t, exec .liveProbeEnd s = .next t ∧ t.get R.PRIV_STAT_PROBE = 0 ∧ BytesKept s t ∧
      (s.mic.probeBad = false → t.get R.PRIV_STAT_LIVEFLT = 0) ∧
      (s.mic.probeBad = true → t.get R.PRIV_STAT_LIVEFLT = 1) ∧
      (s.mic.probeBad = true → s.on R.PRIV_STAT_LIVEFLT = false → t.get R.PDM_STAT_CLKRUN = 0 ∧
        t.get R.PDM_STAT_MICVDDON = 0 ∧ t.get R.PRIV_IFLG_LIVEFLT = 1)) ∧
    (s.on R.PRIV_STAT_LIVEFLT = true → s.on R.PRIV_STAT_PROBE = false →
      exec .reprobe s = .next { s.set R.PRIV_STAT_PROBE 1 with mic := { s.mic with probeBad := false } })

/-- The wake stages (R211, R214, R215, R222). Peat writes one frame per frame period and counts it in WIDX. A Spore
hop at T1 opens a candidate: in FHD with a model loaded. A Fiddlehead hop at T2 takes it to FROND. A window that
expires closes it, counted; so does an expired deferral, with a STOP for a live verifier context. An accepted START
that is no longer valid is dropped and counted. -/
def Obligations.WakeStages : Prop :=
  ∀ s : State, s.mode ≠ 0 →
    (∀ xs : List Sample, 2 ≤ s.mode → Mic.wakeCtxs s = [] → exec (.peatFrame xs) s =
      .next (((s.setBytes (0x800000 + Mic.frameBytes s * (Mic.widx s % Mic.cap s))
        ((List.range (Mic.peatCh s)).flatMap (fun c => Mic.sampleBytes s
          (if Mic.delivers s (Mic.chSrc s c) ∧ s.mic.zeroing = false then xs.getD c 0 else 0)))).set R.PEAT_WIDXLO_V
        ((Mic.widx s + 1) % 2 ^ 32)).set R.PEAT_WIDXHI_V ((Mic.widx s + 1) / 2 ^ 32 % 2 ^ 32))) ∧
    (∀ (conf : Byte) (b : BitVec 64), s.get R.WAKE_STAT_STAGE = 1 → s.on R.WAKE_STAT_ACCPEND = false →
      s.get R.WAKE_THR_T1 ≤ conf.toNat → s.on R.FHD_CTRL_EN = true → s.on R.FHD_STAT_MODELOK = true →
      Mic.oldest s ≤ Mic.widx s →
      ∃ t, exec (.sporeHop conf (some b)) s = .next t ∧ t.get R.WAKE_STAT_STAGE = 2 ∧ t.get R.FHD_STAT_ENGAGED = 1 ∧
        t.get R.WAKE_IFLG_T1 = 1 ∧ t.get R.WAKE_CONF_SPORE = conf.toNat ∧
        Mic.startIdx t = max (Mic.widx s - b.toNat - Mic.preroll s) (Mic.oldest s) ∧
        t.get R.WAKE_ONSETLO_IDX = (Mic.widx s - b.toNat) % 2 ^ 32 ∧
        t = { s with regs := t.regs, mic := { s.mic with onsets := [], lastOnset := some (Mic.widx s - b.toNat) } } ∧
        FieldsKept s t [R.WAKE_STAT_STAGE, R.FHD_STAT_ENGAGED, R.WAKE_IFLG_T1, R.WAKE_CONF_SPORE, R.WAKE_CONF_FHD,
          R.WAKE_ONSETLO_IDX, R.WAKE_ONSETHI_IDX, R.WAKE_STARTLO_IDX, R.WAKE_STARTHI_IDX, R.WAKE_STAT_CLAMPED]) ∧
    (∀ conf : Byte, s.get R.WAKE_STAT_STAGE = 2 → conf.toNat < s.get R.WAKE_THR_T2 →
      ∃ t, exec (.fhdHop conf) s = .next t ∧ OnlyFields s t [R.WAKE_CONF_FHD] ∧
        t.get R.WAKE_CONF_FHD = max (s.get R.WAKE_CONF_FHD) conf.toNat) ∧
    (∀ conf : Byte, s.get R.WAKE_STAT_STAGE = 2 → s.get R.WAKE_THR_T2 ≤ conf.toNat → s.on R.WAKE_CTRL_FRONDEN = true →
      s.on R.WAKE_VSEQ_AUTO = false → ∃ t, exec (.fhdHop conf) s = .next t ∧ t.get R.WAKE_STAT_STAGE = 3 ∧
        t.get R.WAKE_IFLG_T2 = 1 ∧ t.get R.FHD_STAT_ENGAGED = 0 ∧
        OnlyFields s t [R.WAKE_CONF_FHD, R.WAKE_STAT_STAGE, R.WAKE_IFLG_T2, R.FHD_STAT_ENGAGED]) ∧
    (s.get R.WAKE_STAT_STAGE = 2 → s.on R.PWR_STAT_HELD = false →
      ∃ t, exec .fhdwinExpire s = .next t ∧ CandidateClosed s t 1 R.WAKE_REJCNT_FHD) ∧
    (s.get R.WAKE_STAT_STAGE = 3 → s.on R.PWR_STAT_HELD = false →
      ∃ t, exec .vwinExpire s = .next t ∧ CandidateClosed s t 1 R.WAKE_REJCNT_FROND) ∧
    (Mic.isOpen s = true → s.on R.WAKE_STAT_DEFER = true → s.on R.PWR_STAT_HELD = true → s.on R.NVM_STAT_BUSY = false →
      ∃ t, exec .wakeDeferExpire s = .next t ∧ t.get R.WAKE_STAT_STAGE = 1 ∧ t.get R.WAKE_IFLG_DEFERDISC = 1 ∧
        t.get R.WAKE_IFLG_REJECT = 1 ∧ t.get R.WAKE_REJCNT_DEFERDISC = min (s.get R.WAKE_REJCNT_DEFERDISC + 1) 0xFF ∧
        t.get R.WAKE_STAT_DEFER = 0 ∧ t.get R.PWR_STAT_HELD = 0 ∧ BytesKept s t ∧ t.strm.ctxs = s.strm.ctxs ∧
        (s.get R.WAKE_STAT_STAGE = 3 → s.on R.WAKE_VCTX_VEN = true → s.live (s.get R.WAKE_VCTX_CTX) = true →
          (s.get R.WAKE_VCTX_CTX, Req.stop) ∈ t.strm.reqs)) ∧
    (s.on R.WAKE_STAT_ACCPEND = true → Mic.startIdx s < Mic.oldest s →
      exec .candidateExpired s = .next ((s.set R.WAKE_STAT_ACCPEND 0).bump R.WAKE_EVCNT_EXPIRED))

/-- The wake path and its commands (R215 to R218, R223 to R225, R292): an accepted verdict keeps the candidate,
counted, and flagged where HOSTWAKE.IRQ is set, or closes it; EN opens the path in SPORE, clearing EN ends it; a model
load starts with no model; the sequencer issues the GLOAD of the verifier as the ENG source; a context in catch-up
sends frames, counted in IN and OUT: on USB as one transfer that begins with the index of its first frame and ends
with a short packet. Where the rules leave the reading open it is the model's choice: notes/assumptions/65.md and
notes/assumptions/96.md. -/
def Obligations.WakeCommands : Prop :=
  ∀ (s : State) (src : Src),
    (Accepted s src 0x3238 1 → s.on R.WAKE_HOSTWAKE_USB = false → s.on R.WAKE_HOSTWAKE_RZ = false →
      s.on R.PWR_STAT_HELD = false → exec (.verdictAccept src) s = .next (recorded (if s.on R.WAKE_HOSTWAKE_IRQ
        then { ((((s.set R.WAKE_STAT_STAGE 1).set R.FHD_STAT_ENGAGED 0).set R.WAKE_STAT_ACCPEND 1).bump
          R.WAKE_EVCNT_ACCEPTS).set R.WAKE_IFLG_ACCEPT 1 with mic := { s.mic with seq := 0 } }
        else { (((s.set R.WAKE_STAT_STAGE 1).set R.FHD_STAT_ENGAGED 0).set R.WAKE_STAT_ACCPEND 1).bump
          R.WAKE_EVCNT_ACCEPTS with mic := { s.mic with seq := 0 } }) src 1)) ∧
    (Accepted s src 0x3238 2 → s.on R.PWR_STAT_HELD = false → ∃ u, CandidateClosed s u 1 R.WAKE_REJCNT_FROND ∧
      exec (.verdictReject src) s = .next (recorded u src 1)) ∧
    (Accepted s src R.WAKE_CTRL_EN.addr (withField s R.WAKE_CTRL_EN 1) → s.on R.WAKE_CTRL_EN = false →
      exec (.wakeEnable src) s = .next (recorded { ((s.set R.WAKE_CTRL_FRONDEN (s.get R.WAKE_CTRL_FRONDEN)).set
        R.WAKE_CTRL_EN 1).set R.WAKE_STAT_STAGE (if Strm.micsCut s then 4 else 1) with
        mic := { s.mic with onsets := [], lastOnset := none } } src 1)) ∧
    (Accepted s src R.WAKE_CTRL_EN.addr (withField s R.WAKE_CTRL_EN 0) → s.on R.WAKE_CTRL_EN = true →
      Mic.isOpen s = false → s.on R.PWR_STAT_HELD = false →
      exec (.wakeDisable src) s = .next (recorded ((((s.set R.WAKE_CTRL_FRONDEN (s.get R.WAKE_CTRL_FRONDEN)).set
        R.WAKE_CTRL_EN 0).set R.WAKE_STAT_STAGE 0).set R.WAKE_STAT_ACCPEND 0) src 1)) ∧
    (Accepted s src 0x3420 1 → exec (.modelLoadStart src) s =
      .next (recorded { s.set R.FHD_STAT_MODELOK 0 with mic := { s.mic with model := [], loading := true } } src 1)) ∧
    (3 ≤ s.mode → s.on R.SYS_STAT_MOVING = false → s.get R.WAKE_STAT_STAGE = 3 → s.mic.seq = 1 →
      waits s .sequencer = false →
      Accepted s .eng 0x1924 (s.get R.WAKE_VSEQ_VHDR + 2 ^ 30 * s.get R.WAKE_VSEQ_VSLOT) →
      ∃ t, exec .wakeSequencerStep s = .next t ∧ t.mic = { s.mic with seq := 2 } ∧
        t.eng.cand = some ⟨s.get R.WAKE_VSEQ_VSLOT, false, false, s.get R.WAKE_VSEQ_VHDR, none,
          s.get R.SCHED_ADMCFG_DROOPFLOOR, s.get R.SCHED_ADMCFG_UTILCAP⟩ ∧
        t.get R.SCHED_ADMSTAT_STATUS = 1 ∧ BytesKept s t ∧ t.strm = s.strm) ∧
    (∀ (c : Byte) (n : Nat), 3 ≤ s.mode → s.get R.WAKE_VCTX_DCTX = c.toNat → Mic.catchUp s c.toNat = true →
      (s.ctx c.toNat).st = .running → s.mic.ridx = [(c.toNat, Mic.widx s - n)] → n ≤ Mic.widx s → 0 < n →
      (s.on R.WAKE_CUCFG_TGT = false → n ≤ Mic.bulkFrames s c.toNat) →
      ∃ t, exec (.catchupTransfer c n) s = .next t ∧ t.mic.ridx = [(c.toNat, Mic.widx s)] ∧
        t.get R.WAKE_STAT_CUDONE = 1 ∧ OtherContextsKept s t c.toNat ∧ BytesKept s t ∧
        (t.ctx c.toNat).cin = (s.ctx c.toNat).cin + BitVec.ofNat 48 n ∧
        (t.ctx c.toNat).cout = (s.ctx c.toNat).cout + BitVec.ofNat 48 n ∧ (t.ctx c.toNat).fill = (s.ctx c.toNat).fill ∧
        (s.on R.WAKE_CUCFG_TGT = false →
          (∀ p ∈ t.usb.bulk.dropLast, p.length = Usb.maxPacket s 0x85) ∧
          (∀ p ∈ t.usb.bulk.getLast?, p.length < Usb.maxPacket s 0x85) ∧
          t.usb.bulk.flatten.take 8 = wordBytes ((Mic.widx s - n) % 2 ^ 32) ++ wordBytes ((Mic.widx s - n) / 2 ^ 32) ∧
          t.usb.bulk.flatten.length = 8 + n * s.cNch c.toNat * (if s.on R.PEAT_CFG_WIDTH then 3 else 2)))

/-- Analog inputs and outputs (R233, R235, R238 to R240, R246, R249): a PGA change that found no zero crossing takes
effect; an overcurrent turns MICBIAS off, flagged and counted; a wanted stage starts, through the charge pump and the
servo, whose offset is shown as the clamp opens, a stage barred by a low load flags it; the stop order ends with the
clamp closed once the audio has ramped to zero; an overcurrent begins it, flagged and counted: playing audio ramps
over MRAMP blocks. Where the rules leave the reading open it is the model's choice: notes/assumptions/98.md,
notes/assumptions/99.md and notes/assumptions/109.md. -/
def Obligations.AnalogStages : Prop :=
  ∀ s : State, 3 ≤ s.mode →
    (∀ n : Fin 4, Ain.pga s n ≠ s.get (R.AIN_INCFG_PGA n) → exec (.pgaZcTimeout n) s =
      .next { s with ana := { s.ana with pga := Map.set 0 s.ana.pga n (s.get (R.AIN_INCFG_PGA n)) } }) ∧
    (∀ n : Fin 2, Ain.biasOn s n = true → exec (.micbiasOvercurrent n) s =
      .next { ((s.set R.AIN_STAT_MBOC (putBit (s.get R.AIN_STAT_MBOC) n true)).set R.AIN_IFLG_MBOC 1).bump
        R.AIN_ERRCNT_BLKERR with ana := { s.ana with biasOff := s.ana.biasOff ||| 2 ^ n.val } }) ∧
    (∀ o : Fin 3, Out.ph s o = .off → Out.wanted s o = true → exec (.outputStart o) s = .next
      (if o = 0 then Out.setPh (s.set R.HP_STAT_STATE 1) 0 (if s.on R.HP_STAT_CPOK then .servo else .pump)
       else Out.setPh s o .servo)) ∧
    (Out.wanted s 0 = false → exec (.outputStart 0) s = .next (if s.get R.JACK_STAT_JSTATE = 5 ∧
      s.get R.JACK_STAT_ZCLASS = 1 ∧ s.on R.HP_CFG_LOWZOK = false then s.set R.HP_IFLG_LOWZ 1 else s)) ∧
    (Out.ph s 0 = .pump → exec .chargePumpReady s = .next (Out.setPh (s.set R.HP_STAT_CPOK 1) 0 .servo)) ∧
    (Out.ph s 0 ≠ .pump → s.get R.HP_STAT_STATE = 4 →
      exec .chargePumpReady s = .next ((s.set R.HP_STAT_CPOK 1).set R.HP_STAT_CLAMP 0)) ∧
    (∀ (o : Fin 3) (l r : Nat), Out.ph s o = .servo → exec (.servoDone o l r) s = .next
      (if o = 0 then Out.setPh ((((s.set R.HP_STAT_SERVO 1).set R.HP_STAT_CLAMP 0).set R.HP_SERVOOFS_OFSL l).set
        R.HP_SERVOOFS_OFSR r) 0 .opened else Out.setPh s o .opened)) ∧
    (∀ (o : Fin 3) (since len : Nat) (plug : Bool), Out.ph s o = .fade since len plug →
      (s.sampIdx < since + len → exec (.outputStop o) s = .next s) ∧
      (since + len ≤ s.sampIdx → (o = 0 → s.get R.HP_STAT_STATE = 3) → exec (.outputStop o) s = .next
      (if o = 0 then ((((Out.setPh s 0 .off).set R.HP_STAT_STATE 0).set R.HP_STAT_CLAMP 1).set R.HP_STAT_SERVO 0).set
        R.HP_STAT_CPOK 0
       else (Out.setPh s o .off).set R.LOUT_STAT_ON (putBit (s.get R.LOUT_STAT_ON) (o.val - 1) false)))) ∧
    (∀ (o : Fin 3) (u : State), Out.ph s o ≠ .off →
      u = (if o = 0 then (((s.set R.HP_STAT_OCP 1).set R.HP_IFLG_OCP 1).bump R.HP_ERRCNT_BLKERR).set R.HP_STAT_STATE 3
        else ((s.set R.LOUT_STAT_OCP (putBit (s.get R.LOUT_STAT_OCP) (o.val - 1) true)).set R.LOUT_IFLG_OCP
          (putBit (s.get R.LOUT_IFLG_OCP) (o.val - 1) true)).bump R.LOUT_ERRCNT_BLKERR) →
      exec (.outputOvercurrent o) s = .next (match Out.ph s o with
        | .on _ => Out.setPh u o (.fade s.sampIdx
            (s.get (if o = 0 then R.HP_CFG_MRAMP else R.LOUT_CFG_MRAMP) * s.blkLen) false)
        | .fade _ _ _ => u
        | _ => Out.setPh u o (.fade s.sampIdx 0 false)))

/-- The jack (R242 to R247, R249): an insertion is debounced, flagged and counted, and measured at once when it may
be, its type taken where it is forced, else held in PENDING; the second of two equal passes decides the type, the
fourth pass that agrees with none gives UNKNOWN; the second side's impedance ends in READY with the class of the lower
one, a low load flagged; a removal is debounced, aborts a measurement and forgets the type. The ground reference of
the headphone amplifier is the ground pole of a headset with GSAUTO, else HP_GSNS. The premise says that the headphone
stage is off. -/
def Obligations.JackMoves : Prop :=
  (∀ s : State, Jack.groundRef s = if s.on R.JACK_CFG_GSAUTO = false then none else if s.get R.JACK_STAT_TYPE = 3
    then some Jack.RING2 else if s.get R.JACK_STAT_TYPE = 4 then some Jack.SLEEVE else none) ∧
  ∀ s : State, 3 ≤ s.mode → Out.ph s 0 = .off →
    (∀ high : Bool, s.on R.JACK_CTRL_EN = true →
      (s.get R.JACK_STAT_JSTATE = 0 → (high == s.on R.JACK_CFG_DETPOL) = true → exec (.hpDetChange high) s =
        .next (Out.follow ({ s with jack := { s.jack with pin := high } }.set R.JACK_STAT_JSTATE 1))) ∧
      (s.get R.JACK_STAT_JSTATE = 5 → (high == s.on R.JACK_CFG_DETPOL) = false → exec (.hpDetChange high) s =
        .next (Out.follow ({ s with jack := { s.jack with pin := high, before := 5 } }.set R.JACK_STAT_JSTATE 6))) ∧
      (s.get R.JACK_STAT_JSTATE = 3 → (high == s.on R.JACK_CFG_DETPOL) = false → s.get R.HP_STAT_STATE ≠ 4 →
        exec (.hpDetChange high) s = .next (Out.follow ({ (s.bump R.JACK_EVCNT_ABORTS).bump R.JACK_ERRCNT_BLKERR with
          jack := { s.jack with classA := none, last := none, passes := 0, left := none, conv := none
                                pin := high, before := 3 } }.set R.JACK_STAT_JSTATE 6)))) ∧
    (∀ u v : State, u = { (((s.set R.JACK_IFLG_INSERT 1).bump R.JACK_EVCNT_INSERTS).set R.JACK_STAT_JSTATE 3).set
        R.JACK_STAT_TYPE 1 with jack := { s.jack with classA := none, last := none, passes := 0, left := none, conv := none } } →
      v = ((u.set R.JACK_STAT_TYPE ([0, 3, 4, 2].getD (s.get R.JACK_CFG_FORCE) 0)).set R.JACK_STAT_JSTATE 4).set
        R.HP_STAT_STATE 4 → s.get R.JACK_STAT_JSTATE = 1 →
      (s.get R.JACK_CFG_FORCE = 0 → s.on R.PRIV_STAT_MUTED = false → exec .jackDebounceEnd s = .next (Out.follow u)) ∧
      (s.get R.JACK_CFG_FORCE ≠ 0 → exec .jackDebounceEnd s =
        .next (Out.follow (if s.on R.HP_STAT_CPOK then v.set R.HP_STAT_CLAMP 0 else v))) ∧
      (s.get R.JACK_CFG_FORCE = 0 → s.on R.PRIV_STAT_MUTED = true → exec .jackDebounceEnd s = .next (Out.follow ((((s.set
        R.JACK_IFLG_INSERT 1).bump R.JACK_EVCNT_INSERTS).set R.JACK_STAT_JSTATE 2).set R.JACK_STAT_TYPE 5)))) ∧
    (s.get R.JACK_STAT_JSTATE = 6 → exec .jackDebounceEnd s = .next (Out.follow ({ (((s.set R.JACK_STAT_JSTATE 0).set
      R.JACK_STAT_TYPE 0).set R.JACK_STAT_ZCLASS 0).set R.JACK_STAT_BTN 0 with
      jack := { s.jack with classA := none, last := none, passes := 0, left := none, conv := none, pressed := 0 }
      ana := { s.ana with btnMute := false } }.set R.JACK_IFLG_REMOVE 1))) ∧
    (s.get R.JACK_STAT_JSTATE = 2 → s.on R.PRIV_STAT_MUTED = false → s.get R.JACK_CFG_FORCE = 0 →
      exec .jackPendingResume s = .next (Out.follow { (s.set R.JACK_STAT_JSTATE 3).set R.JACK_STAT_TYPE 1 with
        jack := { s.jack with classA := none, last := none, passes := 0, left := none, conv := none } })) ∧
    (∀ (uv b : Nat), s.get R.JACK_STAT_JSTATE = 3 → s.jack.conv = some uv → b = Jack.classOf uv (Jack.vb s) →
      (s.jack.classA = none → exec (.typeMeasurementDone uv) s = .next (Out.follow { s.set R.JACK_POLE_RA
        (Jack.ratio256 uv (Jack.vb s)) with jack := { s.jack with conv := none, classA := some b } })) ∧
      (∀ (a k : Nat) (u : State), s.jack.classA = some a → s.jack.last = some (a, b) ∧ k = Jack.typeOf a b ∨
          s.jack.last ≠ some (a, b) ∧ 3 ≤ s.jack.passes ∧ k = 6 →
        u = (({ s.set R.JACK_POLE_RB (Jack.ratio256 uv (Jack.vb s)) with
          jack := { s.jack with classA := none, last := none, passes := 0, left := none, conv := none } }.set
          R.JACK_STAT_TYPE k).set R.JACK_STAT_JSTATE 4).set R.HP_STAT_STATE 4 →
        exec (.typeMeasurementDone uv) s = .next (Out.follow (if s.on R.HP_STAT_CPOK then u.set R.HP_STAT_CLAMP 0 else u))) ∧
      (∀ a : Nat, s.jack.classA = some a → s.jack.last ≠ some (a, b) → s.jack.passes < 3 →
        exec (.typeMeasurementDone uv) s = .next (Out.follow { s.set R.JACK_POLE_RB (Jack.ratio256 uv (Jack.vb s)) with
          jack := { s.jack with classA := none, last := some (a, b), passes := s.jack.passes + 1, conv := none } }))) ∧
    (∀ uv : Nat, s.jack.conv ≠ some uv → exec (.typeMeasurementDone uv) s = .next (Out.follow s) ∧
      exec (.impedanceMeasurementDone uv) s = .next (Out.follow s)) ∧
    (∀ uv : Nat, s.get R.JACK_STAT_JSTATE = 4 → s.jack.conv = some uv →
      (s.jack.left = none → exec (.impedanceMeasurementDone uv) s = .next (Out.follow { s.set R.JACK_ZMEAS_ZL (Jack.zUnits uv)
        with jack := { s.jack with conv := none, left := some (Jack.zUnits uv) } })) ∧
      (∀ (l : Nat) (u : State), s.jack.left = some l → u = (({ (((s.set R.JACK_ZMEAS_ZR (Jack.zUnits uv)).set
          R.JACK_STAT_ZCLASS (Jack.zClass (min l (Jack.zUnits uv)))).set R.JACK_STAT_JSTATE 5).set R.JACK_IFLG_TYPE 1 with
          jack := { s.jack with conv := none, left := none } }.set R.HP_STAT_STATE 0).set R.HP_STAT_CLAMP 1) →
        exec (.impedanceMeasurementDone uv) s = .next (Out.follow (if Jack.zClass (min l (Jack.zUnits uv)) = 1 ∧
          s.on R.HP_CFG_LOWZOK = false then u.set R.HP_IFLG_LOWZ 1 else u))))

/-- Buttons (R250 to R252): a press below the highest threshold shows the button in BTN, flagged and counted, and
mutes the microphone with BTNMUTE; a release clears it while the comparator watches; the mute ends 20 ms later; a
press in LISTEN shows button 7 and mutes in the same way. -/
def Obligations.Buttons : Prop :=
  ∀ s : State,
    (∀ uv : Nat, Jack.watches s = true → s.jack.conv = some uv → s.get R.JACK_STAT_BTN = 0 ∨ s.get R.JACK_STAT_BTN = 7 →
      Jack.below s uv 3 = true → ∃ t, exec (.buttonPress uv) s = .next t ∧ t.get R.JACK_STAT_BTN = Jack.button s uv + 1 ∧
        t.get R.JACK_IFLG_BTNDN = 1 ∧ t.get R.JACK_EVCNT_BTNPRESS = min (s.get R.JACK_EVCNT_BTNPRESS + 1)
          (2 ^ R.JACK_EVCNT_BTNPRESS.w - 1) ∧ t.ana = { s.ana with btnMute := s.on R.JACK_CFG_BTNMUTE } ∧
        t = { s with regs := t.regs, ana := t.ana, jack := t.jack } ∧
        FieldsKept s t [R.JACK_STAT_BTN, R.JACK_IFLG_BTNDN, R.JACK_EVCNT_BTNPRESS, R.USBD_HIDIN_BTN]) ∧
    (Jack.watches s = true → s.get R.JACK_STAT_BTN ≠ 0 →
      ∃ t, exec .buttonRelease s = .next t ∧ t.get R.JACK_STAT_BTN = 0 ∧ t.get R.JACK_IFLG_BTNUP = 1 ∧
        t = { s with regs := t.regs, jack := { s.jack with pressed := 0 } } ∧
        FieldsKept s t [R.JACK_STAT_BTN, R.JACK_IFLG_BTNUP, R.USBD_HIDIN_BTN]) ∧
    (3 ≤ s.mode → s.get R.JACK_STAT_BTN = 0 →
      exec .btnmuteEnd s = .next { s with ana := { s.ana with btnMute := false } }) ∧
    (s.mode = 2 → s.on R.JACK_CFG_LPBTN = true → s.get R.JACK_STAT_JSTATE = 5 → Jack.headset s = true →
      s.on R.PRIV_STAT_MUTED = false → s.get R.JACK_STAT_BTN = 0 → Usb.state s ≠ Usb.SUSPENDED → Usb.state s ≠ Usb.L1 → s.pwr.booting = false →
      (s.on R.JACK_CFG_JWAKE = false →
        exec .listenButtonPress s = .next { (s.set R.JACK_STAT_BTN 7).set R.JACK_IFLG_BTNDN 1 with
          ana := { s.ana with btnMute := s.on R.JACK_CFG_BTNMUTE } }) ∧
      (s.on R.JACK_CFG_JWAKE = true → s.on R.SYS_STAT_MOVING = false → ∃ t, exec .listenButtonPress s = .next t ∧
        t.get R.JACK_STAT_BTN = 7 ∧ t.get R.JACK_IFLG_BTNDN = 1 ∧ t.get R.PWR_WAKESRC_JACK = 1 ∧
        t.on R.SYS_STAT_MOVING = true ∧ t = { s with
          regs := t.regs, pwr := { s.pwr with target := some 3 },
          ana := { s.ana with btnMute := s.on R.JACK_CFG_BTNMUTE } } ∧
        FieldsKept s t [R.JACK_STAT_BTN, R.JACK_IFLG_BTNDN, R.PWR_STAT_REQ, R.PWR_STAT_HELD, R.WAKE_STAT_DEFER,
          R.PWR_WAKESRC_JACK, R.PWR_IFLG_WAKEUP, R.PWR_MODEREQ_MODE, R.SYS_STAT_MOVING]))

/-- The states of an amplifier channel (R266, R278, R279, R282): a start, the bootstrap; a stop ramps to zero over a
block and then goes to Hi-Z; an overcurrent in RUN goes to SHORT with cause 1, in the ramp-in it is a failed retry;
the retry timer and CLRFLT bring a load test; it ends by the terminal check or, where that passes, by the differential
one: a passed test resumes, a failed one shows its cause, with NORETRY it latches; a clean time clears TRIES; a DC
offset latches with cause 4. The premise on the causes says that the fault input of the control DACs shows them as
they stand (R365), so that the event brings no other change. Where the rules leave the reading open it is the model's
choice: notes/assumptions/71.md and notes/assumptions/109.md. -/
def Obligations.AmplifierStates : Prop :=
  ∀ (s : State) (n : Fin 4), 3 ≤ s.mode → Cdac.causes s = s.get R.CDAC_STAT_SAFE →
    (Amp.slave s n = false → Amp.st s n = Amp.OFF → Amp.enabled s n = true → Amp.pvddGood s = true →
      s.on R.AMPG_STAT_TSD = false → exec (.ampStart n) s =
        .next (Amp.upd (s.set (R.AMP_STAT_STATE n) Amp.STARTING) n (fun c => { c with toRun := none }))) ∧
    (Amp.st s n = Amp.STARTING →
      exec (.bootstrapDone n) s = .next (Amp.upd s n (fun c => { c with toRun := some 1 }))) ∧
    (Amp.st s n = Amp.RUN → (Amp.ch s n).fade = none → Amp.enabled s n = false →
      exec (.ampStop n) s = .next (Amp.upd s n (fun c => { c with fade := some s.sampIdx }))) ∧
    (∀ since : Nat, Amp.st s n = Amp.RUN → (Amp.ch s n).fade = some since → s.sampIdx < since + s.blkLen →
      exec (.ampStop n) s = .next s) ∧
    ((∃ since, Amp.st s n = Amp.RUN ∧ (Amp.ch s n).fade = some since ∧ since + s.blkLen ≤ s.sampIdx) ∨
        Amp.st s n = Amp.STARTING ∧ Amp.enabled s n = false →
      ∃ t, exec (.ampStop n) s = .next t ∧ OnlyChannel s t n [R.AMP_STAT_STATE n] ∧ Amp.st t n = Amp.OFF ∧
        (Amp.ch t n).toRun = none ∧ (Amp.ch t n).ramp = 0 ∧ (Amp.ch t n).fade = none) ∧
    (Amp.st s n = Amp.RUN → Amp.slave s n = false → (Amp.ch s n).ramp = 0 →
      ∃ t, exec (.ampOvercurrent n) s = .next t ∧ OnlyChannel s t n [R.AMP_STAT_STATE n, R.AMP_FAULT_CAUSE n,
          R.AMP_IFLG_FAULT n, R.AMP_EVCNT_FAULTS n, R.AMP_ERRCNT_BLKERR n] ∧ Amp.st t n = Amp.SHORT ∧
        t.get (R.AMP_FAULT_CAUSE n) = 1 ∧ t.get (R.AMP_IFLG_FAULT n) = 1) ∧
    (Amp.st s n = Amp.RUN → Amp.slave s n = false → (Amp.ch s n).ramp ≠ 0 →
      ∃ t, exec (.ampOvercurrent n) s = .next t ∧ t.get (R.AMP_FAULT_CAUSE n) = 1 ∧
        t.get (R.AMP_FAULT_TRIES n) = min 3 (s.get (R.AMP_FAULT_TRIES n) + 1) ∧
        Amp.st t n = (if 2 ≤ s.get (R.AMP_FAULT_TRIES n) then Amp.LATCHED else Amp.SHORT) ∧
        OnlyChannel s t n [R.AMP_STAT_STATE n, R.AMP_FAULT_CAUSE n, R.AMP_FAULT_TRIES n, R.AMP_IFLG_FAULT n,
          R.AMP_IFLG_LATCH n, R.AMP_EVCNT_FAULTS n, R.AMP_EVCNT_LATCHES n, R.AMP_ERRCNT_BLKERR n]) ∧
    (Amp.st s n = Amp.SHORT → ∃ t, exec (.retryTimerExpire n) s = .next t ∧ OnlyChannel s t n [R.AMP_STAT_STATE n] ∧
        Amp.st t n = Amp.TESTING ∧ n.val ∈ t.amp.tests) ∧
    (Amp.st s n = Amp.TESTING → s.amp.tests.head? = some n.val →
      ∀ a b d u i : Int,
      (s.amp.conv = [] ∨ (∃ x r, s.amp.conv = x :: r ∧ (x ≠ a ∨ Amp.terminalCause s a a ≠ Amp.terminalCause s a b ∨
          r = [] ∧ Amp.terminalCause s a b = 0)) →
        exec (.loadTestDone n a b d u i) s = .next s) ∧
      (∀ (x : Int) (r : List Int), s.amp.conv = x :: d :: r → x = a → u = Amp.meanUv (Amp.ch s n).vi →
        i = Amp.meanUa (Amp.ch s n).vi → Amp.terminalCause s a b = 0 →
        Amp.loadCause ⟨a, b, d, u, i⟩ = 0 → s.on (R.AMP_CFG_NORETRY n) = false →
        ∃ t, exec (.loadTestDone n a b d u i) s = .next t ∧ OnlyChannel s t n [R.AMP_LOADZ_Z n, R.AMP_IFLG_RESUME n] ∧
          t.get (R.AMP_LOADZ_Z n) = Amp.loadZ d i ∧
          (Amp.ch t n).toRun = some 64 ∧ t.get (R.AMP_IFLG_RESUME n) = 1 ∧ n.val ∉ t.amp.tests) ∧
      (∀ (x : Int) (r : List Int) (v : Nat), s.amp.conv = x :: r → x = a →
          Amp.terminalCause s a a = Amp.terminalCause s a b → v ≠ 0 →
          v = Amp.terminalCause s a b ∨ Amp.terminalCause s a b = 0 ∧ (∃ q, r = d :: q) ∧ u = Amp.meanUv (Amp.ch s n).vi ∧
            i = Amp.meanUa (Amp.ch s n).vi ∧ v = Amp.loadCause ⟨a, b, d, u, i⟩ →
        ∃ t, exec (.loadTestDone n a b d u i) s = .next t ∧ t.get (R.AMP_FAULT_CAUSE n) = v ∧ n.val ∉ t.amp.tests ∧
        (s.on (R.AMP_CFG_NORETRY n) = false → t.get (R.AMP_FAULT_TRIES n) = min 3 (s.get (R.AMP_FAULT_TRIES n) + 1)) ∧
        Amp.st t n = (if s.on (R.AMP_CFG_NORETRY n) = true ∨ 2 ≤ s.get (R.AMP_FAULT_TRIES n) then Amp.LATCHED
          else Amp.SHORT) ∧
        OnlyChannel s t n [R.AMP_STAT_STATE n, R.AMP_LOADZ_Z n, R.AMP_FAULT_CAUSE n, R.AMP_FAULT_TRIES n, R.AMP_IFLG_LATCH n,
          R.AMP_EVCNT_LATCHES n, R.AMP_ERRCNT_BLKERR n])) ∧
    (∀ src : Src, Accepted s src (R.AMP_CTRL_CLRFLT n).addr (withField s (R.AMP_CTRL_CLRFLT n) 1) →
      Amp.st s n = Amp.LATCHED → (∀ m < 4, Amp.st s m ≠ Amp.OFF → Amp.enabled s m = true) →
      ∃ u, exec (.clrflt src n) s = .next (recorded u src 1) ∧ OnlyChannel s u n [R.AMP_CTRL_EN n, R.AMP_STAT_STATE n,
        R.AMP_FAULT_TRIES n] ∧ Amp.st u n = Amp.TESTING ∧ u.get (R.AMP_FAULT_TRIES n) = 0 ∧ n.val ∈ u.amp.tests ∧
        u.get (R.AMP_CTRL_EN n) = s.get (R.AMP_CTRL_EN n)) ∧
    (Amp.st s n = Amp.RUN → (Amp.ch s n).ramp = 0 →
      exec (.triesClean n) s = .next (s.set (R.AMP_FAULT_TRIES n) 0)) ∧
    (Amp.st s n = Amp.RUN → s.get R.AMPG_RETRY_DCTHR ≠ 0 → ∃ t, exec (.dcOffsetDetect n) s = .next t ∧
      Amp.st t n = Amp.LATCHED ∧ t.get (R.AMP_FAULT_CAUSE n) = 4 ∧ t.get (R.AMP_IFLG_LATCH n) = 1 ∧
      OnlyChannel s t n [R.AMP_STAT_STATE n, R.AMP_FAULT_CAUSE n, R.AMP_IFLG_LATCH n, R.AMP_EVCNT_LATCHES n,
        R.AMP_ERRCNT_BLKERR n])

/-- Supply, temperature and loudspeaker protection (R267 to R273, R281, R283): PVDD below 4.2 V takes every running
bridge to SUPPLY; 150 degrees takes it to THERMAL and asserts the fault input, which outlasts a PVDD fault; the
thermal model moves both nodes and begins a new millisecond; an Re window below 20 mA is invalid; a stale NTC is
noted, and flagged where a channel uses it; a sense period adds each squared current and keeps the pair; APPLY judges
the staged record. Which of SUPPLY and THERMAL wins is the model's choice: notes/assumptions/100.md. -/
def Obligations.AmplifierProtection : Prop :=
  ∀ s : State, 3 ≤ s.mode → Cdac.causes s = s.get R.CDAC_STAT_SAFE →
    (∀ level : Nat, level < 420 → ∃ t, exec (.pvddFault level) s = .next t ∧ t.get R.AMPG_STAT_PVDD = level ∧
      t.get R.AMPG_STAT_UV = 1 ∧ (s.on R.AMPG_STAT_UV = false → t.get R.AMPG_IFLG_UV = 1) ∧
      t.strm = s.strm ∧ BytesKept s t ∧
      (s.on R.AMPG_STAT_TSD = true → ∀ n < 4, Amp.st t n = if Amp.st s n = Amp.RUN ∨ Amp.st s n = Amp.STARTING ∨
        Amp.st s n = Amp.SUPPLY then Amp.THERMAL else Amp.st s n) ∧
      (s.on R.AMPG_STAT_TSD = false → (∀ n < 4, Amp.st s n ≠ Amp.THERMAL) →
        (∀ n < 4, Amp.st t n = if Amp.st s n = Amp.RUN ∨ Amp.st s n = Amp.STARTING then Amp.SUPPLY else Amp.st s n) ∧
        t = { s with regs := t.regs, amp := t.amp } ∧
        FieldsKept s t ([R.AMPG_STAT_PVDD, R.AMPG_STAT_UV, R.AMPG_STAT_OV, R.AMPG_IFLG_UV, R.AMPG_ERRCNT_BLKERR] ++
          (List.range 4).map R.AMP_STAT_STATE))) ∧
    (∀ T : Int, 150 ≤ T → ∃ t, exec (.dieTemperatureThreshold T) s = .next t ∧ t.get R.AMPG_STAT_TSD = 1 ∧
      (s.on R.AMPG_STAT_TSD = false → t.get R.AMPG_IFLG_TSD = 1) ∧
      (∀ n < 4, Amp.st t n = if Amp.st s n = Amp.RUN ∨ Amp.st s n = Amp.STARTING ∨ Amp.st s n = Amp.SUPPLY
        then Amp.THERMAL else Amp.st s n) ∧
      ((∃ n < 4, Amp.st t n = Amp.THERMAL) → bit (t.get R.CDAC_STAT_SAFE) 2 = true) ∧ t.strm = s.strm ∧ BytesKept s t) ∧
    (∃ t, exec .thermalModelStep s = .next t ∧ t.strm = s.strm ∧ BytesKept s t ∧
      (∀ n ∈ Amp.channels s, (Amp.ch t n).nI = 0 ∧ (Amp.ch t n).sumI2 = 0) ∧
      ∀ n ∈ Amp.channels s, Amp.st s n ≠ Amp.OFF → s.on (Amp.sp R.SPKP_CTL_EN n) = true →
        s.get (Amp.sp R.SPKP_COIL_RTHC n) ≠ 0 → (Amp.ch t n).tc = (Amp.nodes s n (Amp.power s n)).1 ∧
          (Amp.ch t n).tm = (Amp.nodes s n (Amp.power s n)).2) ∧
    (∀ (n : Fin 4) (uv ua : Nat), Amp.slave s n = false → s.get (Amp.sp R.SPKP_CTL_RETRK n) ≠ 0 → Amp.st s n ≠ Amp.OFF →
      s.on (Amp.sp R.SPKP_CTL_EN n) = true →
      (ua < 20000 → exec (.reWindowEnd n uv ua) s =
        .next ((s.set (Amp.sp R.SPKP_PWR_REVALID n) 0).bump R.SPKP_ERRCNT_BLKERR)) ∧
      (20000 ≤ ua → ∃ t, exec (.reWindowEnd n uv ua) s = .next t ∧ t.get (Amp.sp R.SPKP_PWR_REVALID n) = 1 ∧
        (Amp.ch t n).re = uv * 1000000 / ua ∧
        OnlyChannel s t n [Amp.sp R.SPKP_PWR_REVALID n, Amp.sp R.SPKP_PRED_RE n])) ∧
    (∀ (k : Fin 2) (u : State), u = { s with amp := { s.amp with ntcStale := s.amp.ntcStale ||| 2 ^ k.val } } →
      exec (.ntcStale k) s = .next (if (Amp.channels s).any (fun n => s.get (Amp.sp R.SPKP_CTL_MAGSRC n) == k.val + 1)
        then u.set R.SPKP_IFLG_NTCSTALE 1 else u)) ∧
    (∀ (vi : List (BitVec 16 × BitVec 16)) (pv : Nat), pv < 2 ^ R.AMPG_STAT_PVDD.w →
      (∀ c ∈ s.ctxNums, c < 256 ∧ ¬(s.cType c = 8 ∧ s.cSink c = false ∧ (s.ctx c).st = .running)) →
      ∃ t, exec (.senseSample vi pv) s = .next t ∧ t.get R.AMPG_STAT_PVDD = pv ∧ t.strm = s.strm ∧ BytesKept s t ∧
        ∀ n ∈ Amp.channels s, (Amp.ch t n).nI = (Amp.ch s n).nI + 1 ∧
          (Amp.paired s n = false → (Amp.ch t n).vi = (((vi.getD n (0, 0)).1.toInt, (vi.getD n (0, 0)).2.toInt) ::
            (Amp.ch s n).vi).take (if s.get R.SYS_SYSCFG_SYSRATE % 2 = 0 then 44 else 48)) ∧
          (Amp.paired s n = false → Amp.st s n = Amp.RUN → (Amp.ch t n).sumI2 = (Amp.ch s n).sumI2 +
            (vi.getD n (0, 0)).2.toInt.natAbs * (vi.getD n (0, 0)).2.toInt.natAbs)) ∧
    (∀ src : Src, Accepted s src 0x4628 1 →
      (Amp.recordError (Amp.staged s src.code) ≠ 0 → exec (.apply src) s = .next (recorded (((s.set R.EXCUR_STAT_RECERR
        (Amp.recordError (Amp.staged s src.code))).set R.EXCUR_IFLG_RECBAD 1).bump R.EXCUR_ERRCNT_BLKERR) src 1)) ∧
      (Amp.recordError (Amp.staged s src.code) = 0 → exec (.apply src) s = .next (recorded (Amp.upd ((s.set
        R.EXCUR_STAT_RECERR 0).set R.EXCUR_IFLG_RECOK 1) (s.get (R.EXCUR_SEL_CH.win (src.code + 1)))
        (fun c => { c with record := some (toWords (Amp.staged s src.code)) })) src 1)))

/-- The USB bus (R290, R295, R304, R306 to R309): VBUS with EN attaches the device and its loss detaches it; reset,
configuration 0, suspend and detachment stall every RUNNING TYPE 2 context with CAUSE 4; configuration 1 selects
setting 0, and a setting that is left stalls its context without AUTOSTART; resume returns to the state before; an LPM
token is answered ACK into L1 or NYET; remote wakeup is signalled only where the host enabled it. Where the rules
leave the reading open it is the model's choice: notes/assumptions/61.md. -/
def Obligations.UsbBus : Prop :=
  ∀ s : State, s.mode ≠ 0 → s.pwr.booting = false →
    (s.on R.USB_CTRL_EN = true → Usb.state s = Usb.DETACHED → s.asrc.steerRunning = false → exec (.vbusChange true) s =
      .next (Strm.noteRecon ((s.set R.USB_STAT_VBUS 1).set R.USB_STAT_STATE 1))) ∧
    (Usb.state s ≠ Usb.DETACHED → ∃ t, exec (.vbusChange false) s = .next t ∧ BusEvent s t [R.USB_STAT_VBUS,
      R.USB_STAT_STATE, R.USB_STAT_SPEED, R.USB_STAT_RWEN, R.USBD_STAT_ALTOUT, R.USBD_STAT_ALTIN] ∧
      Usb.state t = Usb.DETACHED ∧ t.get R.USB_STAT_VBUS = 0 ∧ t.get R.USBD_STAT_ALTOUT = 0 ∧ t.get R.USBD_STAT_ALTIN = 0) ∧
    (∀ high : Bool, Usb.state s ≠ Usb.DETACHED → ∃ t, exec (.busReset high) s = .next t ∧ BusEvent s t [R.USB_STAT_STATE,
      R.USB_STAT_RWEN, R.USB_IFLG_BUSRESET, R.USB_STAT_SPEED, R.USBD_STAT_ALTOUT, R.USBD_STAT_ALTIN] ∧
      Usb.state t = Usb.DEFAULT ∧ t.get R.USB_IFLG_BUSRESET = 1 ∧
      t.get R.USB_STAT_SPEED = (if high = true ∧ s.on R.USB_CFG_FSONLY = false then 2 else 1)) ∧
    (∀ conf : Bool, Usb.state s = Usb.ADDRESSED ∨ Usb.state s = Usb.CONFIGURED →
      ∃ t, exec (.setConfiguration conf) s = .next t ∧ Usb.state t = (if conf then Usb.CONFIGURED else Usb.ADDRESSED) ∧
        t.get R.USB_IFLG_CONFIG = 1 ∧ t.usb.reply = .applied ∧ t.get R.USBD_STAT_ALTOUT = 0 ∧
        t.get R.USBD_STAT_ALTIN = 0 ∧ (conf = false → BusEvent s t [R.USB_STAT_STATE, R.USB_IFLG_CONFIG,
          R.USBD_STAT_ALTOUT, R.USBD_STAT_ALTIN]) ∧
        (conf = true → s.on R.USB_CFG_AUTOSTART = false → ∀ (isIn : Bool) (c : Nat), Usb.boundCtx s isIn = some c →
          s.cType c = 2 → (s.ctx c).st = .running → (t.ctx c).st = .stalled ∧ (t.ctx c).cause = 4)) ∧
    (∀ (isIn : Bool) (c : Nat), Usb.state s = Usb.CONFIGURED → s.on R.USB_CFG_AUTOSTART = false →
      Usb.boundCtx s isIn = some c → s.cType c = 2 → (s.ctx c).st = .running →
      ∃ t, exec (.setInterface isIn 0) s = .next t ∧ Usb.selected t isIn = 0 ∧ t.usb = { s.usb with reply := .applied } ∧
        (t.ctx c).st = .stalled ∧ (t.ctx c).cause = 4 ∧ OtherContextsKept s t c ∧ BytesKept s t) ∧
    (∀ (isIn : Bool) (k : Nat) (a : Alt), Usb.state s = Usb.CONFIGURED → s.on R.USB_CFG_AUTOSTART = false →
      s.asrc.steerRunning = false → Usb.selected s isIn = 0 → 0 < k → k < 16 → Usb.alt s isIn k = some a →
      ∃ t, exec (.setInterface isIn k) s = .next t ∧ Usb.selected t isIn = k ∧ t.get R.USB_IFLG_ALT = 1 ∧
        t.usb = { s.usb with reply := .applied } ∧ OtherContextsKept s t (Strm.altCtx s isIn k) ∧
        FieldsKept s t [if isIn then R.USBD_STAT_ALTIN else R.USBD_STAT_ALTOUT, R.USB_IFLG_ALT] ∧
        t = { s with regs := t.regs, strm := { s.strm with ctxs := t.strm.ctxs }, usb := t.usb, asrc := t.asrc }) ∧
    (Usb.awake s = true → s.get R.USB_CFG_SUSPMODE = 0 → ∃ t, exec .suspend s = .next t ∧
      BusEvent s t [R.USB_STAT_STATE, R.USB_IFLG_SUSPEND] ∧ Usb.state t = Usb.SUSPENDED ∧ t.get R.USB_IFLG_SUSPEND = 1 ∧
      t.usb = { s.usb with before := Usb.state s, resuming := false }) ∧
    (Usb.state s = Usb.SUSPENDED → s.usb.before ≤ 3 → 3 ≤ s.mode → s.on R.SYS_STAT_MOVING = false → s.mode ≤ 4 →
      ∃ t, exec .resume s = .next t ∧ Usb.state t = s.usb.before ∧ t.get R.USB_IFLG_RESUME = 1 ∧
        t = { s with regs := t.regs, usb := { s.usb with resuming := false } } ∧ FieldsKept s t [R.USB_STAT_STATE,
          R.USB_IFLG_RESUME, R.PWR_STAT_REQ, R.PWR_STAT_HELD, R.WAKE_STAT_DEFER]) ∧
    (∀ rw : Bool, Usb.awake s = true →
      (s.on R.USB_CFG_LPMEN = true → Usb.running s = [] → Usb.bulkPending s = false → ∃ t, exec (.lpmTransaction rw) s = .next t ∧
        Usb.state t = Usb.L1 ∧ t.get R.USB_IFLG_L1 = 1 ∧
        t.usb = { s.usb with before := Usb.state s, l1Wake := rw, reply := .applied } ∧
        t = { s with regs := t.regs, usb := t.usb } ∧
        FieldsKept s t [R.USB_STAT_STATE, R.USB_IFLG_L1, R.CLKM_REFSTAT_ST, R.CLKM_IFLG_REFFAIL, R.CLKM_ERRCNT_BLKERR]) ∧
      (s.on R.USB_CFG_LPMEN = false ∨ Usb.running s ≠ [] ∨ Usb.bulkPending s = true → exec (.lpmTransaction rw) s =
        .next { s with usb := { s.usb with reply := .notReady } })) ∧
    (Usb.state s = Usb.L1 → exec .l1Exit s = .next { s.set R.USB_STAT_STATE s.usb.before with
        usb := { s.usb with resuming := false } } ∧
      exec .rwake s = .next (if s.usb.l1Wake then { s with usb := { s.usb with resuming := true } }
        else s.set R.USB_IFLG_RWDENY 1)) ∧
    (Usb.state s = Usb.SUSPENDED → s.on R.USB_STAT_RWEN = false →
      exec .rwake s = .next (s.set R.USB_IFLG_RWDENY 1)) ∧
    (Usb.state s = Usb.SUSPENDED → s.on R.USB_STAT_RWEN = true → ∃ t, exec .rwake s = .next t ∧
      t.usb = { s.usb with resuming := true } ∧ t.strm = s.strm ∧ BytesKept s t ∧
      (s.mode < 3 → s.on R.SYS_STAT_MOVING = false → t.pwr.target = some 3 ∧ t.get R.PWR_WAKESRC_USB = 1)) ∧
    (∀ a : BitVec 7, Usb.awake s = true → Usb.state s ≠ Usb.CONFIGURED → exec (.setAddress a) s =
      .next ({ s with usb := { s.usb with address := a.toNat, reply := .applied } }.set R.USB_STAT_STATE
        (if a.toNat = 0 then 1 else 2))) ∧
    (∀ en : Bool, Usb.awake s = true → exec (.setFeature en) s =
      .next { s.set R.USB_STAT_RWEN (b2n en) with usb := { s.usb with reply := .applied } })

/-- USB requests (R299 to R302, R304, R305): a rate that the alternate settings offer is taken, another answered with
STALL; the selector writes CLKM.SELCFG as the USB source; a feature unit keeps the host's value; GET_CUR and GET_RANGE
answer it; an unknown request is answered with STALL and counted; the HID reports. Where the rules leave the reading
open it is the model's choice: notes/assumptions/62.md. -/
def Obligations.UsbRequests : Prop :=
  ∀ s : State, s.mode ≠ 0 → s.pwr.booting = false →
    (∀ hz : Word, Usb.state s = Usb.CONFIGURED →
      ((Usb.altsNow s).any (fun a => a.rates.contains hz.toNat) = false → exec (.setCurSampleFrequency hz) s =
        .next (Blk.reconFollow { s with usb := { s.usb with reply := .rejected 0 0 } })) ∧
      ((Usb.altsNow s).any (fun a => a.rates.contains hz.toNat) = true → Usb.running s = [] →
        exec (.setCurSampleFrequency hz) s = .next (Blk.reconFollow { (s.set R.USBD_SAMFREQ_RATE hz.toNat).set
          R.USB_IFLG_SAMFREQ 1 with usb := { s.usb with reply := .applied } }))) ∧
    (∀ pin : Nat, Usb.state s = Usb.CONFIGURED → s.on R.USB_CFG_CSXWR = true → 0 < pin → pin ≤ s.usb.sources.length →
      Usb.csRef s (s.usb.sources.getD (pin - 1) 1) < 12 → waits s .selector = false → Accepted s .usb 0x420 (2 + 256 * Usb.csRef s
        (s.usb.sources.getD (pin - 1) 1) + 65536 * s.get R.CLKM_SELCFG_DISAGREE) →
      ∃ t, exec (.setCurClockSelector pin) s = .next t ∧ t.usb = { s.usb with reply := .applied } ∧
        t.get R.CLKM_SELCFG_MODE = 2 ∧ t.get R.CLKM_SELCFG_MANREF = Usb.csRef s (s.usb.sources.getD (pin - 1) 1) ∧
        t.get R.CLKM_SELCFG_DISAGREE = s.get R.CLKM_SELCFG_DISAGREE ∧ BytesKept s t ∧ t.strm = s.strm) ∧
    (∀ (u : Bool) (ch : BitVec 6) (mute : Bool) (v : BitVec 16), Usb.state s = Usb.CONFIGURED → ch.toNat ≤ 32 →
      s.acc.held.any (fun e => Usb.ofFeature e.own) = false → (∀ new, new = (if mute then Usb.setHostVal s (b2n u) ch.toNat (v.toNat % 2) (Usb.hostVal s (b2n u) ch.toNat).2
        else Usb.setHostVal s (b2n u) ch.toNat (Usb.hostVal s (b2n u) ch.toNat).1 v.toNat) →
        Usb.fuChanges s new (b2n u) = [] →
        exec (.setCurFeatureUnit u ch mute v) s = .next { new with usb := { new.usb with reply := .applied } } ∧
        Usb.hostVal new (b2n u) ch.toNat = (if mute then (v.toNat % 2, (Usb.hostVal s (b2n u) ch.toNat).2)
          else ((Usb.hostVal s (b2n u) ch.toNat).1, v.toNat)))) ∧
    (Usb.state s = Usb.CONFIGURED → ∀ (u : Bool) (ch : BitVec 6), ch.toNat ≤ 32 →
      exec (.getCur .samFreq) s = .next { s with usb := { s.usb with
        reply := .data (wordBytes (s.get R.USBD_SAMFREQ_RATE)) } } ∧
      exec (.getCur (.mute u ch)) s = .next { s with usb := { s.usb with
        reply := .data [BitVec.ofNat 8 (Usb.hostVal s (b2n u) ch.toNat).1] } } ∧
      exec (.getCur (.volume u ch)) s = .next { s with usb := { s.usb with
        reply := .data ((wordBytes (Usb.hostVal s (b2n u) ch.toNat).2).take 2) } } ∧
      exec (.getRange (.volume u ch)) s = .next { s with usb := { s.usb with
        reply := .data [1, 0, 0x08, 0x98, 0xF8, 0x17, 8, 0] } } ∧
      exec (.getRange .clockSelector) s = .next { s with usb := { s.usb with reply := .rejected 0 0 } }) ∧
    (Usb.state s ≠ Usb.CONFIGURED → ∀ c : UsbCtl,
      exec (.getCur c) s = .next { s with usb := { s.usb with reply := .rejected 0 0 } } ∧
      exec (.getRange c) s = .next { s with usb := { s.usb with reply := .rejected 0 0 } }) ∧
    (Usb.awake s = true → exec .unknownRequest s = .next { s.bump R.USB_ERRCNT_BLKERR with
      usb := { s.usb with reply := .rejected 0 0 } }) ∧
    (∀ p : Bool, exec (.hidInputReport p) s = .next ({ s with usb := { s.usb with phoneMute := s.usb.phoneMute && p } }.set
      R.USBD_HIDIN_BTN (if s.usb.phoneMute && p then putBit (s.get R.USBD_HIDSW_BTN ||| s.jack.pressed) 4 true
        else s.get R.USBD_HIDSW_BTN ||| s.jack.pressed))) ∧
    (∀ r : Byte, Usb.state s = Usb.CONFIGURED → exec (.hidOutputReport r) s = .next { (s.set R.USBD_HIDOUT_LED
      (r.toNat % 8)).set R.USBD_IFLG_HIDOUT 1 with usb := { s.usb with reply := .applied } })

/-- USB streaming (R294, R296 to R299): a good OUT packet puts its frames into the bound RUNNING source, counted in
IN, each sample left-justified from its subslot; a bad one is discarded and counted; an IN packet takes as many due
frames of the bound sink as the floor or the ceiling of the nominal count, the top bytes of each sample in its
subslot; the feedback value is M corrected toward half of BUFLEN, the correction at most M / 1,000; a changed validity
is reported once, by a message of 6 bytes. Trailing bytes of a packet that make no frame are the model's choice:
notes/assumptions/102.md. -/
def Obligations.UsbStreaming : Prop :=
  ∀ s : State, 3 ≤ s.mode → Usb.state s = Usb.CONFIGURED →
    (∀ data : List Byte, exec (.usbOutPacket false data) s = .next (s.bump R.USB_ERRCNT_BLKERR)) ∧
    (∀ (c n : Nat) (a : Alt) (data : List Byte), Usb.boundCtx s false = some c → Usb.selectedAlt s false = some a →
      s.cType c = 2 → s.cSink c = false → (s.ctx c).st = .running → n = data.length / (a.nch * a.subslot) → a.subslot ≤ 4 →
      (s.ctx c).fill + n ≤ s.cBufLen c → (s.ctx c).wpos < s.cBufLen c →
      Strm.placeAt s c (s.cBufLen c) ≤ thallusSize →
      ∃ t, exec (.usbOutPacket true data) s = .next t ∧
        (∀ i < n, FrameHeld t c (((s.ctx c).wpos + i) % s.cBufLen c) ((List.range a.nch).map (fun j => BitVec.ofNat 32
          (leNat ((data.drop ((i * a.nch + j) * a.subslot)).take a.subslot) * 2 ^ (8 * (4 - a.subslot)))))) ∧
        t.ctx c = { s.ctx c with cin := (s.ctx c).cin + BitVec.ofNat 48 n, fill := (s.ctx c).fill + n
                                 wpos := ((s.ctx c).wpos + n) % s.cBufLen c } ∧ OtherContextsKept s t c ∧
        t = { s with mem := t.mem, strm := { s.strm with ctxs := t.strm.ctxs }, eng := { s.eng with ded := t.eng.ded } }) ∧
    (∀ (c : Nat) (a : Alt) (more : Bool) (n : Nat), Usb.boundCtx s true = some c → Usb.selectedAlt s true = some a →
      s.cType c = 2 → s.cSink c = true → (s.ctx c).st = .running → s.cRecon c ≠ 2 → 64 ≤ s.cGroup c →
      (∀ e ∈ s.grp.slips, e.1 < 64) → a.subslot ≤ 4 →
      n = s.get R.USBD_SAMFREQ_RATE / (if Usb.high s then 8000 else 1000) + (if more = true ∧
        s.get R.USBD_SAMFREQ_RATE % (if Usb.high s then 8000 else 1000) ≠ 0 then 1 else 0) →
      (∀ k < s.cBufLen c, s.dedIn (Strm.placeAt s c k) (4 * s.cNch c) = []) →
      ∃ t, exec (.usbInPacket more) s = .next t ∧ (t.ctx c).fill = (s.ctx c).fill - n ∧
        (t.ctx c).cout = (s.ctx c).cout + BitVec.ofNat 48 n ∧
        (t.ctx c).cpad = (s.ctx c).cpad + BitVec.ofNat 48 (n - (s.ctx c).fill) ∧ (t.ctx c).cin = (s.ctx c).cin ∧
        t.usb.sentIn.length = n * s.cNch c * a.subslot ∧
        (0 < n → (s.ctx c).fill ≠ 0 → (s.ctx c).rampIn = none → t.usb.sentIn.take (s.cNch c * a.subslot) =
          (Strm.frameAt s c (Strm.oldestPlace s c)).flatMap (fun x => (wordBytes x.toNat).drop (4 - a.subslot))) ∧
        OtherContextsKept s t c ∧ BytesKept s t) ∧
    (∀ (m c : Nat), Usb.boundCtx s false = some c → s.cRecon c ≠ 1 → Usb.high s = true → m < 2 ^ 31 →
      ∃ t, exec (.feedbackUpdate m) s = .next t ∧ (t.get R.USBD_FB_FB : Int) = m + clampInt (-((m / 1000 : Nat) : Int))
        ((m / 1000 : Nat) : Int) (16 * (((s.cBufLen c / 2 : Nat) : Int) - (s.ctx c).fill)) ∧
        t = { s with regs := t.regs, usb := { s.usb with fbM := m } } ∧ FieldsKept s t [R.USBD_FB_FB, R.USBD_IFLG_FBCLAMP]) ∧
    (∀ k : Fin 8, s.pwr.booting = false → s.usb.sources.contains (k.val + 1) = true →
      (s.usb.valid.find? (fun e => e.1 == k.val + 1)).map (fun e => e.2) ≠ some (Usb.csValid s (k.val + 1)) →
      ∃ t, exec (.clockValidityChange k) s = .next t ∧ t = { s with usb := t.usb } ∧
        t.usb.messages = [0, 1, 0, 2, 0, BitVec.ofNat 8 (k.val + 1)] :: s.usb.messages ∧
        t.usb = { s.usb with valid := t.usb.valid, messages := t.usb.messages } ∧
        t.usb.valid.find? (fun e => e.1 == k.val + 1) = some (k.val + 1, Usb.csValid s (k.val + 1)))

/-- Rhizome frames and masters (R312 to R321, R324, R330, R331, R336 to R338): the third good header gains frame lock,
the second missing one loses it; a member follows the header of an outbound frame; a master shows its index and the
CRC of its map as it emits; ports swap; delays are kept; without lock or ALIGN the RUNNING TYPE 3 contexts stall with
CAUSE 4; a tracking backup takes over, a listening master takes its address or stands by; timeouts and resends. Where
the rules leave the reading open it is the model's choice: notes/assumptions/57.md and notes/assumptions/58.md. -/
def Obligations.RhizomeFrames : Prop :=
  ∀ s : State, 3 ≤ s.mode → s.on R.RZ_CTRL_EN = true → Rz.role s ≠ Rz.OFF →
    (∀ (b : Bool) (f : RzFrame), f.cells = [] →
      (f.ok = true → Rz.locked s (b2n b) = false → Map.get 0 s.rz.good (b2n b) = 2 →
        ∃ t, exec (.frameReceive b f) s = .next t ∧ Rz.locked t (b2n b) = true ∧ t.get R.RZ_IFLG_LOCK = 1) ∧
      (f.ok = false → Rz.locked s (b2n b) = true → Map.get 0 s.rz.miss (b2n b) = 1 →
        ∃ t, exec (.frameReceive b f) s = .next t ∧ Rz.locked t (b2n b) = false ∧ t.get R.RZ_IFLG_LOCKLOSS = 1) ∧
      (f.ok = true → f.ret = false → f.domain.toNat = s.get R.RZ_CFG_DOMAIN → Rz.role s = Rz.MEMBER → Rz.up s = b2n b →
        Rz.locked s (b2n b) = true → ∃ t, exec (.frameReceive b f) s = .next t ∧ t.get R.RZ_STAT_HOPS = f.hops.toNat ∧
          t.get R.RZ_MIDXLO_V = f.midx.toNat % 2 ^ 32 ∧ t.get R.RZ_MIDXHI_V = f.midx.toNat / 2 ^ 32 ∧
          t.get R.RZ_DOUT_V = (f.accdly.toNat + s.get (R.RZ_HOPDLY_DLY (b2n b))) % 2 ^ 32 ∧
          t.get R.RZ_DOMINFO_MADDR = f.maddr.toNat ∧ t.get R.RZSLOT_MAPCRC_HDR = f.mapcrc.toNat ∧
          t.rz.presHdr = f.presd.toNat ∧ t.blk = s.blk ∧ BytesKept s t ∧
          (s.on R.RZ_STAT_FOLD = false → ∃ g, (1 - b2n b, g) ∈ t.rz.tx ∧ g.ret = false ∧ g.hops = f.hops + 1 ∧
            g.midx = f.midx) ∧
          (s.on R.RZ_STAT_FOLD = true → ∃ g, (b2n b, g) ∈ t.rz.tx ∧ g.ret = true ∧ g.hops = f.hops + 1 ∧
            g.midx = f.midx))) ∧
    (∀ m : Nat, m = s.sampIdx / (if s.highRate then 2 else 1) * (if s.highRate then 2 else 1) → m < 2 ^ 64 →
      Rz.isMaster s = true → s.rz.listening = false → s.rz.txq = [] → s.rz.passing = [] → (∀ c ∈ s.ctxNums, s.cType c ≠ 3) →
      ∃ t, exec .masterFrameEmit s = .next t ∧ t.get R.RZ_MIDXLO_V = m % 2 ^ 32 ∧
        t.get R.RZ_MIDXHI_V = m / 2 ^ 32 ∧ t.get R.RZSLOT_MAPCRC_LOCAL = Rz.mapCrc s % 2 ^ 16 ∧
        t.get R.RZSLOT_MAPCRC_HDR = Rz.mapCrc s % 2 ^ 16 ∧ t.get R.RZ_STAT_MAPOK = 1 ∧
        t.rz.emitted = some m ∧ (∃ g, (1, g) ∈ t.rz.tx ∧ g.midx.toNat = m ∧ g.hops = 0 ∧ g.ret = false) ∧
        (s.rz.ring = false → ∃ g, (0, g) ∈ t.rz.tx ∧ g.midx.toNat = m ∧ g.hops = 0 ∧ g.ret = false) ∧
        t = { s with regs := t.regs, rz := t.rz } ∧ FieldsKept s t [R.RZ_MIDXLO_V,
          R.RZ_MIDXHI_V, R.RZSLOT_MAPCRC_LOCAL, R.RZSLOT_MAPCRC_HDR, R.RZ_STAT_MAPOK]) ∧
    (Rz.isMaster s = false → ∃ t, exec .portSwap s = .next t ∧ t.get R.RZ_STAT_UPB = 1 - s.get R.RZ_STAT_UPB ∧
      t = { s with regs := t.regs
                   rz := { s.rz with ref10Hold := s.rz.ref10Hold && !Rz.locked s (1 - Rz.up s) } } ∧
      (Rz.locked s (1 - Rz.up s) = false → s.rz.ref10Hold = false → Clkm.refState s 10 ≠ Clkm.FAILED →
        Clkm.refState s 10 ≠ Clkm.DISABLED → Clkm.refState t 10 = Clkm.FAILED) ∧
      FieldsKept s t [R.RZ_STAT_UPB, R.RZ_STAT_FOLD, R.RZ_IFLG_HEAL, R.CLKM_REFSTAT_ST, R.CLKM_IFLG_REFFAIL,
        R.CLKM_ERRCNT_BLKERR]) ∧
    (∀ (b : Bool) (d : BitVec 24) (ts : List Nat), ts = (d.toNat :: Map.get [] s.rz.echoes (b2n b)).take 16 →
      ∃ t, exec (.echoMeasurement b d) s = .next t ∧
        t.get (R.RZ_HOPDLY_DLY (b2n b)) = (ts.map (fun r => r - 2000)).sum / (2 * ts.length) %
          2 ^ (R.RZ_HOPDLY_DLY (b2n b)).w ∧ Map.get [] t.rz.echoes (b2n b) = ts ∧
        t = { s with regs := t.regs, rz := { s.rz with echoes := t.rz.echoes } } ∧
        FieldsKept s t [R.RZ_HOPDLY_DLY (b2n b)]) ∧
    (∀ a b : Nat, Rz.isMaster s = true → s.rz.circA = some a → s.rz.circB = some b → s.rz.presHdr ≠ 0 →
      ∃ t, exec .circMeasured s = .next t ∧ t.get R.RZ_CIRC_V = max a b % 2 ^ 32 ∧
        OnlyFields s t [R.RZ_CIRC_V, R.RZ_IFLG_PRESLOW]) ∧
    (Rz.isMaster s = false → Rz.locked s (Rz.up s) = false ∨ s.on R.RZ_STAT_ALIGN = false → ∃ t, exec .rhizomeStall s = .next t ∧
      (∀ c ∈ s.ctxNums, s.cType c = 3 → (s.ctx c).st = .running → (t.ctx c).st = .stalled ∧ (t.ctx c).cause = 4) ∧
      (∀ c, s.cType c ≠ 3 ∨ (s.ctx c).st ≠ .running → t.ctx c = s.ctx c) ∧ BytesKept s t) ∧
    (Rz.role s = Rz.BACKUP → ∃ t, exec .bkannRepeat s = .next t ∧ t = { s with regs := t.regs, free := t.free, rz := { 
          s.rz with txq := s.rz.txq ++ [(11, Rz.mkCell s (s.get R.RZ_DOMINFO_MADDR) false [])] } } ∧
      FieldsKept s t [R.RZ_DOMINFO_BKVALID, R.RZ_DOMINFO_BKADDR]) ∧
    (Rz.isMaster s = true → exec .backupRecordTimeout s = .next (s.set R.RZ_DOMINFO_BKVALID 0)) ∧
    (∀ (a : BitVec 10) (tag : Byte), (s.rz.reasm.any (fun q => q.src == a.toNat && q.tag == tag.toNat)) = true →
      exec (.reassemblyTimeout a tag) s = .next { s.bump R.RZ_ERRCNT_BLKERR with rz := { s.rz with
        reasm := s.rz.reasm.filter (fun q => !(q.src == a.toNat && q.tag == tag.toNat)) } }) ∧
    (∀ (b : Bool) (lseq : Byte) (u : Sent), s.rz.unacked = [u] → u.portB = b → u.lseq = lseq.toNat →
      exec (.cellResend b lseq) s = .next { s with rz := { s.rz with
        unacked := [{ u with times := u.times + 1, due := true }] } }) ∧
    (s.on R.RZ_STAT_TRACK = true → 2 ≤ Map.get 0 s.rz.miss 0 → 2 ≤ Map.get 0 s.rz.miss 1 →
      ∃ t, exec .masterLossFailover s = .next t ∧ Rz.role t = Rz.ACTING ∧ t.get R.RZ_STAT_TRACK = 0 ∧
        t.get R.RZ_IFLG_FAILOVER = 1 ∧ t.get R.RZ_DOMINFO_MADDR = s.get R.RZ_STAT_ADDR ∧
        t.get R.RZ_DOMINFO_BKVALID = 0 ∧
        t.rz = { s.rz with ref10Hold := false, presHdr := s.get R.RZ_PRES_PRESD } ∧
        t = { s with regs := t.regs, rz := t.rz }) ∧
    (s.rz.listening = true → (s.rz.heard = true → exec .masterListenEnd s = .next ((({ s with rz := { s.rz with
        listening := false } }.set R.RZ_STAT_ROLE Rz.STANDBY).set R.RZ_IFLG_MASTERCONF 1).setB R.RZ_STAT_FOLD
        (Rz.locked s (1 - Rz.up s) = false))) ∧
      (s.rz.heard = false → ∃ t, exec .masterListenEnd s = .next t ∧
        t.get R.RZ_STAT_ADDR = (if s.on R.RZ_CFG_ADDRNV then s.get R.RZ_CFG_ADDR else 0) ∧
        t.get R.RZ_DOMINFO_MADDR = t.get R.RZ_STAT_ADDR ∧ t = { s with
          regs := t.regs, rz := { s.rz with listening := false, addressed := true } } ∧
        FieldsKept s t [R.RZ_STAT_ADDR, R.RZ_DOMINFO_MADDR]))

/-- RZ.CMD and the slot table (R321, R326, R330, R333): REPRES sets PRESD; RRESET sends a RESET cell; CRESYNC resyncs
both ports and resends what is unacknowledged; a claim of a member is outstanding and sent as a CLAIM cell, of the
master granted at once where the slot is free; a release is sent or freed; a claim that waits tCLAIM is refused with
reason 3. Where the rules leave the reading open it is the model's choice: notes/assumptions/55.md. -/
def Obligations.RhizomeCommands : Prop :=
  ∀ (s : State) (src : Src),
    (Accepted s src 0x5028 0x20000000 → exec (.repres src) s = .next (recorded { s with rz := { s.rz with
      presHdr := max (Rz.preq s) (s.get R.RZ_PRES_PRESMIN) } } src 1)) ∧
    (∀ dst : BitVec 10, Accepted s src 0x5028 (0x40000000 + dst.toNat) → exec (.rreset src dst) s =
      .next (recorded { s with rz := { s.rz with txq := s.rz.txq ++ [(10, Rz.mkCell s dst.toNat false [])] } } src 1)) ∧
    (Accepted s src 0x5028 0x60000000 → ∃ u, exec (.cresync src) s = .next (recorded u src 1) ∧
      u.rz = { s.rz with
        unacked := s.rz.unacked.map (fun w => { w with times := w.times + 1, due := true })
        resyncs := s.rz.resyncs.filter (fun p => decide (2 ≤ p)) ++ [0, 1] } ∧
      u = { (s.bump (R.RZ_LINK_RESYNCS 0)).bump (R.RZ_LINK_RESYNCS 1) with rz := u.rz }) ∧
    (∀ k : BitVec 9, Accepted s src (0x900004 + 16 * k.toNat) 1 → Rz.role s ≠ Rz.OFF → Rz.role s ≠ Rz.STRANGER →
      (Rz.isMaster s = false → s.rz.txq = [] → exec (.claim src k) s = .next (recorded { (s.set (R.SLT_STATE_STATE
        k.toNat) 1).set (R.SLT_STATE_REASON k.toNat) 0 with rz := { s.rz with
        claims := s.rz.claims ++ [(k.toNat, 1)]
        txq := [(4, Rz.mkCell s (s.get R.RZ_DOMINFO_MADDR) false (Rz.half k.toNat ++ [1]))] } } src 1)) ∧
      (Rz.isMaster s = true → Rz.mapEntry s k.toNat = (false, 0) → s.rz.claims = [] → ∃ t, exec (.claim src k) s = .next t ∧
        t.get (R.SLT_STATE_STATE k.toNat) = 2 ∧ Rz.mapEntry t k.toNat = (true, s.get R.RZ_STAT_ADDR) ∧
        t.get R.RZSLOT_IFLG_GRANTED = 1 ∧ t.rz.claims = [] ∧ (∀ j, j ≠ k.toNat → Rz.mapEntry t j = Rz.mapEntry s j) ∧
        BytesKept s t ∧ t.strm = s.strm)) ∧
    (∀ k : BitVec 9, Accepted s src (0x900004 + 16 * k.toNat) 2 → Rz.role s ≠ Rz.OFF → Rz.role s ≠ Rz.STRANGER →
      Rz.isMaster s = false → exec (.slotRelease src k) s = .next (recorded { (s.set (R.SLT_STATE_STATE k.toNat) 0).set
        (R.SLT_STATE_REASON k.toNat) 0 with rz := { s.rz with txq := s.rz.txq ++
          [(7, Rz.mkCell s (s.get R.RZ_DOMINFO_MADDR) false (Rz.half k.toNat ++ [1]))] } } src 1)) ∧
    (∀ (f n : Nat) (rest : List (Nat × Nat)), 3 ≤ s.mode → s.on R.RZ_CTRL_EN = true → Rz.role s ≠ Rz.OFF →
      s.rz.claims = (f, n) :: rest → ∃ t, exec .claimTimeout s = .next t ∧ t.get R.RZSLOT_IFLG_REFUSED = 1 ∧
        (f, n) ∉ t.rz.claims ∧ (∀ k ∈ Rz.slotsOf f n, s.get (R.SLT_STATE_STATE k) = 1 →
          t.get (R.SLT_STATE_STATE k) = 3 ∧ t.get (R.SLT_STATE_REASON k) = 3) ∧
        t = { s with regs := t.regs, rz := { s.rz with claims := t.rz.claims } })

/-- A Rhizome frame on the line (R315, R316, R327, R328): 2,560 bytes; the word of a VALID slot stands at 32 + 4 times
its number; and the frame a receiver reads from the bytes is the frame they were written from: its header, VALID and
RELAY slots, link-control block and cells. The octet of the comma and the zeros of the unused places are the model's
choice: notes/assumptions/105.md and notes/assumptions/111.md. -/
def Obligations.RhizomeLine : Prop :=
  ∀ f : RzFrame, f.ok = true → f.slots.Pairwise (fun a b => a.1.toNat < b.1.toNat) → f.cells.length ≤ 5 →
    (∀ c ∈ f.cells, c.good = true ∧ c.typ ≠ 0 ∧ c.cell.payload.length ≤ 50) →
    (Line.frame f).length = 2560 ∧ (∀ e ∈ f.slots, Line.at' (Line.frame f) (32 + 4 * e.1.toNat) 4 = e.2.1.toNat) ∧
    Line.readFrame (Line.frame f) = f

/-- Cells at their target (R326 to R328, R331 to R333, R336, R337): at the master a CLAIM of free slots is granted and
of taken ones refused, a RELEASE frees, a MAPREQ is answered with the map, an EVENT and a BKANN are recorded;
elsewhere a GRANT enters the map and a REFUSE ends a claim; a first fragment is kept and a complete PING answered; a
RESULT or an ERROR ends the forward it answers; a RESET of the current master is a FULL reset with cause 4. A cell of
another domain is dropped and counted. -/
def Obligations.RhizomeCells : Prop :=
  (∀ (s : State) (c : Cell), Rz.active s = true → Rz.isTarget s c = true → c.srcdom.toNat ≠ s.get R.RZ_CFG_DOMAIN →
    ∀ i ∈ [Instr.claimCell c, .grantCell c, .refuseCell c, .releaseCell c, .mapreqCell c, .cmdCell c, .resultCell c,
      .errorCell c, .eventCell c, .resetCell c, .bkannCell c], exec i s = .next (s.bump R.RZ_ERRCNT_BLKERR)) ∧
  ∀ (s : State) (c : Cell), Rz.takes s c = true →
    (Rz.isMaster s = true →
      (∀ f n : Nat, Rz.runOf c.payload = (f, n) → f + n ≤ 512 →
        ((∀ k ∈ Rz.slotsOf f n, (Rz.mapEntry s k).1 = false) → c.src.toNat ≠ Rz.addr s →
          ∃ t, exec (.claimCell c) s = .next t ∧ (∀ k ∈ Rz.slotsOf f n, Rz.mapEntry t k = (true, c.src.toNat)) ∧
            (∀ k < 512, k ∉ Rz.slotsOf f n → Rz.mapEntry t k = Rz.mapEntry s k) ∧
            t.rz.txq = s.rz.txq ++ [(5, Rz.mkCell s 0 true (Rz.half f ++ [BitVec.ofNat 8 n] ++ Rz.half c.src.toNat ++ [0]))] ∧
            t = { s with regs := t.regs, rz := { s.rz with txq := t.rz.txq } }) ∧
        ((∃ k ∈ Rz.slotsOf f n, (Rz.mapEntry s k).1 = true ∧ (Rz.mapEntry s k).2 ≠ c.src.toNat) → c.src.toNat ≠ Rz.addr s →
          exec (.claimCell c) s = .next { s with rz := { s.rz with
            txq := s.rz.txq ++ [(6, Rz.mkCell s c.src.toNat false (Rz.half f ++ [BitVec.ofNat 8 n, 1]))] } }) ∧
        ((∀ k ∈ Rz.slotsOf f n, Rz.mapEntry s k = (true, c.src.toNat)) → ∃ t, exec (.releaseCell c) s = .next t ∧
          (∀ k ∈ Rz.slotsOf f n, Rz.mapEntry t k = (false, 0)) ∧
          (∀ k < 512, k ∉ Rz.slotsOf f n → Rz.mapEntry t k = Rz.mapEntry s k) ∧
          t = { s with regs := t.regs, rz := { s.rz with txq := t.rz.txq } })) ∧
      (∃ t, exec (.mapreqCell c) s = .next t ∧ t = { s with rz := { s.rz with txq := t.rz.txq } } ∧
        t.rz.txq.length = s.rz.txq.length + (Rz.runs s).length) ∧
      exec (.eventCell c) s = .next (((s.set R.RZ_IFLG_WAKEEVT 1).set R.RZ_EVSRC_VALID 1).set R.RZ_EVSRC_ADDR c.src.toNat) ∧
      (s.on R.RZ_DOMINFO_BKVALID = false →
        exec (.bkannCell c) s = .next ((s.set R.RZ_DOMINFO_BKVALID 1).set R.RZ_DOMINFO_BKADDR c.src.toNat))) ∧
    (Rz.isMaster s = false → ∀ (f n w : Nat), f < 512 → n < 256 → w < 1024 →
      (c.payload = Rz.half f ++ [BitVec.ofNat 8 n] ++ Rz.half w ++ [0] → ∃ t, exec (.grantCell c) s = .next t ∧
        (∀ k ∈ Rz.slotsOf f n, Rz.mapEntry t k = (true, w) ∧ (w = Rz.addr s → t.get (R.SLT_STATE_STATE k) = 2)) ∧
        (∀ k < 512, k ∉ Rz.slotsOf f n → Rz.mapEntry t k = Rz.mapEntry s k) ∧
        t = { s with regs := t.regs, rz := { s.rz with claims := t.rz.claims } })) ∧
    (∀ (f n r : Nat), f < 512 → n < 256 → r < 8 → c.payload = Rz.half f ++ [BitVec.ofNat 8 n, BitVec.ofNat 8 r] →
      ∃ t, exec (.refuseCell c) s = .next t ∧ t.get R.RZSLOT_IFLG_REFUSED = 1 ∧
        (∀ k ∈ Rz.slotsOf f n, s.get (R.SLT_STATE_STATE k) = 1 → t.get (R.SLT_STATE_STATE k) = 3 ∧
          t.get (R.SLT_STATE_REASON k) = r) ∧ t = { s with regs := t.regs, rz := { s.rz with claims := t.rz.claims } }) ∧
    ((s.rz.reasm.any (fun q => q.src == c.src.toNat && q.tag == c.tag.toNat)) = false →
      (c.last = false → exec (.cmdCell c) s = .next { s with rz := { s.rz with
        reasm := s.rz.reasm ++ [⟨c.src.toNat, c.tag.toNat, [(c.frag.toNat, c.payload)], none⟩] } }) ∧
      (c.last = true → c.frag = 0 → c.payload = [0x0A] → c.bcast = false → Ready s .rz .ping → ∃ t, exec (.cmdCell c) s = .next t ∧
        t.rz = { s.rz with txq := s.rz.txq ++ [(2, { Rz.mkCell s c.src.toNat false
          ([0x00, 0x01, 0x32, 0x88] ++ s.bytes 0xB00000 4) with tag := c.tag })] } ∧
        t = { s with rz := t.rz, acc := withAnswers s t })) ∧
    (∀ (code : Nat) (f : Fwd), Rz.fwdOf s c.tag.toNat = some (code, f) →
      (c.last = true → (f.data ++ c.payload).length < 8192 → ∃ t, exec (.resultCell c) s = .next t ∧
        t.get (R.RZ_FWDSTAT_DONE.win (code + 1)) = 1 ∧ t.get (R.RZ_FWDSTAT_STATUS.win (code + 1)) = 0 ∧
        t.get (R.RZ_FWDSTAT_LEN.win (code + 1)) = (if f.read then (f.data ++ c.payload).length else 0) ∧
        t.get R.RZ_IFLG_FWDDONE = 1 ∧ t = { s with regs := t.regs, rz := { s.rz with fwd := t.rz.fwd } }) ∧
      (∀ (st r : Nat), st < 8 → r < 16 → c.payload = [BitVec.ofNat 8 st, BitVec.ofNat 8 r] →
        ∃ t, exec (.errorCell c) s = .next t ∧ t.get (R.RZ_FWDSTAT_DONE.win (code + 1)) = 1 ∧
          t.get (R.RZ_FWDSTAT_STATUS.win (code + 1)) = st ∧ t.get (R.RZ_FWDSTAT_REASON.win (code + 1)) = r ∧
          t.get R.RZ_IFLG_FWDDONE = 1 ∧ t = { s with regs := t.regs, rz := { s.rz with fwd := t.rz.fwd } })) ∧
    (s.on R.RZ_CFG_RRSTEN = true → c.src.toNat = Rz.masterAddr s →
      exec (.resetCell c) s = .next (Reset.full s 4) ∧ (Reset.full s 4).get R.SYS_RSTCAUSE_LAST = 4)

/-- Lichen (R342 to R350): a pass takes the entries as they stand; a regular entry that ends stores its RATIO, CH and
averaged DATA, and the last one flags its sequence; a trigger joins the injected queue once, and a timer tick that
finds its entry queued is counted missed; an injected entry that ends stores its result and leaves the queue; a
plausibility check stores both means and flags a difference above LSB; a calibration waits, runs and is counted. The
premise on the causes says that the fault input of the control DACs shows them as they stand (R365). Where the rules
leave the reading open it is the model's choice: notes/assumptions/69.md. -/
def Obligations.Lichen : Prop :=
  ∀ s : State,
    (3 ≤ s.mode → s.on R.LICH_CTRL_EN = true → Lich.paused s = false →
      (∀ b : Bool, s.on (R.LICH_SEQCFG_EN (b2n b)) = true → Lich.pass s b = [] → exec (.regularPassStart b) s =
        .next (Lich.setPass (Lich.setLate s b false) b
          ((List.range (s.get (R.LICH_SEQCFG_LEN (b2n b)) + 1)).map (Lich.seqEntry s b)))) ∧
      (∀ b : Bool, s.on (R.LICH_SEQCFG_EN (b2n b)) = true → Lich.pass s b ≠ [] → exec (.regularPassStart b) s =
        .next (Lich.setLate s b true)) ∧
      (∀ (b : Bool) (sum : Nat) (e : LEnt) (r : List LEnt), s.lich.inj = [] → s.lich.plaus = none → Lich.pass s b = e :: r →
        e.k < 16 → e.ch < 32 → ∃ t, exec (.regularEntryEnd b sum) s = .next t ∧
          t.get (Lich.resFlds (e.k + 16 * b2n b)).1 = b2n e.ratio ∧ t.get (Lich.resFlds (e.k + 16 * b2n b)).2.1 = e.ch ∧
          t.get (Lich.resFlds (e.k + 16 * b2n b)).2.2 = Lich.data e sum % 2 ^ (Lich.resFlds (e.k + 16 * b2n b)).2.2.w ∧
          (r ≠ [] → Lich.pass t b = r) ∧ (r = [] → t.get (if b then R.LICH_IFLG_SEQB else R.LICH_IFLG_SEQA) = 1 ∧
            Lich.pass t b = if (Lich.late s b ∨ s.get (R.LICH_SEQCFG_PERIOD (b2n b)) = 0) ∧
              s.on (R.LICH_SEQCFG_EN (b2n b)) then
              (List.range (s.get (R.LICH_SEQCFG_LEN (b2n b)) + 1)).map (Lich.seqEntry s b) else []) ∧
          t.strm = s.strm ∧ BytesKept s t) ∧
      (∀ (sumA sumB ch n : Nat), s.lich.inj = [] → s.lich.plaus = some (ch, n) → ch < 32 →
        ∃ t, exec (.plausibilityCheckEnd sumA sumB) s = .next t ∧ t.lich.plaus = none ∧
          t.get (R.LICHR_PLAUS_CH 0) = ch ∧ t.get (R.LICHR_PLAUS_CH 1) = ch ∧
          t.get (R.LICHR_PLAUS_DATA 0) = sumA / 2 ^ n % 2 ^ (R.LICHR_PLAUS_DATA 0).w ∧
          t.get (R.LICHR_PLAUS_DATA 1) = sumB / 2 ^ n % 2 ^ (R.LICHR_PLAUS_DATA 1).w ∧
          (s.get R.LICH_PLAUSCFG_LSB < (((sumA / 2 ^ n : Nat) : Int) - (sumB / 2 ^ n : Nat)).natAbs →
            t.get R.LICH_STAT_PLAUSFLT = 1 ∧ t.get R.LICH_IFLG_PLAUS = 1) ∧
          (¬ s.get R.LICH_PLAUSCFG_LSB < (((sumA / 2 ^ n : Nat) : Int) - (sumB / 2 ^ n : Nat)).natAbs →
            t.get R.LICH_IFLG_PLAUS = s.get R.LICH_IFLG_PLAUS ∧
            (s.on R.LICH_IFLG_PLAUS = false → t.get R.LICH_STAT_PLAUSFLT = 0)) ∧ t.strm = s.strm ∧ BytesKept s t)) ∧
    (3 ≤ s.mode → s.on R.LICH_CTRL_EN = true →
      (∀ b : Bool, s.on (R.LICH_SEQCFG_EN (b2n b)) = true → Lich.paused s = true → exec (.regularPassStart b) s =
        .next (Lich.setLate s b true)) ∧
      (Amp.asks s = true → Lich.queued s 1 = false → exec (.injectedRequest true false) s = .next { s with
        lich := { s.lich with inj := s.lich.inj ++ [⟨1, s.on (R.LICH_INJCFG_CONV 1), s.on (R.LICH_INJCFG_RATIO 1), 21,
          s.get (R.LICH_INJCFG_SHIFT 1), s.get (R.LICH_INJCFG_AVG 1)⟩] } }) ∧
      (∀ ch : Nat, Amp.asks s = true → Lich.jackCh s = some ch → Lich.queued s 1 = false → Lich.queued s 0 = false →
        exec (.injectedRequest true true) s = .next { s with
          lich := { s.lich with inj := s.lich.inj ++ [⟨1, s.on (R.LICH_INJCFG_CONV 1), s.on (R.LICH_INJCFG_RATIO 1), 21,
            s.get (R.LICH_INJCFG_SHIFT 1), s.get (R.LICH_INJCFG_AVG 1)⟩, ⟨0, s.on (R.LICH_INJCFG_CONV 0),
            s.on (R.LICH_INJCFG_RATIO 0), ch, s.get (R.LICH_INJCFG_SHIFT 0), s.get (R.LICH_INJCFG_AVG 0)⟩] } }) ∧
      (∀ ch : Nat, Lich.jackCh s = some ch → Lich.queued s 0 = false → exec (.injectedRequest false true) s =
        .next { s with lich := { s.lich with inj := s.lich.inj ++ [⟨0, s.on (R.LICH_INJCFG_CONV 0),
          s.on (R.LICH_INJCFG_RATIO 0), ch, s.get (R.LICH_INJCFG_SHIFT 0), s.get (R.LICH_INJCFG_AVG 0)⟩] } }) ∧
      (s.get R.LICH_INJTMR_PERIOD ≠ 0 →
        (Lich.queued s 2 = false → exec .injectedTimerTick s = .next { s with lich := { s.lich with
          inj := s.lich.inj ++ [⟨2, s.on (R.LICH_INJCFG_CONV 2), s.on (R.LICH_INJCFG_RATIO 2), s.get (R.LICH_INJCFG_CH 2),
            s.get (R.LICH_INJCFG_SHIFT 2), s.get (R.LICH_INJCFG_AVG 2)⟩] } }) ∧
        (Lich.queued s 2 = true → exec .injectedTimerTick s =
          .next ((s.bump R.LICH_EVCNT_TMRMISS).set R.LICH_IFLG_TMRMISS 1))) ∧
      (∀ (b : Bool) (sum : Nat) (e : LEnt), s.lich.inj = [e] → e.onB = b → e.k < 4 → e.ch < 32 →
        s.on R.LICH_STAT_CALBUSY = false → s.lich.calOwed = false → s.on R.LICH_STAT_CALPEND = false →
        ∃ t, exec (.injectedEntryEnd b sum) s = .next t ∧ t.get (R.LICHR_INJ_CH e.k) = e.ch ∧
          t.get (R.LICHR_INJ_DATA e.k) = Lich.data e sum % 2 ^ (R.LICHR_INJ_DATA e.k).w ∧ t.lich.inj = [] ∧
          t.get R.LICH_IFLG_INJDONE = 1 ∧
          (e.k = 0 → t.jack = { s.jack with conv := some (Lich.data e sum * Lich.fullUv e.ch / 2 ^ Lich.width e) }) ∧
          (e.k = 1 → s.amp.tests ≠ [] → s.amp.conv = [] →
            t.amp = { s.amp with conv := [((Lich.data e sum * 30000000 / 2 ^ Lich.width e : Nat) : Int)] }) ∧
          (e.k = 1 → s.amp.tests ≠ [] → s.amp.conv ≠ [] → t.amp = { s.amp with
            conv := s.amp.conv ++ [(Lich.data e sum : Int) * 625000 / 2 ^ Lich.width e - 312500] }) ∧
          (e.k ≠ 0 → t.jack = s.jack) ∧ (e.k ≠ 1 ∨ s.amp.tests = [] → t.amp = s.amp) ∧
          t = { s with regs := t.regs, lich := t.lich, jack := t.jack, amp := t.amp } ∧
          FieldsKept s t [R.LICHR_INJ_RATIO e.k, R.LICHR_INJ_CH e.k, R.LICHR_INJ_DATA e.k, R.LICH_IFLG_INJDONE]) ∧
      (s.on R.LICH_PLAUSCFG_EN = true → s.lich.plaus = none → exec .plausibilityDue s = .next { s with
        lich := { s.lich with plaus := some (s.get R.LICH_PLAUSCFG_CH, s.get R.LICH_PLAUSCFG_AVG) } }) ∧
      (s.on R.LICH_STAT_CALBUSY = false → s.on R.LICH_STAT_CALPEND = true → s.lich.calFor = [] → exec .calibrationStart s =
        .next ((s.set R.LICH_STAT_CALBUSY 1).set R.LICH_STAT_CALPEND 0))) ∧
    (3 ≤ s.mode → s.on R.LICH_STAT_CALBUSY = true → ∃ t, exec .calibrationDone s = .next t ∧
      t = { ((s.set R.LICH_STAT_CALBUSY 0).bump R.LICH_EVCNT_CALS).set R.LICH_IFLG_CALDONE 1 with lich := t.lich } ∧
      t.lich.calOwed = false ∧ t.lich.calFor = [] ∧ t.lich.inj = s.lich.inj ∧ ∀ b : Bool, Lich.pass t b =
        if Lich.late s b ∧ Lich.pass s b = [] ∧ s.on R.LICH_CTRL_EN ∧ s.on (R.LICH_SEQCFG_EN (b2n b)) ∧
          s.get R.LICH_STAT_CALPEND = 0 then
          (List.range (s.get (R.LICH_SEQCFG_LEN (b2n b)) + 1)).map (Lich.seqEntry s b) else Lich.pass s b) ∧
    (∀ src : Src, 3 ≤ s.mode → s.on R.LICH_CTRL_EN = true → Cdac.causes s = s.get R.CDAC_STAT_SAFE →
      (Accepted s src R.LICH_INJSW_GO.addr (withField s R.LICH_INJSW_GO 1) → exec (.injswGo src) s = .next (recorded { s with
        lich := { s.lich with inj := s.lich.inj ++ [⟨3, s.on (R.LICH_INJCFG_CONV 3), s.on (R.LICH_INJCFG_RATIO 3),
          s.get (R.LICH_INJCFG_CH 3), s.get (R.LICH_INJCFG_SHIFT 3), s.get (R.LICH_INJCFG_AVG 3)⟩] } } src 1)) ∧
      (Accepted s src R.LICH_CTRL_CAL.addr (withField s R.LICH_CTRL_CAL 1) → exec (.cal src) s = .next (recorded
        { (s.set R.LICH_CTRL_EN 1).set R.LICH_STAT_CALPEND 1 with
          lich := { s.lich with calFor := s.lich.inj.map (fun e => e.k) } } src 1)))

/-- Control DACs (R357 to R362, R365, R366): INn is stored; LOAD, the LOAD_N edge and the presentation time load the
channels of their LDSRC; an armed load is disarmed; a slew tick moves the ball by STEP + 1 toward its target; a
streamed word is CODE; the safe-value causes show in STAT.SAFE; a supervision fault is flagged and counted. Where the
rules leave the reading open it is the model's choice: notes/assumptions/70.md. -/
def Obligations.ControlDacs : Prop :=
  ∀ (s : State) (src : Src),
    (∀ (n : Fin 8) (d : Word), Accepted s src (0x5C20 + 16 * n.val) d.toNat → s.get (R.CDAC_CFG_LDSRC n) ≠ 0 →
      exec (.cdacInputWrite src n d) s = .next (recorded (((s.set (R.CDAC_IN_MODE n) (bits d.toNat 31 31)).set
        (R.CDAC_IN_GAIN n) (bits d.toNat 30 30)).set (R.CDAC_IN_CODE n) (bits d.toNat 13 0)) src 1)) ∧
    (∀ m : Byte, Accepted s src 0x5CE0 m.toNat → ∃ u, exec (.load src m) s = .next (recorded u src 1) ∧
      Loaded s u 1 (bit m.toNat)) ∧
    (3 ≤ s.mode → ∃ t, exec .loadNEdge s = .next t ∧ Loaded s t 2 (fun _ => true)) ∧
    (Accepted s src 0x5CE4 1 → s.sampIdx < Cdac.ptIdx s →
      exec (.ptArm src) s = .next (recorded (s.set R.CDAC_PTCTL_ARMED 1) src 1)) ∧
    (Accepted s src 0x5CE4 2 → exec (.disarm src) s = .next (recorded (s.set R.CDAC_PTCTL_ARMED 0) src 1)) ∧
    (3 ≤ s.mode → s.on R.CDAC_PTCTL_ARMED = true → Cdac.ptIdx s = s.sampIdx → ∃ t, exec .presentationTimeLoad s = .next t ∧
      t.get R.CDAC_PTCTL_ARMED = 0 ∧ t.get R.CDAC_IFLG_PTFIRE = 1 ∧
      Loaded ((s.set R.CDAC_PTCTL_ARMED 0).set R.CDAC_IFLG_PTFIRE 1) t 4 (fun _ => true)) ∧
    (∀ n : Fin 8, 3 ≤ s.mode → Cdac.owned s n = false → Cdac.clamped s = false → s.on (R.CDAC_CFG_SLEWEN n) = true →
      (Cdac.ball s n).1 = (Cdac.target s n).1 → ∃ t, exec (.slewTick n) s = .next t ∧
        (t.get (R.CDAC_NOW_VALUE n) : Int) = approach (s.get (R.CDAC_NOW_VALUE n)) (Cdac.target s n).2
          (s.get (R.CDAC_CFG_STEP n) + 1) ∧
        t = { s with regs := t.regs, cdac := { s.cdac with sinks := t.cdac.sinks, powerUp := t.cdac.powerUp } } ∧
        FieldsKept s t [R.CDAC_NOW_VALUE n, R.CDAC_IFLG_PUDONE]) ∧
    (∀ (c : Byte) (j : Nat) (f : Frame), 3 ≤ s.mode → s.cType c.toNat = 9 → (s.ctx c.toNat).st = .running → j < Cdac.sub s →
      s.cdac.frames = [(c.toNat, f)] → ∃ t, exec (.streamSubsampleLoad c j) s = .next t ∧ t.strm = s.strm ∧ BytesKept s t ∧
        ∀ e ∈ (Cdac.covers s c.toNat).zipIdx, Cdac.owned s e.1 = false →
          t.get (R.CDAC_OUT_CODE e.1) = Cdac.streamCode (f.getD (e.2 * Cdac.sub s + j) 0)) ∧
    (3 ≤ s.mode → ∃ t, exec .safeCauseChange s = .next t ∧ t.get R.CDAC_STAT_SAFE = Cdac.causes s ∧ t.strm = s.strm ∧
      BytesKept s t ∧ (s.get R.CDAC_STAT_SAFE = 0 → Cdac.causes s ≠ 0 → t.get R.CDAC_IFLG_SAFE = 1)) ∧
    (Accepted s src R.CDAC_CTRL_SAFECLR.addr (withField s R.CDAC_CTRL_SAFECLR 1) → ∃ u,
      exec (.safeclr src) s = .next (recorded u src 1) ∧ u.cdac.wdg = false ∧
      u.get R.CDAC_STAT_SAFE = Cdac.causes { s with cdac := { s.cdac with wdg := false } } ∧ u.strm = s.strm ∧ BytesKept s u) ∧
    (∀ n : Fin 8, s.mode ≠ 0 → Cdac.owned s n = false → Cdac.clamped s = false → bit s.cdac.sinks n = false →
      bit (s.get R.CDAC_STAT_OCF) n = false → ∃ t, exec (.supervisionFault n true) s = .next t ∧
        bit (t.get R.CDAC_STAT_OCF) n = true ∧ t.get R.CDAC_IFLG_OC = 1 ∧
        t.get R.CDAC_EVCNT_OC = min (s.get R.CDAC_EVCNT_OC + 1) 0xFF ∧ t.strm = s.strm ∧ BytesKept s t)

/-- GPIO (R432, R433): the level shows in STAT.IN, and an edge of the selected kind is flagged in IDLE and ACTIVE; SET
and CLR change the bits of OUT that the mask has set. -/
def Obligations.Gpio : Prop :=
  ∀ s : State,
    (∀ (n : Fin 8) (high : Bool), s.mode ≠ 0 → exec (.gpioEdge n high) s = .next
      (if ((high && !bit (s.get R.GPIO_STAT_IN) n && bit (s.get (R.GPIO_CFG_IRQ n)) 0) ||
        (!high && bit (s.get R.GPIO_STAT_IN) n && bit (s.get (R.GPIO_CFG_IRQ n)) 1)) = true ∧ s.lowPower = false then
        (s.set R.GPIO_STAT_IN (putBit (s.get R.GPIO_STAT_IN) n high)).set R.GPIO_IFLG_EDGE
          (putBit (s.get R.GPIO_IFLG_EDGE) n true)
       else s.set R.GPIO_STAT_IN (putBit (s.get R.GPIO_STAT_IN) n high))) ∧
    (∀ (src : Src) (m : Byte),
      (Accepted s src 0x6C44 m.toNat → ∃ u, exec (.set src m) s = .next (recorded u src 1) ∧
        Driven s u (s.get R.GPIO_OUT_OUT ||| m.toNat)) ∧
      (Accepted s src 0x6C48 m.toNat → ∃ u, exec (.clr src m) s = .next (recorded u src 1) ∧
        Driven s u (s.get R.GPIO_OUT_OUT &&& (255 - m.toNat))))

/-- The control bus front end (R373, R383, R384, R386, R387): an edge shows in BUSBUSY, and one that cuts a command
off counts and records it as DISCARDED; a timeout is counted and flagged; a probe ends with the address in use, the
alternative or none; a conflict is flagged and counted; an alert response is the address and 0. -/
def Obligations.ControlBus : Prop :=
  ∀ s : State, s.mode ≠ 0 →
    (∀ e : CtlEdge, exec (.ctlStart e none) s = .next (s.set R.CBUS_STAT_BUSBUSY (b2n (e != .stop)))) ∧
    (∀ (e : CtlEdge) (c : CtlCut), Cbus.hears s = true → Cbus.silent c.cmd.toNat = false →
      ∃ t, exec (.ctlStart e (some c)) s = .next t ∧ t.get R.CBUS_EVCNT_ABORTS = min (s.get R.CBUS_EVCNT_ABORTS + 1)
        (2 ^ R.CBUS_EVCNT_ABORTS.w - 1) ∧ t.get R.CBUS_IFLG_ABORT = 1 ∧ t.get R.CBUS_LASTRES_CMD = c.cmd.toNat ∧
        t.get R.CBUS_LASTRES_RESULT = 4 ∧ t.get R.CBUS_STAT_BUSBUSY = b2n (e != .stop) ∧
        OnlyFields s t (outcomeFields ++ [R.CBUS_EVCNT_ABORTS, R.CBUS_IFLG_ABORT, R.CBUS_STAT_BUSBUSY])) ∧
    (s.on R.CBUS_CFG_TOEN = true → exec (.ctlTimeout none) s =
      .next ((s.bump R.CBUS_EVCNT_TIMEOUTS).set R.CBUS_IFLG_TIMEOUT 1)) ∧
    (s.on R.CBUS_CFG_TOEN = false → ∀ c, exec (.ctlTimeout c) s = .next s) ∧
    (s.cbus.reprobe = true → ∃ t, exec .addressProbeStart s = .next t ∧ t.get R.CBUS_STAT_PROBING = 1 ∧
      t.get R.CBUS_STAT_NOADDR = 0 ∧ t.cbus.addr = (if s.on R.CBUS_ADDRCFG_NVADDR then s.get R.CBUS_ADDRCFG_ADDR
        else 0x30 + s.get R.CBUS_STAT_STRAP) ∧ t = { s with regs := t.regs, cbus := t.cbus } ∧ FieldsKept s t
          [R.CBUS_STAT_PROBING, R.CBUS_STAT_ADDRCONF, R.CBUS_STAT_ALTACT, R.CBUS_STAT_NOADDR]) ∧
    (s.on R.CBUS_STAT_PROBING = true →
      exec (.addressConflict true) s = .next { ((s.set R.CBUS_STAT_ADDRCONF 1).set R.CBUS_IFLG_ADDRCONF 1).bump
        R.CBUS_ERRCNT_BLKERR with cbus := { s.cbus with conflict := true } } ∧
      exec .addressProbeEnd s = .next (
        if s.cbus.conflict = false then ((s.set R.CBUS_STAT_PROBING 0).set R.CBUS_STAT_ACTIVE s.cbus.addr).set
          R.CBUS_STAT_ALTACT (b2n s.cbus.onAlt)
        else if s.on R.CBUS_ADDRCFG_ALTEN = true ∧ s.cbus.onAlt = false then { s with cbus := { s.cbus with
          addr := s.get R.CBUS_ADDRCFG_ALT, onAlt := true, conflict := false } }
        else (s.set R.CBUS_STAT_PROBING 0).set R.CBUS_STAT_NOADDR 1)) ∧
    (Cbus.hears s = true → exec .alertResponse s = .next { s with cbus := { s.cbus with
      alert := if s.on R.CBUS_CFG_ARAEN = true ∧ s.irq = true then some (2 * s.get R.CBUS_STAT_ACTIVE) else none } })

/-- The auxiliary bus (R388 to R391, R394): GO starts a transfer; its end empties the transmit FIFO, keeps what was
received, records RESULT, 7 where the PEC of a read does not match, and is flagged and counted; a loss of arbitration
waits for the next try, the eighth ends with RESULT 3; a backoff's end is the next try; a timeout ends with RESULT 5;
ABORT asks for the end. Where the rules leave the reading open it is the model's choice: notes/assumptions/54.md. -/
def Obligations.AuxiliaryBus : Prop :=
  ∀ s : State,
    (∀ src : Src, s.on R.AUXB_CTRL_EN = true →
      (Accepted s src R.AUXB_CTRL_GO.addr (withField s R.AUXB_CTRL_GO 1) → exec (.auxGo src) s = .next (recorded
        { (((s.set R.AUXB_CTRL_EN 1).set R.AUXB_STAT_BUSY 1).set R.AUXB_STAT_TRIES 1).set R.AUXB_STAT_BUSBUSY 0 with
          aux := { s.aux with waiting := false, aborting := false, sent := Aux.line s } } src 1)) ∧
      (Accepted s src R.AUXB_CTRL_ABORT.addr (withField s R.AUXB_CTRL_ABORT 1) → s.on R.AUXB_STAT_BUSY = true →
        exec (.abort src) s = .next (recorded { s.set R.AUXB_CTRL_EN 1 with
          aux := { s.aux with aborting := true } } src 1))) ∧
    (3 ≤ s.mode → s.on R.AUXB_STAT_BUSY = true → s.aux.waiting = false →
      (∀ (r : BitVec 3) (k : Byte) (rx : List Byte) (e : Nat), (r = 1 ∨ r = 2) →
        e = (if r = 2 then 2 else if s.on R.AUXB_CFG_PEC ∧ s.get R.AUXB_XFER_RLEN ≠ 0 ∧ rx[s.get R.AUXB_XFER_RLEN]? ≠
          some (BitVec.ofNat 8 (pec (s.aux.sent ++ rx.take (s.get R.AUXB_XFER_RLEN)))) then 7 else 1) →
        ∃ t, exec (.auxTransferEnd r k false rx) s = .next t ∧ t.get R.AUXB_STAT_BUSY = 0 ∧
          t.get R.AUXB_RESULT_CODE = e ∧ t.get R.AUXB_IFLG_DONE = 1 ∧ (e = 1 → t.get R.AUXB_STAT_AUXSTUCK = 0) ∧
          (e = 7 → t.get R.AUXB_IFLG_PECERR = 1) ∧
          (r = 2 → t.get R.AUXB_IFLG_NACK = 1 ∧ t.get R.AUXB_RESULT_NACKPOS = k.toNat) ∧
          t.aux = { s.aux with tx := [], rx := (s.aux.rx ++ rx.take (s.get R.AUXB_XFER_RLEN)).take 256,
                               waiting := false, aborting := false } ∧
          t = { s with regs := t.regs, aux := t.aux } ∧ FieldsKept s t [R.AUXB_STAT_BUSY, R.AUXB_RESULT_CODE,
            R.AUXB_RESULT_NACKPOS, R.AUXB_STAT_AUXSTUCK, R.AUXB_IFLG_NACK, R.AUXB_IFLG_PECERR, R.AUXB_IFLG_DONE,
            R.AUXB_EVCNT_XFERS]) ∧
      (∀ (k : Byte) (rx : List Byte), s.aux.aborting = true → ∃ t, exec (.auxTransferEnd 6 k false rx) s = .next t ∧
        t.get R.AUXB_STAT_BUSY = 0 ∧ t.get R.AUXB_RESULT_CODE = 6 ∧ t.get R.AUXB_IFLG_DONE = 1 ∧
        t = { s with regs := t.regs, aux := t.aux }) ∧
      (s.get R.AUXB_STAT_TRIES < 8 → exec (.arbitrationLost false) s = .next { (s.bump R.AUXB_EVCNT_ARBLOST).set
        R.AUXB_STAT_BUSBUSY 1 with aux := { s.aux with waiting := true } }) ∧
      (8 ≤ s.get R.AUXB_STAT_TRIES → ∃ t, exec (.arbitrationLost false) s = .next t ∧ t.get R.AUXB_STAT_BUSY = 0 ∧
        t.get R.AUXB_RESULT_CODE = 3 ∧ t.get R.AUXB_IFLG_ARBFAIL = 1 ∧ t.get R.AUXB_IFLG_DONE = 1 ∧
        t = { s with regs := t.regs, aux := t.aux }) ∧
      (∀ rx : List Byte, s.on R.AUXB_CFG_TOEN = true → ∃ t, exec (.auxTimeout false rx) s = .next t ∧
        t.get R.AUXB_STAT_BUSY = 0 ∧ t.get R.AUXB_RESULT_CODE = 5 ∧ t.get R.AUXB_IFLG_TIMEOUT = 1 ∧
        t.get R.AUXB_IFLG_DONE = 1 ∧ t = { s with regs := t.regs, aux := t.aux })) ∧
    (3 ≤ s.mode → s.on R.AUXB_STAT_BUSY = true → s.aux.waiting = true → exec .auxBackoffEnd s = .next
      { (s.bump R.AUXB_STAT_TRIES).set R.AUXB_STAT_BUSBUSY 0 with aux := { s.aux with waiting := false } })

/-- Power modes (R220, R222, R395 to R399): a request for a lower mode is taken and drains what runs, or is held by an
open candidate with DEFER; the hold's end takes it; the move completes with no context live and no graph period
running, every context IDLE; DRAINTO stops what has not drained; the returns show the new mode, flagged; the AO
timebase counts. Where the rules leave the reading open it is the model's choice: notes/assumptions/49.md. -/
def Obligations.PowerModes : Prop :=
  ∀ s : State,
    (∀ (src : Src) (m : BitVec 3), Accepted s src 0x120 m.toNat → m = 1 ∨ m = 2 → 3 ≤ s.mode → s.mode ≤ 4 →
      s.on R.WAKE_CTRL_EN = false → s.on R.RZ_CTRL_EN = false → s.on R.SYS_STAT_MOVING = false → ∃ u,
        exec (.modeRequest src m) s = .next (recorded u src 1) ∧ u.get R.PWR_STAT_REQ = m.toNat ∧
        (Pwr.holds s = false → u.get R.SYS_STAT_MOVING = 1 ∧ u.pwr.target = some m.toNat ∧ u.strm.reqs = s.strm.reqs ++
          (s.ctxsWhere (fun c => (s.ctx c).st == .running)).map (fun c => (c, Req.drain))) ∧
        (Pwr.wakeHolds s = true → u.get R.PWR_STAT_HELD = 1 ∧ u.get R.WAKE_STAT_DEFER = 1 ∧ u.pwr = s.pwr ∧
          u.strm = s.strm) ∧ u.strm.ctxs = s.strm.ctxs ∧ BytesKept s u) ∧
    (s.mode ≠ 0 → s.pwr.booting = false →
      (s.on R.PWR_STAT_HELD = true → Pwr.holds s = false → Pwr.adjust s (s.get R.PWR_STAT_REQ) = 2 → 3 ≤ s.mode →
        s.mode ≤ 4 → ∃ t, exec .heldRequestTaken s = .next t ∧ t.get R.PWR_STAT_HELD = 0 ∧ t.get R.WAKE_STAT_DEFER = 0 ∧
          t.get R.SYS_STAT_MOVING = 1 ∧ t.pwr = { s.pwr with target := some 2 } ∧ t.strm.ctxs = s.strm.ctxs ∧
          t = { s with regs := t.regs, strm := t.strm, pwr := t.pwr }) ∧
      (∀ m < 3, s.pwr.target = some m → s.pwr.queued = none →
        (3 ≤ s.mode → s.ctxsWhere s.live = [] → (∀ k < 4, (s.slot k).busy = false) → ∃ t, exec .moveToLowPower s = .next t ∧ t.mode = m ∧
          t.get R.SYS_STAT_MOVING = 0 ∧ t.get R.SYS_IFLG_MODECHG = 1 ∧ (∀ c, t.idle c = true) ∧ t.strm.reqs = [] ∧
          BytesKept s t) ∧
        (3 ≤ s.mode → s.ctxsWhere s.live ≠ [] → exec .draintoExpire s = .next ({ s with strm := { s.strm with
          reqs := s.strm.reqs ++ (s.ctxsWhere s.live).map (fun c => (c, Req.stop)) } }.set R.PWR_IFLG_DRAINTO 1)) ∧
        (s.lowPower = true → ∃ t, exec .islandMove s = .next t ∧ t.mode = m ∧ t.get R.SYS_STAT_MOVING = 0 ∧
          t.get R.SYS_IFLG_MODECHG = 1 ∧ t.strm = s.strm ∧ BytesKept s t)) ∧
      (s.pwr.target = some 3 → s.pwr.queued = none → s.lowPower = true → ∃ t, exec .moveToIdle s = .next t ∧ t.mode = 3 ∧
        t.get R.SYS_STAT_MOVING = 0 ∧ t.get R.SYS_IFLG_MODECHG = 1 ∧ t.blk = ⟨0, 0⟩ ∧ BytesKept s t)) ∧
    (s.mode = 3 → exec .pathPrepared s = .next { s with pwr := { s.pwr with pathReady := true } }) ∧
    (s.mode ≠ 0 → exec .timebaseTick s = .next (if s.get R.SYS_TBFRAC_FRAC = 65535 then
        (s.set R.SYS_TBFRAC_FRAC 0).set R.SYS_TBDAY_DAY (s.get R.SYS_TBDAY_DAY + 1)
      else s.set R.SYS_TBFRAC_FRAC (s.get R.SYS_TBFRAC_FRAC + 1)) ∧
      exec .lowPowerCrystalStartup s = .next { s with lpXtal := true })

/-- Resets and the boot (R400, R403 to R407, R455): power down and a loss of supply leave OFF with nothing but the
flash and the factory area; a POR starts from the reset values with the straps sampled; a PIN reset records cause 2
and keeps KEEP; FULLRST records cause 3 and a stalled arbiter 5; the boot ends in IDLE with BOOTDONE. Where the rules
leave the reading open it is the model's choice: notes/assumptions/38.md and notes/assumptions/45.md. -/
def Obligations.Resets : Prop :=
  ∀ s : State,
    (s.on R.NVM_STAT_BUSY = false →
      (exec .pwrdn s = exec .supplyLoss s ∧ ∃ t, exec .pwrdn s = .next t ∧ t.mode = 0 ∧ FieldsKept State.reset t [R.SYS_STAT_MODE] ∧
        (∀ a, t.byte a = if 0xA00000 ≤ a then s.byte a else 0)) ∧
      (∀ st : Straps, ∃ t, exec (.por st) s = .next t ∧ t.pwr.booting = true ∧ t.get R.GPIO_STRAPS_ADDR1 = st.addr1.toNat ∧
        t.get R.GPIO_STRAPS_ADDR0 = st.addr0.toNat ∧ t.get R.CBUS_STAT_STRAP = 4 * st.addr1.toNat + st.addr0.toNat ∧
        t.get R.GPIO_STRAPS_RZROLE1 = b2n st.role1 ∧ t.get R.GPIO_STRAPS_RZROLE0 = b2n st.role0 ∧
        FieldsKept State.reset t [R.GPIO_STRAPS_ADDR1, R.GPIO_STRAPS_ADDR0, R.GPIO_STRAPS_RZROLE1, R.GPIO_STRAPS_RZROLE0,
          R.CBUS_STAT_STRAP] ∧ (∀ a, t.byte a = if 0xA00000 ≤ a then s.byte a else 0)) ∧
      (∀ st : Straps, s.mode ≠ 0 → ∃ t, exec (.pinReset st) s = .next t ∧ t.pwr.booting = true ∧
        t.get R.SYS_RSTCAUSE_LAST = 2 ∧ t.get R.SYS_RSTCAUSE_PREV1 = s.get R.SYS_RSTCAUSE_LAST ∧
        (∀ k < 4, t.get (R.SYS_KEEP_DATA k) = s.get (R.SYS_KEEP_DATA k)) ∧ t.get R.PEAT_WIDXLO_V = 0 ∧ BytesKept s t) ∧
      (∀ src : Src, Accepted s src R.SYS_CTRL_FULLRST.addr (withField s R.SYS_CTRL_FULLRST 1) →
        ∃ t, exec (.fullrst src) s = .next t ∧ t.pwr.booting = true ∧ t.get R.SYS_RSTCAUSE_LAST = 3 ∧
          t.get R.SYS_RSTCAUSE_PREV1 = s.get R.SYS_RSTCAUSE_LAST ∧ t.get R.SYS_STAT_BOOTDONE = 0 ∧
          (∀ k < 4, t.get (R.SYS_KEEP_DATA k) = s.get (R.SYS_KEEP_DATA k)) ∧ (∀ c, t.idle c = true) ∧ BytesKept s t) ∧
      (3 ≤ s.mode → ∃ t, exec .arbiterStall s = .next t ∧ t.pwr.booting = true ∧ t.get R.SYS_RSTCAUSE_LAST = 5 ∧
        t.get R.SYS_STAT_BOOTDONE = 0 ∧ t.cdac.wdg = true ∧ (∀ c, t.idle c = true) ∧ BytesKept s t)) ∧
    (s.pwr.booting = true → s.mode ≠ 0 → ∃ t, exec .bootDone s = .next t ∧ t.pwr.booting = false ∧ t.mode = 3 ∧
      t.get R.SYS_STAT_BOOTDONE = 1 ∧ t.get R.SYS_IFLG_BOOT = 1 ∧ t.pending = s.pending)

/-- The flash (R415, R416, R421): a command is in progress in STAT and an ERASE makes its bank not valid; a completed
erase leaves the target bank 0xFF and nothing else changed, a flush the FIFO empty, a COPY the section's bytes in
Thallus; an operation that fails is flagged and counted; a line of 16 bytes is programmed where the flash is erased,
else flagged and skipped; PADDR advances by 16. With 16 bytes more in the FIFO the next line follows at once. Where
the rules leave the reading open it is the model's choice: notes/assumptions/43.md and notes/assumptions/44.md. -/
def Obligations.Flash : Prop :=
  ∀ s : State,
    (∀ src : Src,
      (Accepted s src 0x6820 1 → exec (.erase src) s = .next (recorded { (((s.set R.NVM_STAT_BUSY 1).set R.NVM_STAT_OP 1).set
        (Nvm.validFld (Nvm.target s)) 0).set (R.NVM_SEQ_SEQ (Nvm.target s)) 0xFFFFFFFF with
          nvm := { s.nvm with flushing := false } } src 1)) ∧
      (Accepted s src 0x6820 2 → exec (.flush src) s = .next (recorded { (s.set R.NVM_STAT_BUSY 1).set R.NVM_STAT_OP 2 with
        nvm := { s.nvm with flushing := true } } src 1)) ∧
      (Accepted s src 0x6820 3 → exec (.verify src) s = .next (recorded { (s.set R.NVM_STAT_BUSY 1).set R.NVM_STAT_OP 3 with
        nvm := { s.nvm with flushing := false } } src 1)) ∧
      (Accepted s src 0x6820 4 → exec (.copy src) s = .next (recorded { (s.set R.NVM_STAT_BUSY 1).set R.NVM_STAT_OP 4 with
        nvm := { s.nvm with flushing := false } } src 1))) ∧
    (3 ≤ s.mode → s.on R.NVM_STAT_BUSY = true →
      (s.get R.NVM_STAT_OP = 1 → ∃ t, exec (.nvmOperationDone true) s = .next t ∧ NextLines s t s.nvm.fifo ∧
        t.get R.NVM_IFLG_OPDONE = 1 ∧ (∀ a, t.byte a =
          if Nvm.bankBase (Nvm.target s) ≤ a ∧ a < Nvm.bankBase (Nvm.target s) + 0x80000 then 0xFF else s.byte a)) ∧
      (s.get R.NVM_STAT_OP = 2 → s.nvm.flushing = true → s.nvm.fifo.length ≤ 4096 → ∃ t,
        exec (.nvmOperationDone true) s = .next t ∧ NextLines s t [] ∧ t.get R.NVM_IFLG_OPDONE = 1 ∧
        t.get R.NVM_PADDR_ADDR = (s.get R.NVM_PADDR_ADDR + 16 * ((s.nvm.fifo.length + 15) / 16)) % 2 ^ 19) ∧
      (s.get R.NVM_STAT_OP = 3 → ∃ t, exec (.nvmOperationDone false) s = .next t ∧ NextLines s t s.nvm.fifo ∧
        t.get R.NVM_IFLG_OPFAIL = 1 ∧
        t.get R.NVM_ERRCNT_BLKERR = min (s.get R.NVM_ERRCNT_BLKERR + 1) 0xFFFF ∧ BytesKept s t) ∧
      (∀ src dst n : Nat, s.get R.NVM_STAT_OP = 4 → Nvm.copyOk s = true →
        src = Nvm.bankBase (Nvm.copyBank s) + (Nvm.sect s (Nvm.copyBank s) (s.get R.NVM_COPY_SECT)).off →
        dst = thallus + s.get R.NVM_COPY_DST → n = (Nvm.sect s (Nvm.copyBank s) (s.get R.NVM_COPY_SECT)).size →
        ∃ t, exec (.nvmOperationDone true) s = .next t ∧ NextLines s t s.nvm.fifo ∧ t.get R.NVM_IFLG_OPDONE = 1 ∧
          ∀ a, t.byte a = if dst ≤ a ∧ a < dst + n then s.byte (src + (a - dst)) else s.byte a)) ∧
    (3 ≤ s.mode → s.on R.NVM_STAT_BUSY = true → s.get R.NVM_STAT_OP = 2 → s.nvm.flushing = false →
      s.on R.PWR_STAT_HELD = false → 16 ≤ s.nvm.fifo.length →
      ∀ a, a = Nvm.bankBase (Nvm.target s) + s.get R.NVM_PADDR_ADDR → ∃ t, exec .lineProgram s = .next t ∧
        NextLines s t (s.nvm.fifo.drop 16) ∧ t.get R.NVM_PADDR_ADDR = (s.get R.NVM_PADDR_ADDR + 16) % 2 ^ 19 ∧
        ((a ∉ s.nvm.done) → (∀ b ∈ s.bytes a 16, b = 0xFF) → t.bytes a 16 = s.nvm.fifo.take 16 ∧
          (∀ x, x < a ∨ a + 16 ≤ x → t.byte x = s.byte x) ∧
          FieldsKept s t [R.NVM_PADDR_ADDR, R.NVM_STAT_BUSY, R.NVM_STAT_OP]) ∧
        ((a ∈ s.nvm.done ∨ ∃ b ∈ s.bytes a 16, b ≠ 0xFF) → t.get R.NVM_IFLG_PROGERR = 1 ∧ BytesKept s t ∧
          FieldsKept s t [R.NVM_PADDR_ADDR, R.NVM_STAT_BUSY, R.NVM_STAT_OP, R.NVM_IFLG_PROGERR]))

end
end

