-- ==== Sys2Proof/Laws/Map.lean ====
section
/-! SUPPORT. Reading and writing sparse data: what a read gives after a write, and that every operation keeps the
canonical form. -/
namespace Sys2Proof.Machine.Map
open Sys2Proof Sys2Proof.Machine

variable {α : Type}

/-- A read of a key that an erase has dropped gives the default. -/
theorem get_erase_self (d : α) (m : FMap α) (i : Nat) : get d (erase i m) i = d := by
  induction m with
  | nil => rfl
  | cons e m ih =>
    obtain ⟨k, v⟩ := e
    by_cases h : k = i <;> simp [erase, get, h, ih]

/-- An erase leaves every other key. -/
theorem get_erase_ne (d : α) (m : FMap α) {i j : Nat} (h : i ≠ j) : get d (erase i m) j = get d m j := by
  induction m with
  | nil => rfl
  | cons e m ih =>
    obtain ⟨k, v⟩ := e
    by_cases hk : k = i
    · subst hk; simp [erase, get, ih, h]
    · simp only [erase, if_neg hk, get, ih]

/-- A read of the key just put in gives its value. -/
theorem get_insert_self (d : α) (m : FMap α) (i : Nat) (v : α) (h : ∀ e ∈ m, e.1 ≠ i) :
    get d (insert i v m) i = v := by
  induction m with
  | nil => simp [insert, get]
  | cons e m ih =>
    obtain ⟨k, w⟩ := e
    have hk : k ≠ i := h (k, w) (by simp)
    have hm : ∀ e ∈ m, e.1 ≠ i := fun e he => h e (by simp [he])
    by_cases h1 : i < k
    · simp [insert, get, h1]
    · have h2 : i ≠ k := fun e => hk e.symm
      simp [insert, get, h1, h2, hk, ih hm]

/-- Putting a key in leaves every other key. -/
theorem get_insert_ne (d : α) (m : FMap α) {i j : Nat} (v : α) (h : i ≠ j) :
    get d (insert i v m) j = get d m j := by
  induction m with
  | nil => simp [insert, get, h]
  | cons e m ih =>
    obtain ⟨k, w⟩ := e
    by_cases h1 : i < k
    · simp [insert, get, h1, h]
    · by_cases h2 : i = k
      · subst h2; simp [insert, get, h]
      · simp only [insert, if_neg h1, if_neg h2, get, ih]

/-- No pair of an erased key is left. -/
theorem erase_keys (m : FMap α) (i : Nat) : ∀ e ∈ erase i m, e.1 ≠ i := by
  induction m with
  | nil => simp [erase]
  | cons e m ih =>
    obtain ⟨k, v⟩ := e
    by_cases h : k = i
    · simpa [erase, h] using ih
    · intro e he
      simp only [erase, if_neg h, List.mem_cons] at he
      rcases he with rfl | he
      · exact h
      · exact ih e he

/-- A read after a write of the same key gives the value written. -/
@[simp] theorem get_set_self [DecidableEq α] (d : α) (m : FMap α) (i : Nat) (v : α) :
    get d (set d m i v) i = v := by
  unfold set
  split
  · next h => rw [get_erase_self, h]
  · exact get_insert_self d _ i v (erase_keys m i)

/-- A write leaves every other key, whatever their defaults are. -/
theorem get_set_ne [DecidableEq α] (d d' : α) (m : FMap α) {i j : Nat} (v : α) (h : i ≠ j) :
    get d' (set d m i v) j = get d' m j := by
  unfold set
  split
  · exact get_erase_ne d' m h
  · rw [get_insert_ne d' _ v h, get_erase_ne d' m h]

/-- Every key of an erased list was a key before. -/
theorem mem_erase {m : FMap α} {i : Nat} {e : Nat × α} (h : e ∈ erase i m) : e ∈ m := by
  induction m with
  | nil => simp [erase] at h
  | cons a m ih =>
    obtain ⟨k, v⟩ := a
    by_cases hk : k = i
    · simp only [erase, if_pos hk] at h; simp [ih h]
    · simp only [erase, if_neg hk, List.mem_cons] at h
      rcases h with rfl | h
      · simp
      · simp [ih h]

/-- A pair of an extended list is the new one or was there. -/
theorem mem_insert {m : FMap α} {i : Nat} {v : α} {e : Nat × α} (h : e ∈ insert i v m) : e = (i, v) ∨ e ∈ m := by
  induction m with
  | nil => simpa [insert] using h
  | cons a m ih =>
    obtain ⟨k, w⟩ := a
    by_cases h1 : i < k
    · simpa [insert, h1] using h
    · by_cases h2 : i = k
      · simp only [insert, if_neg h1, if_pos h2, List.mem_cons] at h
        rcases h with rfl | h
        · simp
        · simp [h]
      · simp only [insert, if_neg h1, if_neg h2, List.mem_cons] at h
        rcases h with rfl | h
        · simp
        · rcases ih h with h | h
          · exact .inl h
          · simp [h]

/-- An erase keeps the rising order. -/
theorem sorted_erase (m : FMap α) (i : Nat) (h : sorted m = true) : sorted (erase i m) = true := by
  induction m with
  | nil => rfl
  | cons e m ih =>
    obtain ⟨k, v⟩ := e
    simp only [sorted, Bool.and_eq_true, List.all_eq_true, decide_eq_true_eq] at h
    by_cases hk : k = i
    · simpa [erase, hk] using ih h.2
    · simp only [erase, if_neg hk, sorted, Bool.and_eq_true, List.all_eq_true, decide_eq_true_eq]
      exact ⟨fun e he => h.1 e (mem_erase he), ih h.2⟩

/-- Putting in a key that is not there keeps the rising order. -/
theorem sorted_insert (m : FMap α) (i : Nat) (v : α) (h : sorted m = true) (hn : ∀ e ∈ m, e.1 ≠ i) :
    sorted (insert i v m) = true := by
  induction m with
  | nil => simp [insert, sorted]
  | cons e m ih =>
    obtain ⟨k, w⟩ := e
    simp only [sorted, Bool.and_eq_true, List.all_eq_true, decide_eq_true_eq] at h
    have hk : k ≠ i := hn (k, w) (by simp)
    by_cases h1 : i < k
    · simp only [insert, if_pos h1, sorted, Bool.and_eq_true, List.all_eq_true, decide_eq_true_eq]
      refine ⟨fun e he => ?_, h.1, h.2⟩
      rcases List.mem_cons.1 he with rfl | he
      · exact h1
      · exact Nat.lt_trans h1 (h.1 e he)
    · have h2 : i ≠ k := fun e => hk e.symm
      simp only [insert, if_neg h1, if_neg h2, sorted, Bool.and_eq_true, List.all_eq_true, decide_eq_true_eq]
      refine ⟨fun e he => ?_, ih h.2 (fun e he => hn e (by simp [he]))⟩
      rcases mem_insert he with rfl | he
      · show k < i
        omega
      · exact h.1 e he

/-- A write keeps the canonical form. -/
theorem wf_set [DecidableEq α] (d : Nat → α) (m : FMap α) (i : Nat) (v : α) (h : wf d m = true) :
    wf d (set (d i) m i v) = true := by
  simp only [wf, Bool.and_eq_true, List.all_eq_true, Bool.not_eq_true', decide_eq_false_iff_not] at h ⊢
  unfold set
  split
  · exact ⟨sorted_erase m i h.1, fun e he => h.2 e (mem_erase he)⟩
  · next hv =>
    refine ⟨sorted_insert _ i v (sorted_erase m i h.1) (erase_keys m i), fun e he => ?_⟩
    rcases mem_insert he with rfl | he
    · exact hv
    · exact h.2 e (mem_erase he)

/-- Keeping some of the pairs keeps the rising order. -/
theorem sorted_filter (p : Nat × α → Bool) (m : FMap α) (h : sorted m = true) : sorted (m.filter p) = true := by
  induction m with
  | nil => rfl
  | cons e m ih =>
    obtain ⟨k, v⟩ := e
    simp only [sorted, Bool.and_eq_true, List.all_eq_true, decide_eq_true_eq] at h
    by_cases hp : p (k, v) = true
    · simp only [List.filter_cons_of_pos hp, sorted, Bool.and_eq_true, List.all_eq_true, decide_eq_true_eq]
      exact ⟨fun e he => h.1 e (List.mem_filter.1 he).1, ih h.2⟩
    · simpa [List.filter_cons_of_neg hp] using ih h.2

/-- Keeping some of the keys keeps the canonical form. -/
theorem wf_keep [DecidableEq α] (d : Nat → α) (p : Nat → Bool) (m : FMap α) (h : wf d m = true) :
    wf d (keep p m) = true := by
  simp only [wf, keep, Bool.and_eq_true, List.all_eq_true, Bool.not_eq_true', decide_eq_false_iff_not] at h ⊢
  exact ⟨sorted_filter _ m h.1, fun e he => h.2 e (List.mem_filter.1 he).1⟩

/-- A kept key reads as before. -/
theorem get_keep_pos (d : α) (p : Nat → Bool) (m : FMap α) (i : Nat) (h : p i = true) :
    get d (keep p m) i = get d m i := by
  induction m with
  | nil => rfl
  | cons e m ih =>
    obtain ⟨k, v⟩ := e
    by_cases hp : p k = true
    · by_cases hk : k = i <;> simp_all [keep, get]
    · have hk : k ≠ i := fun e => hp (e ▸ h)
      simp_all [keep, get]

/-- A dropped key reads as the default. -/
theorem get_keep_neg (d : α) (p : Nat → Bool) (m : FMap α) (i : Nat) (h : p i = false) :
    get d (keep p m) i = d := by
  induction m with
  | nil => rfl
  | cons e m ih =>
    obtain ⟨k, v⟩ := e
    by_cases hp : p k = true
    · have hk : k ≠ i := fun e => by simp [e, h] at hp
      simp_all [keep, get]
    · simp_all [keep]

end Sys2Proof.Machine.Map
end

