-- ==== Sys2Proof/Laws/State.lean ====
section
/-! SUPPORT. The laws of the named operations over the state: each update leaves every part of the state but its own,
and a read after a write gives what was written and leaves the rest. -/
namespace Sys2Proof.Machine
open Sys2Proof

namespace State

/-! What stays where a register field is stored. -/

@[simp] theorem set_pending (s : State) (f : Fld) (v : Nat) : (s.set f v).pending = s.pending := rfl
@[simp] theorem set_mem (s : State) (f : Fld) (v : Nat) : (s.set f v).mem = s.mem := rfl
@[simp] theorem set_free (s : State) (f : Fld) (v : Nat) : (s.set f v).free = s.free := rfl
@[simp] theorem set_blk (s : State) (f : Fld) (v : Nat) : (s.set f v).blk = s.blk := rfl
@[simp] theorem set_clkm (s : State) (f : Fld) (v : Nat) : (s.set f v).clkm = s.clkm := rfl
@[simp] theorem set_strm (s : State) (f : Fld) (v : Nat) : (s.set f v).strm = s.strm := rfl
@[simp] theorem set_asrc (s : State) (f : Fld) (v : Nat) : (s.set f v).asrc = s.asrc := rfl
@[simp] theorem set_grp (s : State) (f : Fld) (v : Nat) : (s.set f v).grp = s.grp := rfl
@[simp] theorem set_mtx (s : State) (f : Fld) (v : Nat) : (s.set f v).mtx = s.mtx := rfl
@[simp] theorem set_eng (s : State) (f : Fld) (v : Nat) : (s.set f v).eng = s.eng := rfl
@[simp] theorem set_pwr (s : State) (f : Fld) (v : Nat) : (s.set f v).pwr = s.pwr := rfl
@[simp] theorem set_acc (s : State) (f : Fld) (v : Nat) : (s.set f v).acc = s.acc := rfl
@[simp] theorem set_cbus (s : State) (f : Fld) (v : Nat) : (s.set f v).cbus = s.cbus := rfl
@[simp] theorem set_aux (s : State) (f : Fld) (v : Nat) : (s.set f v).aux = s.aux := rfl
@[simp] theorem set_nvm (s : State) (f : Fld) (v : Nat) : (s.set f v).nvm = s.nvm := rfl
@[simp] theorem set_mic (s : State) (f : Fld) (v : Nat) : (s.set f v).mic = s.mic := rfl
@[simp] theorem set_rz (s : State) (f : Fld) (v : Nat) : (s.set f v).rz = s.rz := rfl
@[simp] theorem set_usb (s : State) (f : Fld) (v : Nat) : (s.set f v).usb = s.usb := rfl
@[simp] theorem set_ana (s : State) (f : Fld) (v : Nat) : (s.set f v).ana = s.ana := rfl
@[simp] theorem set_jack (s : State) (f : Fld) (v : Nat) : (s.set f v).jack = s.jack := rfl
@[simp] theorem set_amp (s : State) (f : Fld) (v : Nat) : (s.set f v).amp = s.amp := rfl
@[simp] theorem set_lich (s : State) (f : Fld) (v : Nat) : (s.set f v).lich = s.lich := rfl
@[simp] theorem set_cdac (s : State) (f : Fld) (v : Nat) : (s.set f v).cdac = s.cdac := rfl
@[simp] theorem set_tap (s : State) (f : Fld) (v : Nat) : (s.set f v).tap = s.tap := rfl
@[simp] theorem set_lpXtal (s : State) (f : Fld) (v : Nat) : (s.set f v).lpXtal = s.lpXtal := rfl

/-! What stays where a one-bit field is stored. -/

@[simp] theorem setB_pending (s : State) (f : Fld) (b : Bool) : (s.setB f b).pending = s.pending := rfl
@[simp] theorem setB_mem (s : State) (f : Fld) (b : Bool) : (s.setB f b).mem = s.mem := rfl
@[simp] theorem setB_free (s : State) (f : Fld) (b : Bool) : (s.setB f b).free = s.free := rfl
@[simp] theorem setB_blk (s : State) (f : Fld) (b : Bool) : (s.setB f b).blk = s.blk := rfl
@[simp] theorem setB_clkm (s : State) (f : Fld) (b : Bool) : (s.setB f b).clkm = s.clkm := rfl
@[simp] theorem setB_strm (s : State) (f : Fld) (b : Bool) : (s.setB f b).strm = s.strm := rfl
@[simp] theorem setB_asrc (s : State) (f : Fld) (b : Bool) : (s.setB f b).asrc = s.asrc := rfl
@[simp] theorem setB_grp (s : State) (f : Fld) (b : Bool) : (s.setB f b).grp = s.grp := rfl
@[simp] theorem setB_mtx (s : State) (f : Fld) (b : Bool) : (s.setB f b).mtx = s.mtx := rfl
@[simp] theorem setB_eng (s : State) (f : Fld) (b : Bool) : (s.setB f b).eng = s.eng := rfl
@[simp] theorem setB_pwr (s : State) (f : Fld) (b : Bool) : (s.setB f b).pwr = s.pwr := rfl
@[simp] theorem setB_acc (s : State) (f : Fld) (b : Bool) : (s.setB f b).acc = s.acc := rfl
@[simp] theorem setB_cbus (s : State) (f : Fld) (b : Bool) : (s.setB f b).cbus = s.cbus := rfl
@[simp] theorem setB_aux (s : State) (f : Fld) (b : Bool) : (s.setB f b).aux = s.aux := rfl
@[simp] theorem setB_nvm (s : State) (f : Fld) (b : Bool) : (s.setB f b).nvm = s.nvm := rfl
@[simp] theorem setB_mic (s : State) (f : Fld) (b : Bool) : (s.setB f b).mic = s.mic := rfl
@[simp] theorem setB_rz (s : State) (f : Fld) (b : Bool) : (s.setB f b).rz = s.rz := rfl
@[simp] theorem setB_usb (s : State) (f : Fld) (b : Bool) : (s.setB f b).usb = s.usb := rfl
@[simp] theorem setB_ana (s : State) (f : Fld) (b : Bool) : (s.setB f b).ana = s.ana := rfl
@[simp] theorem setB_jack (s : State) (f : Fld) (b : Bool) : (s.setB f b).jack = s.jack := rfl
@[simp] theorem setB_amp (s : State) (f : Fld) (b : Bool) : (s.setB f b).amp = s.amp := rfl
@[simp] theorem setB_lich (s : State) (f : Fld) (b : Bool) : (s.setB f b).lich = s.lich := rfl
@[simp] theorem setB_cdac (s : State) (f : Fld) (b : Bool) : (s.setB f b).cdac = s.cdac := rfl
@[simp] theorem setB_tap (s : State) (f : Fld) (b : Bool) : (s.setB f b).tap = s.tap := rfl
@[simp] theorem setB_lpXtal (s : State) (f : Fld) (b : Bool) : (s.setB f b).lpXtal = s.lpXtal := rfl

/-! What stays where a signed field is stored. -/

@[simp] theorem seti_pending (s : State) (f : Fld) (i : Int) : (s.seti f i).pending = s.pending := rfl
@[simp] theorem seti_mem (s : State) (f : Fld) (i : Int) : (s.seti f i).mem = s.mem := rfl
@[simp] theorem seti_free (s : State) (f : Fld) (i : Int) : (s.seti f i).free = s.free := rfl
@[simp] theorem seti_blk (s : State) (f : Fld) (i : Int) : (s.seti f i).blk = s.blk := rfl
@[simp] theorem seti_clkm (s : State) (f : Fld) (i : Int) : (s.seti f i).clkm = s.clkm := rfl
@[simp] theorem seti_strm (s : State) (f : Fld) (i : Int) : (s.seti f i).strm = s.strm := rfl
@[simp] theorem seti_asrc (s : State) (f : Fld) (i : Int) : (s.seti f i).asrc = s.asrc := rfl
@[simp] theorem seti_grp (s : State) (f : Fld) (i : Int) : (s.seti f i).grp = s.grp := rfl
@[simp] theorem seti_mtx (s : State) (f : Fld) (i : Int) : (s.seti f i).mtx = s.mtx := rfl
@[simp] theorem seti_eng (s : State) (f : Fld) (i : Int) : (s.seti f i).eng = s.eng := rfl
@[simp] theorem seti_pwr (s : State) (f : Fld) (i : Int) : (s.seti f i).pwr = s.pwr := rfl
@[simp] theorem seti_acc (s : State) (f : Fld) (i : Int) : (s.seti f i).acc = s.acc := rfl
@[simp] theorem seti_cbus (s : State) (f : Fld) (i : Int) : (s.seti f i).cbus = s.cbus := rfl
@[simp] theorem seti_aux (s : State) (f : Fld) (i : Int) : (s.seti f i).aux = s.aux := rfl
@[simp] theorem seti_nvm (s : State) (f : Fld) (i : Int) : (s.seti f i).nvm = s.nvm := rfl
@[simp] theorem seti_mic (s : State) (f : Fld) (i : Int) : (s.seti f i).mic = s.mic := rfl
@[simp] theorem seti_rz (s : State) (f : Fld) (i : Int) : (s.seti f i).rz = s.rz := rfl
@[simp] theorem seti_usb (s : State) (f : Fld) (i : Int) : (s.seti f i).usb = s.usb := rfl
@[simp] theorem seti_ana (s : State) (f : Fld) (i : Int) : (s.seti f i).ana = s.ana := rfl
@[simp] theorem seti_jack (s : State) (f : Fld) (i : Int) : (s.seti f i).jack = s.jack := rfl
@[simp] theorem seti_amp (s : State) (f : Fld) (i : Int) : (s.seti f i).amp = s.amp := rfl
@[simp] theorem seti_lich (s : State) (f : Fld) (i : Int) : (s.seti f i).lich = s.lich := rfl
@[simp] theorem seti_cdac (s : State) (f : Fld) (i : Int) : (s.seti f i).cdac = s.cdac := rfl
@[simp] theorem seti_tap (s : State) (f : Fld) (i : Int) : (s.seti f i).tap = s.tap := rfl
@[simp] theorem seti_lpXtal (s : State) (f : Fld) (i : Int) : (s.seti f i).lpXtal = s.lpXtal := rfl

/-! What stays where a saturating counter is raised. -/

@[simp] theorem addSat_pending (s : State) (f : Fld) (n : Nat) : (s.addSat f n).pending = s.pending := rfl
@[simp] theorem addSat_mem (s : State) (f : Fld) (n : Nat) : (s.addSat f n).mem = s.mem := rfl
@[simp] theorem addSat_free (s : State) (f : Fld) (n : Nat) : (s.addSat f n).free = s.free := rfl
@[simp] theorem addSat_blk (s : State) (f : Fld) (n : Nat) : (s.addSat f n).blk = s.blk := rfl
@[simp] theorem addSat_clkm (s : State) (f : Fld) (n : Nat) : (s.addSat f n).clkm = s.clkm := rfl
@[simp] theorem addSat_strm (s : State) (f : Fld) (n : Nat) : (s.addSat f n).strm = s.strm := rfl
@[simp] theorem addSat_asrc (s : State) (f : Fld) (n : Nat) : (s.addSat f n).asrc = s.asrc := rfl
@[simp] theorem addSat_grp (s : State) (f : Fld) (n : Nat) : (s.addSat f n).grp = s.grp := rfl
@[simp] theorem addSat_mtx (s : State) (f : Fld) (n : Nat) : (s.addSat f n).mtx = s.mtx := rfl
@[simp] theorem addSat_eng (s : State) (f : Fld) (n : Nat) : (s.addSat f n).eng = s.eng := rfl
@[simp] theorem addSat_pwr (s : State) (f : Fld) (n : Nat) : (s.addSat f n).pwr = s.pwr := rfl
@[simp] theorem addSat_acc (s : State) (f : Fld) (n : Nat) : (s.addSat f n).acc = s.acc := rfl
@[simp] theorem addSat_cbus (s : State) (f : Fld) (n : Nat) : (s.addSat f n).cbus = s.cbus := rfl
@[simp] theorem addSat_aux (s : State) (f : Fld) (n : Nat) : (s.addSat f n).aux = s.aux := rfl
@[simp] theorem addSat_nvm (s : State) (f : Fld) (n : Nat) : (s.addSat f n).nvm = s.nvm := rfl
@[simp] theorem addSat_mic (s : State) (f : Fld) (n : Nat) : (s.addSat f n).mic = s.mic := rfl
@[simp] theorem addSat_rz (s : State) (f : Fld) (n : Nat) : (s.addSat f n).rz = s.rz := rfl
@[simp] theorem addSat_usb (s : State) (f : Fld) (n : Nat) : (s.addSat f n).usb = s.usb := rfl
@[simp] theorem addSat_ana (s : State) (f : Fld) (n : Nat) : (s.addSat f n).ana = s.ana := rfl
@[simp] theorem addSat_jack (s : State) (f : Fld) (n : Nat) : (s.addSat f n).jack = s.jack := rfl
@[simp] theorem addSat_amp (s : State) (f : Fld) (n : Nat) : (s.addSat f n).amp = s.amp := rfl
@[simp] theorem addSat_lich (s : State) (f : Fld) (n : Nat) : (s.addSat f n).lich = s.lich := rfl
@[simp] theorem addSat_cdac (s : State) (f : Fld) (n : Nat) : (s.addSat f n).cdac = s.cdac := rfl
@[simp] theorem addSat_tap (s : State) (f : Fld) (n : Nat) : (s.addSat f n).tap = s.tap := rfl
@[simp] theorem addSat_lpXtal (s : State) (f : Fld) (n : Nat) : (s.addSat f n).lpXtal = s.lpXtal := rfl

/-! What stays where a saturating counter counts. -/

@[simp] theorem bump_pending (s : State) (f : Fld) : (s.bump f).pending = s.pending := rfl
@[simp] theorem bump_mem (s : State) (f : Fld) : (s.bump f).mem = s.mem := rfl
@[simp] theorem bump_free (s : State) (f : Fld) : (s.bump f).free = s.free := rfl
@[simp] theorem bump_blk (s : State) (f : Fld) : (s.bump f).blk = s.blk := rfl
@[simp] theorem bump_clkm (s : State) (f : Fld) : (s.bump f).clkm = s.clkm := rfl
@[simp] theorem bump_strm (s : State) (f : Fld) : (s.bump f).strm = s.strm := rfl
@[simp] theorem bump_asrc (s : State) (f : Fld) : (s.bump f).asrc = s.asrc := rfl
@[simp] theorem bump_grp (s : State) (f : Fld) : (s.bump f).grp = s.grp := rfl
@[simp] theorem bump_mtx (s : State) (f : Fld) : (s.bump f).mtx = s.mtx := rfl
@[simp] theorem bump_eng (s : State) (f : Fld) : (s.bump f).eng = s.eng := rfl
@[simp] theorem bump_pwr (s : State) (f : Fld) : (s.bump f).pwr = s.pwr := rfl
@[simp] theorem bump_acc (s : State) (f : Fld) : (s.bump f).acc = s.acc := rfl
@[simp] theorem bump_cbus (s : State) (f : Fld) : (s.bump f).cbus = s.cbus := rfl
@[simp] theorem bump_aux (s : State) (f : Fld) : (s.bump f).aux = s.aux := rfl
@[simp] theorem bump_nvm (s : State) (f : Fld) : (s.bump f).nvm = s.nvm := rfl
@[simp] theorem bump_mic (s : State) (f : Fld) : (s.bump f).mic = s.mic := rfl
@[simp] theorem bump_rz (s : State) (f : Fld) : (s.bump f).rz = s.rz := rfl
@[simp] theorem bump_usb (s : State) (f : Fld) : (s.bump f).usb = s.usb := rfl
@[simp] theorem bump_ana (s : State) (f : Fld) : (s.bump f).ana = s.ana := rfl
@[simp] theorem bump_jack (s : State) (f : Fld) : (s.bump f).jack = s.jack := rfl
@[simp] theorem bump_amp (s : State) (f : Fld) : (s.bump f).amp = s.amp := rfl
@[simp] theorem bump_lich (s : State) (f : Fld) : (s.bump f).lich = s.lich := rfl
@[simp] theorem bump_cdac (s : State) (f : Fld) : (s.bump f).cdac = s.cdac := rfl
@[simp] theorem bump_tap (s : State) (f : Fld) : (s.bump f).tap = s.tap := rfl
@[simp] theorem bump_lpXtal (s : State) (f : Fld) : (s.bump f).lpXtal = s.lpXtal := rfl

/-! What stays where a wrapping counter counts. -/

@[simp] theorem bumpWrap_pending (s : State) (f : Fld) : (s.bumpWrap f).pending = s.pending := rfl
@[simp] theorem bumpWrap_mem (s : State) (f : Fld) : (s.bumpWrap f).mem = s.mem := rfl
@[simp] theorem bumpWrap_free (s : State) (f : Fld) : (s.bumpWrap f).free = s.free := rfl
@[simp] theorem bumpWrap_blk (s : State) (f : Fld) : (s.bumpWrap f).blk = s.blk := rfl
@[simp] theorem bumpWrap_clkm (s : State) (f : Fld) : (s.bumpWrap f).clkm = s.clkm := rfl
@[simp] theorem bumpWrap_strm (s : State) (f : Fld) : (s.bumpWrap f).strm = s.strm := rfl
@[simp] theorem bumpWrap_asrc (s : State) (f : Fld) : (s.bumpWrap f).asrc = s.asrc := rfl
@[simp] theorem bumpWrap_grp (s : State) (f : Fld) : (s.bumpWrap f).grp = s.grp := rfl
@[simp] theorem bumpWrap_mtx (s : State) (f : Fld) : (s.bumpWrap f).mtx = s.mtx := rfl
@[simp] theorem bumpWrap_eng (s : State) (f : Fld) : (s.bumpWrap f).eng = s.eng := rfl
@[simp] theorem bumpWrap_pwr (s : State) (f : Fld) : (s.bumpWrap f).pwr = s.pwr := rfl
@[simp] theorem bumpWrap_acc (s : State) (f : Fld) : (s.bumpWrap f).acc = s.acc := rfl
@[simp] theorem bumpWrap_cbus (s : State) (f : Fld) : (s.bumpWrap f).cbus = s.cbus := rfl
@[simp] theorem bumpWrap_aux (s : State) (f : Fld) : (s.bumpWrap f).aux = s.aux := rfl
@[simp] theorem bumpWrap_nvm (s : State) (f : Fld) : (s.bumpWrap f).nvm = s.nvm := rfl
@[simp] theorem bumpWrap_mic (s : State) (f : Fld) : (s.bumpWrap f).mic = s.mic := rfl
@[simp] theorem bumpWrap_rz (s : State) (f : Fld) : (s.bumpWrap f).rz = s.rz := rfl
@[simp] theorem bumpWrap_usb (s : State) (f : Fld) : (s.bumpWrap f).usb = s.usb := rfl
@[simp] theorem bumpWrap_ana (s : State) (f : Fld) : (s.bumpWrap f).ana = s.ana := rfl
@[simp] theorem bumpWrap_jack (s : State) (f : Fld) : (s.bumpWrap f).jack = s.jack := rfl
@[simp] theorem bumpWrap_amp (s : State) (f : Fld) : (s.bumpWrap f).amp = s.amp := rfl
@[simp] theorem bumpWrap_lich (s : State) (f : Fld) : (s.bumpWrap f).lich = s.lich := rfl
@[simp] theorem bumpWrap_cdac (s : State) (f : Fld) : (s.bumpWrap f).cdac = s.cdac := rfl
@[simp] theorem bumpWrap_tap (s : State) (f : Fld) : (s.bumpWrap f).tap = s.tap := rfl
@[simp] theorem bumpWrap_lpXtal (s : State) (f : Fld) : (s.bumpWrap f).lpXtal = s.lpXtal := rfl

/-! What stays where a bit of a field is stored. -/

@[simp] theorem setBit_pending (s : State) (f : Fld) (n : Nat) (b : Bool) : (s.setBit f n b).pending = s.pending := rfl
@[simp] theorem setBit_mem (s : State) (f : Fld) (n : Nat) (b : Bool) : (s.setBit f n b).mem = s.mem := rfl
@[simp] theorem setBit_free (s : State) (f : Fld) (n : Nat) (b : Bool) : (s.setBit f n b).free = s.free := rfl
@[simp] theorem setBit_blk (s : State) (f : Fld) (n : Nat) (b : Bool) : (s.setBit f n b).blk = s.blk := rfl
@[simp] theorem setBit_clkm (s : State) (f : Fld) (n : Nat) (b : Bool) : (s.setBit f n b).clkm = s.clkm := rfl
@[simp] theorem setBit_strm (s : State) (f : Fld) (n : Nat) (b : Bool) : (s.setBit f n b).strm = s.strm := rfl
@[simp] theorem setBit_asrc (s : State) (f : Fld) (n : Nat) (b : Bool) : (s.setBit f n b).asrc = s.asrc := rfl
@[simp] theorem setBit_grp (s : State) (f : Fld) (n : Nat) (b : Bool) : (s.setBit f n b).grp = s.grp := rfl
@[simp] theorem setBit_mtx (s : State) (f : Fld) (n : Nat) (b : Bool) : (s.setBit f n b).mtx = s.mtx := rfl
@[simp] theorem setBit_eng (s : State) (f : Fld) (n : Nat) (b : Bool) : (s.setBit f n b).eng = s.eng := rfl
@[simp] theorem setBit_pwr (s : State) (f : Fld) (n : Nat) (b : Bool) : (s.setBit f n b).pwr = s.pwr := rfl
@[simp] theorem setBit_acc (s : State) (f : Fld) (n : Nat) (b : Bool) : (s.setBit f n b).acc = s.acc := rfl
@[simp] theorem setBit_cbus (s : State) (f : Fld) (n : Nat) (b : Bool) : (s.setBit f n b).cbus = s.cbus := rfl
@[simp] theorem setBit_aux (s : State) (f : Fld) (n : Nat) (b : Bool) : (s.setBit f n b).aux = s.aux := rfl
@[simp] theorem setBit_nvm (s : State) (f : Fld) (n : Nat) (b : Bool) : (s.setBit f n b).nvm = s.nvm := rfl
@[simp] theorem setBit_mic (s : State) (f : Fld) (n : Nat) (b : Bool) : (s.setBit f n b).mic = s.mic := rfl
@[simp] theorem setBit_rz (s : State) (f : Fld) (n : Nat) (b : Bool) : (s.setBit f n b).rz = s.rz := rfl
@[simp] theorem setBit_usb (s : State) (f : Fld) (n : Nat) (b : Bool) : (s.setBit f n b).usb = s.usb := rfl
@[simp] theorem setBit_ana (s : State) (f : Fld) (n : Nat) (b : Bool) : (s.setBit f n b).ana = s.ana := rfl
@[simp] theorem setBit_jack (s : State) (f : Fld) (n : Nat) (b : Bool) : (s.setBit f n b).jack = s.jack := rfl
@[simp] theorem setBit_amp (s : State) (f : Fld) (n : Nat) (b : Bool) : (s.setBit f n b).amp = s.amp := rfl
@[simp] theorem setBit_lich (s : State) (f : Fld) (n : Nat) (b : Bool) : (s.setBit f n b).lich = s.lich := rfl
@[simp] theorem setBit_cdac (s : State) (f : Fld) (n : Nat) (b : Bool) : (s.setBit f n b).cdac = s.cdac := rfl
@[simp] theorem setBit_tap (s : State) (f : Fld) (n : Nat) (b : Bool) : (s.setBit f n b).tap = s.tap := rfl
@[simp] theorem setBit_lpXtal (s : State) (f : Fld) (n : Nat) (b : Bool) : (s.setBit f n b).lpXtal = s.lpXtal := rfl

/-! What stays where a byte is written. -/

@[simp] theorem setByte_pending (s : State) (a : Nat) (b : Byte) : (s.setByte a b).pending = s.pending := rfl
@[simp] theorem setByte_regs (s : State) (a : Nat) (b : Byte) : (s.setByte a b).regs = s.regs := rfl
@[simp] theorem setByte_free (s : State) (a : Nat) (b : Byte) : (s.setByte a b).free = s.free := rfl
@[simp] theorem setByte_blk (s : State) (a : Nat) (b : Byte) : (s.setByte a b).blk = s.blk := rfl
@[simp] theorem setByte_clkm (s : State) (a : Nat) (b : Byte) : (s.setByte a b).clkm = s.clkm := rfl
@[simp] theorem setByte_strm (s : State) (a : Nat) (b : Byte) : (s.setByte a b).strm = s.strm := rfl
@[simp] theorem setByte_asrc (s : State) (a : Nat) (b : Byte) : (s.setByte a b).asrc = s.asrc := rfl
@[simp] theorem setByte_grp (s : State) (a : Nat) (b : Byte) : (s.setByte a b).grp = s.grp := rfl
@[simp] theorem setByte_mtx (s : State) (a : Nat) (b : Byte) : (s.setByte a b).mtx = s.mtx := rfl
@[simp] theorem setByte_eng (s : State) (a : Nat) (b : Byte) : (s.setByte a b).eng = s.eng := rfl
@[simp] theorem setByte_pwr (s : State) (a : Nat) (b : Byte) : (s.setByte a b).pwr = s.pwr := rfl
@[simp] theorem setByte_acc (s : State) (a : Nat) (b : Byte) : (s.setByte a b).acc = s.acc := rfl
@[simp] theorem setByte_cbus (s : State) (a : Nat) (b : Byte) : (s.setByte a b).cbus = s.cbus := rfl
@[simp] theorem setByte_aux (s : State) (a : Nat) (b : Byte) : (s.setByte a b).aux = s.aux := rfl
@[simp] theorem setByte_nvm (s : State) (a : Nat) (b : Byte) : (s.setByte a b).nvm = s.nvm := rfl
@[simp] theorem setByte_mic (s : State) (a : Nat) (b : Byte) : (s.setByte a b).mic = s.mic := rfl
@[simp] theorem setByte_rz (s : State) (a : Nat) (b : Byte) : (s.setByte a b).rz = s.rz := rfl
@[simp] theorem setByte_usb (s : State) (a : Nat) (b : Byte) : (s.setByte a b).usb = s.usb := rfl
@[simp] theorem setByte_ana (s : State) (a : Nat) (b : Byte) : (s.setByte a b).ana = s.ana := rfl
@[simp] theorem setByte_jack (s : State) (a : Nat) (b : Byte) : (s.setByte a b).jack = s.jack := rfl
@[simp] theorem setByte_amp (s : State) (a : Nat) (b : Byte) : (s.setByte a b).amp = s.amp := rfl
@[simp] theorem setByte_lich (s : State) (a : Nat) (b : Byte) : (s.setByte a b).lich = s.lich := rfl
@[simp] theorem setByte_cdac (s : State) (a : Nat) (b : Byte) : (s.setByte a b).cdac = s.cdac := rfl
@[simp] theorem setByte_tap (s : State) (a : Nat) (b : Byte) : (s.setByte a b).tap = s.tap := rfl
@[simp] theorem setByte_lpXtal (s : State) (a : Nat) (b : Byte) : (s.setByte a b).lpXtal = s.lpXtal := rfl

/-! What stays where a range of bytes is dropped. -/

@[simp] theorem clearBytes_pending (s : State) (lo hi : Nat) : (s.clearBytes lo hi).pending = s.pending := rfl
@[simp] theorem clearBytes_regs (s : State) (lo hi : Nat) : (s.clearBytes lo hi).regs = s.regs := rfl
@[simp] theorem clearBytes_free (s : State) (lo hi : Nat) : (s.clearBytes lo hi).free = s.free := rfl
@[simp] theorem clearBytes_blk (s : State) (lo hi : Nat) : (s.clearBytes lo hi).blk = s.blk := rfl
@[simp] theorem clearBytes_clkm (s : State) (lo hi : Nat) : (s.clearBytes lo hi).clkm = s.clkm := rfl
@[simp] theorem clearBytes_strm (s : State) (lo hi : Nat) : (s.clearBytes lo hi).strm = s.strm := rfl
@[simp] theorem clearBytes_asrc (s : State) (lo hi : Nat) : (s.clearBytes lo hi).asrc = s.asrc := rfl
@[simp] theorem clearBytes_grp (s : State) (lo hi : Nat) : (s.clearBytes lo hi).grp = s.grp := rfl
@[simp] theorem clearBytes_mtx (s : State) (lo hi : Nat) : (s.clearBytes lo hi).mtx = s.mtx := rfl
@[simp] theorem clearBytes_eng (s : State) (lo hi : Nat) : (s.clearBytes lo hi).eng = s.eng := rfl
@[simp] theorem clearBytes_pwr (s : State) (lo hi : Nat) : (s.clearBytes lo hi).pwr = s.pwr := rfl
@[simp] theorem clearBytes_acc (s : State) (lo hi : Nat) : (s.clearBytes lo hi).acc = s.acc := rfl
@[simp] theorem clearBytes_cbus (s : State) (lo hi : Nat) : (s.clearBytes lo hi).cbus = s.cbus := rfl
@[simp] theorem clearBytes_aux (s : State) (lo hi : Nat) : (s.clearBytes lo hi).aux = s.aux := rfl
@[simp] theorem clearBytes_nvm (s : State) (lo hi : Nat) : (s.clearBytes lo hi).nvm = s.nvm := rfl
@[simp] theorem clearBytes_mic (s : State) (lo hi : Nat) : (s.clearBytes lo hi).mic = s.mic := rfl
@[simp] theorem clearBytes_rz (s : State) (lo hi : Nat) : (s.clearBytes lo hi).rz = s.rz := rfl
@[simp] theorem clearBytes_usb (s : State) (lo hi : Nat) : (s.clearBytes lo hi).usb = s.usb := rfl
@[simp] theorem clearBytes_ana (s : State) (lo hi : Nat) : (s.clearBytes lo hi).ana = s.ana := rfl
@[simp] theorem clearBytes_jack (s : State) (lo hi : Nat) : (s.clearBytes lo hi).jack = s.jack := rfl
@[simp] theorem clearBytes_amp (s : State) (lo hi : Nat) : (s.clearBytes lo hi).amp = s.amp := rfl
@[simp] theorem clearBytes_lich (s : State) (lo hi : Nat) : (s.clearBytes lo hi).lich = s.lich := rfl
@[simp] theorem clearBytes_cdac (s : State) (lo hi : Nat) : (s.clearBytes lo hi).cdac = s.cdac := rfl
@[simp] theorem clearBytes_tap (s : State) (lo hi : Nat) : (s.clearBytes lo hi).tap = s.tap := rfl
@[simp] theorem clearBytes_lpXtal (s : State) (lo hi : Nat) : (s.clearBytes lo hi).lpXtal = s.lpXtal := rfl

/-! What stays where a context is replaced. -/

@[simp] theorem setCtx_pending (s : State) (c : Nat) (x : Ctx) : (s.setCtx c x).pending = s.pending := rfl
@[simp] theorem setCtx_regs (s : State) (c : Nat) (x : Ctx) : (s.setCtx c x).regs = s.regs := rfl
@[simp] theorem setCtx_mem (s : State) (c : Nat) (x : Ctx) : (s.setCtx c x).mem = s.mem := rfl
@[simp] theorem setCtx_free (s : State) (c : Nat) (x : Ctx) : (s.setCtx c x).free = s.free := rfl
@[simp] theorem setCtx_blk (s : State) (c : Nat) (x : Ctx) : (s.setCtx c x).blk = s.blk := rfl
@[simp] theorem setCtx_clkm (s : State) (c : Nat) (x : Ctx) : (s.setCtx c x).clkm = s.clkm := rfl
@[simp] theorem setCtx_asrc (s : State) (c : Nat) (x : Ctx) : (s.setCtx c x).asrc = s.asrc := rfl
@[simp] theorem setCtx_grp (s : State) (c : Nat) (x : Ctx) : (s.setCtx c x).grp = s.grp := rfl
@[simp] theorem setCtx_mtx (s : State) (c : Nat) (x : Ctx) : (s.setCtx c x).mtx = s.mtx := rfl
@[simp] theorem setCtx_eng (s : State) (c : Nat) (x : Ctx) : (s.setCtx c x).eng = s.eng := rfl
@[simp] theorem setCtx_pwr (s : State) (c : Nat) (x : Ctx) : (s.setCtx c x).pwr = s.pwr := rfl
@[simp] theorem setCtx_acc (s : State) (c : Nat) (x : Ctx) : (s.setCtx c x).acc = s.acc := rfl
@[simp] theorem setCtx_cbus (s : State) (c : Nat) (x : Ctx) : (s.setCtx c x).cbus = s.cbus := rfl
@[simp] theorem setCtx_aux (s : State) (c : Nat) (x : Ctx) : (s.setCtx c x).aux = s.aux := rfl
@[simp] theorem setCtx_nvm (s : State) (c : Nat) (x : Ctx) : (s.setCtx c x).nvm = s.nvm := rfl
@[simp] theorem setCtx_mic (s : State) (c : Nat) (x : Ctx) : (s.setCtx c x).mic = s.mic := rfl
@[simp] theorem setCtx_rz (s : State) (c : Nat) (x : Ctx) : (s.setCtx c x).rz = s.rz := rfl
@[simp] theorem setCtx_usb (s : State) (c : Nat) (x : Ctx) : (s.setCtx c x).usb = s.usb := rfl
@[simp] theorem setCtx_ana (s : State) (c : Nat) (x : Ctx) : (s.setCtx c x).ana = s.ana := rfl
@[simp] theorem setCtx_jack (s : State) (c : Nat) (x : Ctx) : (s.setCtx c x).jack = s.jack := rfl
@[simp] theorem setCtx_amp (s : State) (c : Nat) (x : Ctx) : (s.setCtx c x).amp = s.amp := rfl
@[simp] theorem setCtx_lich (s : State) (c : Nat) (x : Ctx) : (s.setCtx c x).lich = s.lich := rfl
@[simp] theorem setCtx_cdac (s : State) (c : Nat) (x : Ctx) : (s.setCtx c x).cdac = s.cdac := rfl
@[simp] theorem setCtx_tap (s : State) (c : Nat) (x : Ctx) : (s.setCtx c x).tap = s.tap := rfl
@[simp] theorem setCtx_lpXtal (s : State) (c : Nat) (x : Ctx) : (s.setCtx c x).lpXtal = s.lpXtal := rfl

/-! What stays where a context is changed. -/

@[simp] theorem updCtx_pending (s : State) (c : Nat) (g : Ctx → Ctx) : (s.updCtx c g).pending = s.pending := rfl
@[simp] theorem updCtx_regs (s : State) (c : Nat) (g : Ctx → Ctx) : (s.updCtx c g).regs = s.regs := rfl
@[simp] theorem updCtx_mem (s : State) (c : Nat) (g : Ctx → Ctx) : (s.updCtx c g).mem = s.mem := rfl
@[simp] theorem updCtx_free (s : State) (c : Nat) (g : Ctx → Ctx) : (s.updCtx c g).free = s.free := rfl
@[simp] theorem updCtx_blk (s : State) (c : Nat) (g : Ctx → Ctx) : (s.updCtx c g).blk = s.blk := rfl
@[simp] theorem updCtx_clkm (s : State) (c : Nat) (g : Ctx → Ctx) : (s.updCtx c g).clkm = s.clkm := rfl
@[simp] theorem updCtx_asrc (s : State) (c : Nat) (g : Ctx → Ctx) : (s.updCtx c g).asrc = s.asrc := rfl
@[simp] theorem updCtx_grp (s : State) (c : Nat) (g : Ctx → Ctx) : (s.updCtx c g).grp = s.grp := rfl
@[simp] theorem updCtx_mtx (s : State) (c : Nat) (g : Ctx → Ctx) : (s.updCtx c g).mtx = s.mtx := rfl
@[simp] theorem updCtx_eng (s : State) (c : Nat) (g : Ctx → Ctx) : (s.updCtx c g).eng = s.eng := rfl
@[simp] theorem updCtx_pwr (s : State) (c : Nat) (g : Ctx → Ctx) : (s.updCtx c g).pwr = s.pwr := rfl
@[simp] theorem updCtx_acc (s : State) (c : Nat) (g : Ctx → Ctx) : (s.updCtx c g).acc = s.acc := rfl
@[simp] theorem updCtx_cbus (s : State) (c : Nat) (g : Ctx → Ctx) : (s.updCtx c g).cbus = s.cbus := rfl
@[simp] theorem updCtx_aux (s : State) (c : Nat) (g : Ctx → Ctx) : (s.updCtx c g).aux = s.aux := rfl
@[simp] theorem updCtx_nvm (s : State) (c : Nat) (g : Ctx → Ctx) : (s.updCtx c g).nvm = s.nvm := rfl
@[simp] theorem updCtx_mic (s : State) (c : Nat) (g : Ctx → Ctx) : (s.updCtx c g).mic = s.mic := rfl
@[simp] theorem updCtx_rz (s : State) (c : Nat) (g : Ctx → Ctx) : (s.updCtx c g).rz = s.rz := rfl
@[simp] theorem updCtx_usb (s : State) (c : Nat) (g : Ctx → Ctx) : (s.updCtx c g).usb = s.usb := rfl
@[simp] theorem updCtx_ana (s : State) (c : Nat) (g : Ctx → Ctx) : (s.updCtx c g).ana = s.ana := rfl
@[simp] theorem updCtx_jack (s : State) (c : Nat) (g : Ctx → Ctx) : (s.updCtx c g).jack = s.jack := rfl
@[simp] theorem updCtx_amp (s : State) (c : Nat) (g : Ctx → Ctx) : (s.updCtx c g).amp = s.amp := rfl
@[simp] theorem updCtx_lich (s : State) (c : Nat) (g : Ctx → Ctx) : (s.updCtx c g).lich = s.lich := rfl
@[simp] theorem updCtx_cdac (s : State) (c : Nat) (g : Ctx → Ctx) : (s.updCtx c g).cdac = s.cdac := rfl
@[simp] theorem updCtx_tap (s : State) (c : Nat) (g : Ctx → Ctx) : (s.updCtx c g).tap = s.tap := rfl
@[simp] theorem updCtx_lpXtal (s : State) (c : Nat) (g : Ctx → Ctx) : (s.updCtx c g).lpXtal = s.lpXtal := rfl

/-! What stays where a port is replaced. -/

@[simp] theorem setSap_pending (s : State) (p : Nat) (x : SapSt) : (s.setSap p x).pending = s.pending := rfl
@[simp] theorem setSap_regs (s : State) (p : Nat) (x : SapSt) : (s.setSap p x).regs = s.regs := rfl
@[simp] theorem setSap_mem (s : State) (p : Nat) (x : SapSt) : (s.setSap p x).mem = s.mem := rfl
@[simp] theorem setSap_free (s : State) (p : Nat) (x : SapSt) : (s.setSap p x).free = s.free := rfl
@[simp] theorem setSap_blk (s : State) (p : Nat) (x : SapSt) : (s.setSap p x).blk = s.blk := rfl
@[simp] theorem setSap_clkm (s : State) (p : Nat) (x : SapSt) : (s.setSap p x).clkm = s.clkm := rfl
@[simp] theorem setSap_asrc (s : State) (p : Nat) (x : SapSt) : (s.setSap p x).asrc = s.asrc := rfl
@[simp] theorem setSap_grp (s : State) (p : Nat) (x : SapSt) : (s.setSap p x).grp = s.grp := rfl
@[simp] theorem setSap_mtx (s : State) (p : Nat) (x : SapSt) : (s.setSap p x).mtx = s.mtx := rfl
@[simp] theorem setSap_eng (s : State) (p : Nat) (x : SapSt) : (s.setSap p x).eng = s.eng := rfl
@[simp] theorem setSap_pwr (s : State) (p : Nat) (x : SapSt) : (s.setSap p x).pwr = s.pwr := rfl
@[simp] theorem setSap_acc (s : State) (p : Nat) (x : SapSt) : (s.setSap p x).acc = s.acc := rfl
@[simp] theorem setSap_cbus (s : State) (p : Nat) (x : SapSt) : (s.setSap p x).cbus = s.cbus := rfl
@[simp] theorem setSap_aux (s : State) (p : Nat) (x : SapSt) : (s.setSap p x).aux = s.aux := rfl
@[simp] theorem setSap_nvm (s : State) (p : Nat) (x : SapSt) : (s.setSap p x).nvm = s.nvm := rfl
@[simp] theorem setSap_mic (s : State) (p : Nat) (x : SapSt) : (s.setSap p x).mic = s.mic := rfl
@[simp] theorem setSap_rz (s : State) (p : Nat) (x : SapSt) : (s.setSap p x).rz = s.rz := rfl
@[simp] theorem setSap_usb (s : State) (p : Nat) (x : SapSt) : (s.setSap p x).usb = s.usb := rfl
@[simp] theorem setSap_ana (s : State) (p : Nat) (x : SapSt) : (s.setSap p x).ana = s.ana := rfl
@[simp] theorem setSap_jack (s : State) (p : Nat) (x : SapSt) : (s.setSap p x).jack = s.jack := rfl
@[simp] theorem setSap_amp (s : State) (p : Nat) (x : SapSt) : (s.setSap p x).amp = s.amp := rfl
@[simp] theorem setSap_lich (s : State) (p : Nat) (x : SapSt) : (s.setSap p x).lich = s.lich := rfl
@[simp] theorem setSap_cdac (s : State) (p : Nat) (x : SapSt) : (s.setSap p x).cdac = s.cdac := rfl
@[simp] theorem setSap_tap (s : State) (p : Nat) (x : SapSt) : (s.setSap p x).tap = s.tap := rfl
@[simp] theorem setSap_lpXtal (s : State) (p : Nat) (x : SapSt) : (s.setSap p x).lpXtal = s.lpXtal := rfl

/-! What stays where a graph slot is replaced. -/

@[simp] theorem setSlot_pending (s : State) (k : Nat) (x : Slot) : (s.setSlot k x).pending = s.pending := rfl
@[simp] theorem setSlot_regs (s : State) (k : Nat) (x : Slot) : (s.setSlot k x).regs = s.regs := rfl
@[simp] theorem setSlot_mem (s : State) (k : Nat) (x : Slot) : (s.setSlot k x).mem = s.mem := rfl
@[simp] theorem setSlot_free (s : State) (k : Nat) (x : Slot) : (s.setSlot k x).free = s.free := rfl
@[simp] theorem setSlot_blk (s : State) (k : Nat) (x : Slot) : (s.setSlot k x).blk = s.blk := rfl
@[simp] theorem setSlot_clkm (s : State) (k : Nat) (x : Slot) : (s.setSlot k x).clkm = s.clkm := rfl
@[simp] theorem setSlot_strm (s : State) (k : Nat) (x : Slot) : (s.setSlot k x).strm = s.strm := rfl
@[simp] theorem setSlot_asrc (s : State) (k : Nat) (x : Slot) : (s.setSlot k x).asrc = s.asrc := rfl
@[simp] theorem setSlot_grp (s : State) (k : Nat) (x : Slot) : (s.setSlot k x).grp = s.grp := rfl
@[simp] theorem setSlot_mtx (s : State) (k : Nat) (x : Slot) : (s.setSlot k x).mtx = s.mtx := rfl
@[simp] theorem setSlot_pwr (s : State) (k : Nat) (x : Slot) : (s.setSlot k x).pwr = s.pwr := rfl
@[simp] theorem setSlot_acc (s : State) (k : Nat) (x : Slot) : (s.setSlot k x).acc = s.acc := rfl
@[simp] theorem setSlot_cbus (s : State) (k : Nat) (x : Slot) : (s.setSlot k x).cbus = s.cbus := rfl
@[simp] theorem setSlot_aux (s : State) (k : Nat) (x : Slot) : (s.setSlot k x).aux = s.aux := rfl
@[simp] theorem setSlot_nvm (s : State) (k : Nat) (x : Slot) : (s.setSlot k x).nvm = s.nvm := rfl
@[simp] theorem setSlot_mic (s : State) (k : Nat) (x : Slot) : (s.setSlot k x).mic = s.mic := rfl
@[simp] theorem setSlot_rz (s : State) (k : Nat) (x : Slot) : (s.setSlot k x).rz = s.rz := rfl
@[simp] theorem setSlot_usb (s : State) (k : Nat) (x : Slot) : (s.setSlot k x).usb = s.usb := rfl
@[simp] theorem setSlot_ana (s : State) (k : Nat) (x : Slot) : (s.setSlot k x).ana = s.ana := rfl
@[simp] theorem setSlot_jack (s : State) (k : Nat) (x : Slot) : (s.setSlot k x).jack = s.jack := rfl
@[simp] theorem setSlot_amp (s : State) (k : Nat) (x : Slot) : (s.setSlot k x).amp = s.amp := rfl
@[simp] theorem setSlot_lich (s : State) (k : Nat) (x : Slot) : (s.setSlot k x).lich = s.lich := rfl
@[simp] theorem setSlot_cdac (s : State) (k : Nat) (x : Slot) : (s.setSlot k x).cdac = s.cdac := rfl
@[simp] theorem setSlot_tap (s : State) (k : Nat) (x : Slot) : (s.setSlot k x).tap = s.tap := rfl
@[simp] theorem setSlot_lpXtal (s : State) (k : Nat) (x : Slot) : (s.setSlot k x).lpXtal = s.lpXtal := rfl

/-! What stays where an engine is replaced. -/

@[simp] theorem setEngine_pending (s : State) (n : Nat) (x : Eng) : (s.setEngine n x).pending = s.pending := rfl
@[simp] theorem setEngine_regs (s : State) (n : Nat) (x : Eng) : (s.setEngine n x).regs = s.regs := rfl
@[simp] theorem setEngine_mem (s : State) (n : Nat) (x : Eng) : (s.setEngine n x).mem = s.mem := rfl
@[simp] theorem setEngine_free (s : State) (n : Nat) (x : Eng) : (s.setEngine n x).free = s.free := rfl
@[simp] theorem setEngine_blk (s : State) (n : Nat) (x : Eng) : (s.setEngine n x).blk = s.blk := rfl
@[simp] theorem setEngine_clkm (s : State) (n : Nat) (x : Eng) : (s.setEngine n x).clkm = s.clkm := rfl
@[simp] theorem setEngine_strm (s : State) (n : Nat) (x : Eng) : (s.setEngine n x).strm = s.strm := rfl
@[simp] theorem setEngine_asrc (s : State) (n : Nat) (x : Eng) : (s.setEngine n x).asrc = s.asrc := rfl
@[simp] theorem setEngine_grp (s : State) (n : Nat) (x : Eng) : (s.setEngine n x).grp = s.grp := rfl
@[simp] theorem setEngine_mtx (s : State) (n : Nat) (x : Eng) : (s.setEngine n x).mtx = s.mtx := rfl
@[simp] theorem setEngine_pwr (s : State) (n : Nat) (x : Eng) : (s.setEngine n x).pwr = s.pwr := rfl
@[simp] theorem setEngine_acc (s : State) (n : Nat) (x : Eng) : (s.setEngine n x).acc = s.acc := rfl
@[simp] theorem setEngine_cbus (s : State) (n : Nat) (x : Eng) : (s.setEngine n x).cbus = s.cbus := rfl
@[simp] theorem setEngine_aux (s : State) (n : Nat) (x : Eng) : (s.setEngine n x).aux = s.aux := rfl
@[simp] theorem setEngine_nvm (s : State) (n : Nat) (x : Eng) : (s.setEngine n x).nvm = s.nvm := rfl
@[simp] theorem setEngine_mic (s : State) (n : Nat) (x : Eng) : (s.setEngine n x).mic = s.mic := rfl
@[simp] theorem setEngine_rz (s : State) (n : Nat) (x : Eng) : (s.setEngine n x).rz = s.rz := rfl
@[simp] theorem setEngine_usb (s : State) (n : Nat) (x : Eng) : (s.setEngine n x).usb = s.usb := rfl
@[simp] theorem setEngine_ana (s : State) (n : Nat) (x : Eng) : (s.setEngine n x).ana = s.ana := rfl
@[simp] theorem setEngine_jack (s : State) (n : Nat) (x : Eng) : (s.setEngine n x).jack = s.jack := rfl
@[simp] theorem setEngine_amp (s : State) (n : Nat) (x : Eng) : (s.setEngine n x).amp = s.amp := rfl
@[simp] theorem setEngine_lich (s : State) (n : Nat) (x : Eng) : (s.setEngine n x).lich = s.lich := rfl
@[simp] theorem setEngine_cdac (s : State) (n : Nat) (x : Eng) : (s.setEngine n x).cdac = s.cdac := rfl
@[simp] theorem setEngine_tap (s : State) (n : Nat) (x : Eng) : (s.setEngine n x).tap = s.tap := rfl
@[simp] theorem setEngine_lpXtal (s : State) (n : Nat) (x : Eng) : (s.setEngine n x).lpXtal = s.lpXtal := rfl

/-! What stays where the index of free values advances. -/

@[simp] theorem tick_pending (s : State) : (s.tick).pending = s.pending := rfl
@[simp] theorem tick_regs (s : State) : (s.tick).regs = s.regs := rfl
@[simp] theorem tick_mem (s : State) : (s.tick).mem = s.mem := rfl
@[simp] theorem tick_blk (s : State) : (s.tick).blk = s.blk := rfl
@[simp] theorem tick_clkm (s : State) : (s.tick).clkm = s.clkm := rfl
@[simp] theorem tick_strm (s : State) : (s.tick).strm = s.strm := rfl
@[simp] theorem tick_asrc (s : State) : (s.tick).asrc = s.asrc := rfl
@[simp] theorem tick_grp (s : State) : (s.tick).grp = s.grp := rfl
@[simp] theorem tick_mtx (s : State) : (s.tick).mtx = s.mtx := rfl
@[simp] theorem tick_eng (s : State) : (s.tick).eng = s.eng := rfl
@[simp] theorem tick_pwr (s : State) : (s.tick).pwr = s.pwr := rfl
@[simp] theorem tick_acc (s : State) : (s.tick).acc = s.acc := rfl
@[simp] theorem tick_cbus (s : State) : (s.tick).cbus = s.cbus := rfl
@[simp] theorem tick_aux (s : State) : (s.tick).aux = s.aux := rfl
@[simp] theorem tick_nvm (s : State) : (s.tick).nvm = s.nvm := rfl
@[simp] theorem tick_mic (s : State) : (s.tick).mic = s.mic := rfl
@[simp] theorem tick_rz (s : State) : (s.tick).rz = s.rz := rfl
@[simp] theorem tick_usb (s : State) : (s.tick).usb = s.usb := rfl
@[simp] theorem tick_ana (s : State) : (s.tick).ana = s.ana := rfl
@[simp] theorem tick_jack (s : State) : (s.tick).jack = s.jack := rfl
@[simp] theorem tick_amp (s : State) : (s.tick).amp = s.amp := rfl
@[simp] theorem tick_lich (s : State) : (s.tick).lich = s.lich := rfl
@[simp] theorem tick_cdac (s : State) : (s.tick).cdac = s.cdac := rfl
@[simp] theorem tick_tap (s : State) : (s.tick).tap = s.tap := rfl
@[simp] theorem tick_lpXtal (s : State) : (s.tick).lpXtal = s.lpXtal := rfl

/-! What stays where a run of bytes is written. -/

@[simp] theorem setBytes_pending (s : State) (a : Nat) (bs : List Byte) : (s.setBytes a bs).pending = s.pending := by
  induction bs generalizing s a with
  | nil => rfl
  | cons b bs ih => simp [setBytes, ih]
@[simp] theorem setWord_pending (s : State) (a w : Nat) : (s.setWord a w).pending = s.pending := by simp [setWord]
@[simp] theorem setBytes_regs (s : State) (a : Nat) (bs : List Byte) : (s.setBytes a bs).regs = s.regs := by
  induction bs generalizing s a with
  | nil => rfl
  | cons b bs ih => simp [setBytes, ih]
@[simp] theorem setWord_regs (s : State) (a w : Nat) : (s.setWord a w).regs = s.regs := by simp [setWord]
@[simp] theorem setBytes_free (s : State) (a : Nat) (bs : List Byte) : (s.setBytes a bs).free = s.free := by
  induction bs generalizing s a with
  | nil => rfl
  | cons b bs ih => simp [setBytes, ih]
@[simp] theorem setWord_free (s : State) (a w : Nat) : (s.setWord a w).free = s.free := by simp [setWord]
@[simp] theorem setBytes_blk (s : State) (a : Nat) (bs : List Byte) : (s.setBytes a bs).blk = s.blk := by
  induction bs generalizing s a with
  | nil => rfl
  | cons b bs ih => simp [setBytes, ih]
@[simp] theorem setWord_blk (s : State) (a w : Nat) : (s.setWord a w).blk = s.blk := by simp [setWord]
@[simp] theorem setBytes_clkm (s : State) (a : Nat) (bs : List Byte) : (s.setBytes a bs).clkm = s.clkm := by
  induction bs generalizing s a with
  | nil => rfl
  | cons b bs ih => simp [setBytes, ih]
@[simp] theorem setWord_clkm (s : State) (a w : Nat) : (s.setWord a w).clkm = s.clkm := by simp [setWord]
@[simp] theorem setBytes_strm (s : State) (a : Nat) (bs : List Byte) : (s.setBytes a bs).strm = s.strm := by
  induction bs generalizing s a with
  | nil => rfl
  | cons b bs ih => simp [setBytes, ih]
@[simp] theorem setWord_strm (s : State) (a w : Nat) : (s.setWord a w).strm = s.strm := by simp [setWord]
@[simp] theorem setBytes_asrc (s : State) (a : Nat) (bs : List Byte) : (s.setBytes a bs).asrc = s.asrc := by
  induction bs generalizing s a with
  | nil => rfl
  | cons b bs ih => simp [setBytes, ih]
@[simp] theorem setWord_asrc (s : State) (a w : Nat) : (s.setWord a w).asrc = s.asrc := by simp [setWord]
@[simp] theorem setBytes_grp (s : State) (a : Nat) (bs : List Byte) : (s.setBytes a bs).grp = s.grp := by
  induction bs generalizing s a with
  | nil => rfl
  | cons b bs ih => simp [setBytes, ih]
@[simp] theorem setWord_grp (s : State) (a w : Nat) : (s.setWord a w).grp = s.grp := by simp [setWord]
@[simp] theorem setBytes_mtx (s : State) (a : Nat) (bs : List Byte) : (s.setBytes a bs).mtx = s.mtx := by
  induction bs generalizing s a with
  | nil => rfl
  | cons b bs ih => simp [setBytes, ih]
@[simp] theorem setWord_mtx (s : State) (a w : Nat) : (s.setWord a w).mtx = s.mtx := by simp [setWord]
@[simp] theorem setBytes_eng (s : State) (a : Nat) (bs : List Byte) : (s.setBytes a bs).eng = s.eng := by
  induction bs generalizing s a with
  | nil => rfl
  | cons b bs ih => simp [setBytes, ih]
@[simp] theorem setWord_eng (s : State) (a w : Nat) : (s.setWord a w).eng = s.eng := by simp [setWord]
@[simp] theorem setBytes_pwr (s : State) (a : Nat) (bs : List Byte) : (s.setBytes a bs).pwr = s.pwr := by
  induction bs generalizing s a with
  | nil => rfl
  | cons b bs ih => simp [setBytes, ih]
@[simp] theorem setWord_pwr (s : State) (a w : Nat) : (s.setWord a w).pwr = s.pwr := by simp [setWord]
@[simp] theorem setBytes_acc (s : State) (a : Nat) (bs : List Byte) : (s.setBytes a bs).acc = s.acc := by
  induction bs generalizing s a with
  | nil => rfl
  | cons b bs ih => simp [setBytes, ih]
@[simp] theorem setWord_acc (s : State) (a w : Nat) : (s.setWord a w).acc = s.acc := by simp [setWord]
@[simp] theorem setBytes_cbus (s : State) (a : Nat) (bs : List Byte) : (s.setBytes a bs).cbus = s.cbus := by
  induction bs generalizing s a with
  | nil => rfl
  | cons b bs ih => simp [setBytes, ih]
@[simp] theorem setWord_cbus (s : State) (a w : Nat) : (s.setWord a w).cbus = s.cbus := by simp [setWord]
@[simp] theorem setBytes_aux (s : State) (a : Nat) (bs : List Byte) : (s.setBytes a bs).aux = s.aux := by
  induction bs generalizing s a with
  | nil => rfl
  | cons b bs ih => simp [setBytes, ih]
@[simp] theorem setWord_aux (s : State) (a w : Nat) : (s.setWord a w).aux = s.aux := by simp [setWord]
@[simp] theorem setBytes_nvm (s : State) (a : Nat) (bs : List Byte) : (s.setBytes a bs).nvm = s.nvm := by
  induction bs generalizing s a with
  | nil => rfl
  | cons b bs ih => simp [setBytes, ih]
@[simp] theorem setWord_nvm (s : State) (a w : Nat) : (s.setWord a w).nvm = s.nvm := by simp [setWord]
@[simp] theorem setBytes_mic (s : State) (a : Nat) (bs : List Byte) : (s.setBytes a bs).mic = s.mic := by
  induction bs generalizing s a with
  | nil => rfl
  | cons b bs ih => simp [setBytes, ih]
@[simp] theorem setWord_mic (s : State) (a w : Nat) : (s.setWord a w).mic = s.mic := by simp [setWord]
@[simp] theorem setBytes_rz (s : State) (a : Nat) (bs : List Byte) : (s.setBytes a bs).rz = s.rz := by
  induction bs generalizing s a with
  | nil => rfl
  | cons b bs ih => simp [setBytes, ih]
@[simp] theorem setWord_rz (s : State) (a w : Nat) : (s.setWord a w).rz = s.rz := by simp [setWord]
@[simp] theorem setBytes_usb (s : State) (a : Nat) (bs : List Byte) : (s.setBytes a bs).usb = s.usb := by
  induction bs generalizing s a with
  | nil => rfl
  | cons b bs ih => simp [setBytes, ih]
@[simp] theorem setWord_usb (s : State) (a w : Nat) : (s.setWord a w).usb = s.usb := by simp [setWord]
@[simp] theorem setBytes_ana (s : State) (a : Nat) (bs : List Byte) : (s.setBytes a bs).ana = s.ana := by
  induction bs generalizing s a with
  | nil => rfl
  | cons b bs ih => simp [setBytes, ih]
@[simp] theorem setWord_ana (s : State) (a w : Nat) : (s.setWord a w).ana = s.ana := by simp [setWord]
@[simp] theorem setBytes_jack (s : State) (a : Nat) (bs : List Byte) : (s.setBytes a bs).jack = s.jack := by
  induction bs generalizing s a with
  | nil => rfl
  | cons b bs ih => simp [setBytes, ih]
@[simp] theorem setWord_jack (s : State) (a w : Nat) : (s.setWord a w).jack = s.jack := by simp [setWord]
@[simp] theorem setBytes_amp (s : State) (a : Nat) (bs : List Byte) : (s.setBytes a bs).amp = s.amp := by
  induction bs generalizing s a with
  | nil => rfl
  | cons b bs ih => simp [setBytes, ih]
@[simp] theorem setWord_amp (s : State) (a w : Nat) : (s.setWord a w).amp = s.amp := by simp [setWord]
@[simp] theorem setBytes_lich (s : State) (a : Nat) (bs : List Byte) : (s.setBytes a bs).lich = s.lich := by
  induction bs generalizing s a with
  | nil => rfl
  | cons b bs ih => simp [setBytes, ih]
@[simp] theorem setWord_lich (s : State) (a w : Nat) : (s.setWord a w).lich = s.lich := by simp [setWord]
@[simp] theorem setBytes_cdac (s : State) (a : Nat) (bs : List Byte) : (s.setBytes a bs).cdac = s.cdac := by
  induction bs generalizing s a with
  | nil => rfl
  | cons b bs ih => simp [setBytes, ih]
@[simp] theorem setWord_cdac (s : State) (a w : Nat) : (s.setWord a w).cdac = s.cdac := by simp [setWord]
@[simp] theorem setBytes_tap (s : State) (a : Nat) (bs : List Byte) : (s.setBytes a bs).tap = s.tap := by
  induction bs generalizing s a with
  | nil => rfl
  | cons b bs ih => simp [setBytes, ih]
@[simp] theorem setWord_tap (s : State) (a w : Nat) : (s.setWord a w).tap = s.tap := by simp [setWord]
@[simp] theorem setBytes_lpXtal (s : State) (a : Nat) (bs : List Byte) : (s.setBytes a bs).lpXtal = s.lpXtal := by
  induction bs generalizing s a with
  | nil => rfl
  | cons b bs ih => simp [setBytes, ih]
@[simp] theorem setWord_lpXtal (s : State) (a w : Nat) : (s.setWord a w).lpXtal = s.lpXtal := by simp [setWord]

/-! Register fields. -/

/-- A field reads the value stored, modulo its width. -/
@[simp] theorem get_set_self (s : State) (f : Fld) (v : Nat) : (s.set f v).get f = v % 2 ^ f.w := by
  simp [set, get]

/-- Storing a field leaves every field with another key. -/
theorem get_set_ne (s : State) {f g : Fld} (v : Nat) (h : f.key ≠ g.key) : (s.set f v).get g = s.get g := by
  simp only [set, get]
  rw [Map.get_set_ne _ _ _ _ h]

/-- A field reads as a number of its width. -/
theorem get_lt (s : State) (f : Fld) : s.get f < 2 ^ f.w := Nat.mod_lt _ (Nat.two_pow_pos _)

/-- Fields are read from the register part alone. -/
theorem get_of_regs {s t : State} (h : t.regs = s.regs) (f : Fld) : t.get f = s.get f := by
  simp [get, h]

/-- Bytes are read from the memory part alone. -/
theorem byte_of_mem {s t : State} (h : t.mem = s.mem) (a : Nat) : t.byte a = s.byte a := by
  simp [byte, h]

/-- Contexts are read from the stream part alone. -/
theorem ctx_of_strm {s t : State} (h : t.strm = s.strm) (c : Nat) : t.ctx c = s.ctx c := by
  simp [ctx, h]

theorem setB_eq (s : State) (f : Fld) (b : Bool) : s.setB f b = s.set f (b2n b) := rfl
theorem bump_eq (s : State) (f : Fld) : s.bump f = s.set f (min (s.get f + 1) (2 ^ f.w - 1)) := rfl
theorem bumpWrap_eq (s : State) (f : Fld) : s.bumpWrap f = s.set f (s.get f + 1) := rfl
theorem addSat_eq (s : State) (f : Fld) (n : Nat) : s.addSat f n = s.set f (min (s.get f + n) (2 ^ f.w - 1)) := rfl
theorem seti_eq (s : State) (f : Fld) (i : Int) : s.seti f i = s.set f (ofSigned f.w i) := rfl

/-- A store of a field changes nothing but the register part. -/
theorem set_only_regs (s : State) (f : Fld) (v : Nat) : s.set f v = { s with regs := (s.set f v).regs } := rfl

/-! Bytes. -/

/-- A byte reads the value written. -/
@[simp] theorem byte_setByte_self (s : State) (a : Nat) (b : Byte) : (s.setByte a b).byte a = b := by
  simp [setByte, byte]

/-- A byte write leaves every other byte. -/
theorem byte_setByte_ne (s : State) {a i : Nat} (b : Byte) (h : a ≠ i) : (s.setByte a b).byte i = s.byte i := by
  simp only [setByte, byte]
  exact Map.get_set_ne _ _ _ _ h

/-- A run of bytes leaves every byte below it. -/
theorem byte_setBytes_below (s : State) (a : Nat) (bs : List Byte) {i : Nat} (h : i < a) :
    (s.setBytes a bs).byte i = s.byte i := by
  induction bs generalizing s a with
  | nil => rfl
  | cons b bs ih =>
    rw [setBytes, ih _ _ (by omega), byte_setByte_ne _ _ (by omega)]

/-- A run of bytes leaves every byte outside it. -/
theorem byte_setBytes_outside (s : State) (a : Nat) (bs : List Byte) {i : Nat} (h : i < a ∨ a + bs.length ≤ i) :
    (s.setBytes a bs).byte i = s.byte i := by
  induction bs generalizing s a with
  | nil => rfl
  | cons b bs ih =>
    simp only [List.length_cons] at h
    rw [setBytes, ih _ _ (by omega), byte_setByte_ne _ _ (by omega)]

/-- The bytes of a run read what was written. -/
theorem byte_setBytes_inside (s : State) (a : Nat) (bs : List Byte) {k : Nat} (h : k < bs.length) :
    (s.setBytes a bs).byte (a + k) = bs[k] := by
  induction bs generalizing s a k with
  | nil => simp at h
  | cons b bs ih =>
    rw [setBytes]
    cases k with
    | zero => rw [Nat.add_zero, byte_setBytes_below _ _ _ (by omega)]; simp
    | succ k =>
      have := ih (s.setByte a b) (a + 1) (k := k) (by simpa using h)
      rw [show a + (k + 1) = a + 1 + k by omega, this]; simp

/-! Contexts. -/

/-- A context reads what was stored. -/
@[simp] theorem ctx_setCtx_self (s : State) (c : Nat) (x : Ctx) : (s.setCtx c x).ctx c = x := by
  simp [setCtx, ctx]

/-- Storing a context leaves every other context. -/
theorem ctx_setCtx_ne (s : State) {c d : Nat} (x : Ctx) (h : c ≠ d) : (s.setCtx c x).ctx d = s.ctx d := by
  simp only [setCtx, ctx]
  exact Map.get_set_ne _ _ _ _ h

/-- Storing a context changes the contexts alone within the stream part. -/
theorem setCtx_strm (s : State) (c : Nat) (x : Ctx) :
    (s.setCtx c x).strm = { s.strm with ctxs := (s.setCtx c x).strm.ctxs } := rfl

/-! Slots and engines. -/

@[simp] theorem slot_setSlot_self (s : State) (k : Nat) (x : Slot) : (s.setSlot k x).slot k = x := by
  simp [setSlot, slot]

theorem slot_setSlot_ne (s : State) {k l : Nat} (x : Slot) (h : k ≠ l) : (s.setSlot k x).slot l = s.slot l := by
  simp only [setSlot, slot]
  exact Map.get_set_ne _ _ _ _ h

@[simp] theorem engine_setEngine_self (s : State) (n : Nat) (x : Eng) : (s.setEngine n x).engine n = x := by
  simp [setEngine, engine]

theorem engine_setEngine_ne (s : State) {n m : Nat} (x : Eng) (h : n ≠ m) :
    (s.setEngine n x).engine m = s.engine m := by
  simp only [setEngine, engine]
  exact Map.get_set_ne _ _ _ _ h

end State

/-! The canonical form of the memory. -/

/-- The memory after reset is in its canonical form. -/
theorem State.memWf_reset : State.reset.memWf = true := rfl

/-- A byte write keeps the canonical form. -/
theorem State.memWf_setByte (s : State) (a : Nat) (b : Byte) (h : s.memWf = true) : (s.setByte a b).memWf = true :=
  Map.wf_set memDefault s.mem a b h

/-- A run of byte writes keeps the canonical form. -/
theorem State.memWf_setBytes (s : State) (a : Nat) (bs : List Byte) (h : s.memWf = true) :
    (s.setBytes a bs).memWf = true := by
  induction bs generalizing s a with
  | nil => exact h
  | cons b bs ih => exact ih _ _ (State.memWf_setByte s a b h)

/-- A word write keeps the canonical form. -/
theorem State.memWf_setWord (s : State) (a w : Nat) (h : s.memWf = true) : (s.setWord a w).memWf = true :=
  State.memWf_setBytes s a _ h

/-- Dropping a range keeps the canonical form. -/
theorem State.memWf_clearBytes (s : State) (lo hi : Nat) (h : s.memWf = true) : (s.clearBytes lo hi).memWf = true :=
  Map.wf_keep memDefault (fun a => !(decide (lo ≤ a) && decide (a < hi))) s.mem h

/-- What leaves the memory leaves its form. -/
theorem State.memWf_of_mem {s t : State} (e : t.mem = s.mem) (h : s.memWf = true) : t.memWf = true := by
  simpa [State.memWf, e] using h

/-- Dropping all but some bytes keeps the canonical form. -/
theorem State.memWf_keep {s t : State} (p : Nat → Bool) (e : t.mem = Map.keep p s.mem) (h : s.memWf = true) :
    t.memWf = true := by
  simp only [State.memWf, Memory.wf, e]
  exact Map.wf_keep memDefault p s.mem h

end Sys2Proof.Machine
end

