-- ==== Sys2Proof/Laws/Arb.lean ====
section
/-! SUPPORT. What an accepted register write does, said once for every row that is a register write. -/
namespace Sys2Proof.Laws
open Sys2Proof Sys2Proof.Machine Sys2Proof.Safety

/-- The note of a CTL outcome touches no field but its own. -/
theorem note_get (s : State) (cmd : Nat) (w : Bool) (res reason : Nat) (g : Fld)
    (h : ∀ f ∈ outcomeFields, f.key ≠ g.key) : (Cbus.note s cmd w res reason).get g = s.get g := by
  simp only [outcomeFields, List.forall_mem_cons] at h
  obtain ⟨h1, h2, h3, h4, h5, -⟩ := h
  unfold Cbus.note
  split
  · rfl
  · split
    · rw [State.get_set_ne _ _ h3, State.get_set_ne _ _ h2, State.get_set_ne _ _ h1]
    · split
      · rw [State.bumpWrap_eq, State.get_set_ne _ _ h4, State.get_set_ne _ _ h3, State.get_set_ne _ _ h2,
          State.get_set_ne _ _ h1]
      · rw [State.bumpWrap_eq, State.get_set_ne _ _ h5, State.get_set_ne _ _ h3, State.get_set_ne _ _ h2,
          State.get_set_ne _ _ h1]

/-- The note of a CTL outcome changes the register part alone. -/
theorem note_regs (s : State) (cmd : Nat) (w : Bool) (res reason : Nat) :
    Cbus.note s cmd w res reason = { s with regs := (Cbus.note s cmd w res reason).regs } := by
  unfold Cbus.note
  split
  · rfl
  · split
    · rfl
    · split <;> rfl

/-- A field that no record of an outcome touches reads in the recorded state as before. -/
theorem recorded_get (u : State) (src : Src) (cmd : Nat) (g : Fld) (h : ∀ f ∈ outcomeFields, f.key ≠ g.key) :
    (recorded u src cmd).get g = u.get g := by
  unfold recorded Arb.answer
  split
  · exact note_get u cmd true _ _ g h
  · rfl

/-- What recording an outcome leaves: every part but the registers and the answers. -/
theorem recorded_parts (u : State) (src : Src) (cmd : Nat) :
    recorded u src cmd = { u with regs := (recorded u src cmd).regs, acc := withAnswers u (recorded u src cmd) } := by
  unfold recorded Arb.answer
  split
  · rw [note_regs]; rfl
  · rfl

/-- What a read leaves of a field that no record of an outcome touches. -/
theorem readOut_get (u : State) (src : Src) (cmd : Nat) (bs : List Byte) (g : Fld)
    (h : ∀ f ∈ outcomeFields, f.key ≠ g.key) : (readOut u src cmd bs).get g = u.get g := by
  unfold readOut Arb.answer
  split
  · exact note_get u cmd false _ _ g h
  · rfl

/-- A packet that goes straight to the registers finds nothing held. -/
theorem ready_held {s : State} {src : Src} {p : Packet} (h : Ready s src p) : s.acc.held = [] := by
  have := h.2.1
  simp only [Arb.holds, Bool.or_eq_false_iff, bne_eq_false_iff_eq] at this
  exact this.1

/-- No FULL reset follows a packet that has not asked for one. -/
theorem acted_of (u : State) (h : u.on R.SYS_CTRL_FULLRST = false) : Arb.acted u = u := by simp [Arb.acted, h]

/-- The record of a write's outcome asks for no FULL reset. -/
theorem acted_recorded (u : State) (src : Src) (cmd : Nat) (h : u.on R.SYS_CTRL_FULLRST = false) :
    Arb.acted (recorded u src cmd) = recorded u src cmd := by
  apply acted_of
  simpa [State.on, recorded_get u src cmd R.SYS_CTRL_FULLRST (by decide)] using h

/-- The record of a read's outcome asks for no FULL reset. -/
theorem acted_readOut (u : State) (src : Src) (cmd : Nat) (bs : List Byte) (h : u.on R.SYS_CTRL_FULLRST = false) :
    Arb.acted (readOut u src cmd bs) = readOut u src cmd bs := by
  apply acted_of
  simpa [State.on, readOut_get u src cmd bs R.SYS_CTRL_FULLRST (by decide)] using h

/-- A read without PEC is answered as it is. -/
@[simp] theorem withPec_none (s : State) (p : Packet) (r : Reply) : Arb.withPec s .none p r = r := by
  cases r <;> rfl

/-- The run of a packet of CTL that goes straight to the registers and carries no PEC. -/
theorem run_ctl {s : State} {p : Packet} (h : Ready s .ctl p) :
    Arb.run s .ctl .none p = Arb.ctlDone (Arb.applyPacket s .ctl p) .none p
      (if (Arb.applyPacket s .ctl p).rej.isSome then Cbus.REJECTED else Cbus.APPLIED) := by
  have h2 := ready_held h
  obtain ⟨h1, h3, -, h6⟩ := h
  obtain ⟨h7, h8⟩ := h6 rfl
  have low : ¬ (s.lowPower = true ∧ (!Arb.lowCmd p) = true) := by
    rintro ⟨hl, hn⟩; simp [h8 hl] at hn
  simp only [Arb.run, Arb.runCtl, h1, h2, h7, h3, low, List.any_nil, Bool.not_true, Bool.false_eq_true, if_false,
    and_false, false_and, Arb.pecOk]
  split <;> rfl

/-- The run of a packet of another source that goes straight to the registers. -/
theorem run_other {s : State} {src : Src} {p : Packet} (hs : src ≠ .ctl) (h : Ready s src p) :
    Arb.run s src .none p = Arb.acted (Arb.answer (match (Arb.applyPacket s src p).rej with
      | some (r, a) => Arb.countRej (Arb.applyPacket s src p).st src r a
      | none => (Arb.applyPacket s src p).st) src (Arb.applyPacket s src p).reply) := by
  obtain ⟨h1, h3, -, -⟩ := h
  cases src <;> first | exact absurd rfl hs | (simp only [Arb.run, Arb.runOther, h1, h3]; rfl)

/-- An applied write packet is recorded (R36, R39, R44). -/
theorem run_applied {s u : State} {src : Src} {p : Packet} (h : Ready s src p) (hw : Arb.isWrite p = true)
    (ap : Arb.applyPacket s src p = ⟨u, .applied, none, 0⟩) (hf : u.on R.SYS_CTRL_FULLRST = false) :
    Arb.run s src .none p = recorded u src (Arb.codeOf p) := by
  have fin := acted_recorded u src (Arb.codeOf p) hf
  by_cases hs : src = .ctl
  · subst hs
    rw [run_ctl h, ap]
    simpa [Arb.ctlDone, recorded, Arb.cmdByte, hw] using fin
  · rw [run_other hs h, ap]
    simpa [recorded, hs] using fin

/-- A served read answers its bytes (R33, R39). -/
theorem run_data {s u : State} {src : Src} {p : Packet} {bs : List Byte} (h : Ready s src p)
    (hw : Arb.isWrite p = false) (ap : Arb.applyPacket s src p = ⟨u, .data bs, none, 0⟩)
    (hf : u.on R.SYS_CTRL_FULLRST = false) : Arb.run s src .none p = readOut u src (Arb.codeOf p) bs := by
  have fin := acted_readOut u src (Arb.codeOf p) bs hf
  by_cases hs : src = .ctl
  · subst hs
    rw [run_ctl h, ap]
    simpa [Arb.ctlDone, readOut, Arb.cmdByte, hw] using fin
  · rw [run_other hs h, ap]
    simpa [readOut, hs] using fin

/-- A rejected packet is counted, recorded and answered (R38, R39). -/
theorem run_rejected {s : State} {src : Src} {p : Packet} {r a : Nat} (h : Ready s src p)
    (ap : Arb.applyPacket s src p = ⟨s, .rejected r a, some (r, a), 0⟩) :
    Arb.run s src .none p = if src = .ctl then Arb.ctlRejected s .none p Cbus.REJECTED r a
      else Arb.acted (Arb.answer (Arb.countRej s src r a) src (.rejected r a)) := by
  by_cases hs : src = .ctl
  · subst hs
    rw [run_ctl h, ap]
    simp [Arb.ctlDone]
  · rw [run_other hs h, ap]
    simp [hs]

/-- An accepted register write acts as the write of its word, and is recorded (R36, R39, R44). -/
theorem write_accepted (s : State) (src : Src) (a d : Nat) (ha : a < 2 ^ 24) (hd : d < 2 ^ 32)
    (h : Accepted s src a d) (hf : (Arb.writeOne s src a d).on R.SYS_CTRL_FULLRST = false) :
    Arb.write s src a d = recorded (Arb.writeOne s src a d) src 1 := by
  obtain ⟨h, h5⟩ := h
  have e1 : (BitVec.ofNat 24 a).toNat = a := by rw [BitVec.toNat_ofNat]; exact Nat.mod_eq_of_lt ha
  have e2 : (BitVec.ofNat 32 d).toNat = d := by rw [BitVec.toNat_ofNat]; exact Nat.mod_eq_of_lt hd
  exact run_applied h rfl (by simp only [Arb.applyPacket, Arb.applyWrites, Arb.wordsOf, e1, e2, Arb.runWords, h5]) hf

/-- A write with some bits set and some cleared is the write of the word so changed. -/
theorem modify_eq (s : State) (src : Src) (a set clear : Nat) :
    Arb.modify s src a set clear = Arb.write s src a (modified s a set clear) := by
  unfold Arb.modify modified
  cases locate a <;> rfl

/-- A write of one field is the write of its register's word with the field changed. -/
theorem writeField_eq (s : State) (src : Src) (f : Fld) (v : Nat) :
    Arb.writeField s src f v = Arb.write s src f.addr (withField s f v) := modify_eq _ _ _ _ _

end Sys2Proof.Laws
end

