-- ==== Sys2Proof/WellFormed.lean ====
section
/-! DEFINITION. Which operands a command can carry: what no controller, no link and no converter could present is
ill-formed.  A command the device rejects (a bad length, a reserved address) is well-formed. -/
namespace Sys2Proof

/-- The LEN of a packet is one byte on the control bus and at most 65,535 elsewhere (R33, R378). -/
def lenOk (src : Src) (n : Nat) : Bool :=
  match src with
  | .ctl => decide (n ≤ 255)
  | _ => decide (n ≤ 65535)

/-- A PEC stands on control-bus commands alone (R382). -/
def pecOn (src : Src) (pec : Pec) : Bool :=
  match src with
  | .ctl => true
  | _ => pec == .none

/-- The operands of a packet (R33, R378, R383). -/
def Packet.wf (src : Src) : Packet → Bool
  | .writeBlock _ bs | .fifoWrite _ bs => lenOk src bs.length
  | .readBlock _ n => lenOk src n
  | .fifoRead _ n taken => lenOk src n && decide (taken ≤ n)
  | .rzForward _ bs => lenOk src bs.length
  | .fwdResult _ n => lenOk src n
  | _ => true

/-- A cell carries at most 50 payload bytes (R328). -/
def Cell.wf (c : Cell) : Bool := decide (c.payload.length ≤ 50)

/-- A frame carries at most 5 cells and names a slot once (R316, R328). -/
def RzFrame.wf (f : RzFrame) : Bool :=
  decide (f.cells.length ≤ 5) && f.cells.all (fun c => c.cell.wf) && decide ((f.slots.map (fun e => e.1)).Nodup)

/-- No output port is written twice (R179). -/
def portsOnce (outs : List (Byte × List (List Sample))) : Bool := decide ((outs.map (fun e => e.1)).Nodup)

/-- The operands of a command are ones the outside can present. -/
def Instr.wf : Instr → Bool
  | .writeWord src pec a d => pecOn src pec && (Packet.writeWord a d).wf src
  | .readWord src pec a => pecOn src pec && (Packet.readWord a).wf src
  | .writeBlock src pec a bs => pecOn src pec && (Packet.writeBlock a bs).wf src
  | .readBlock src pec a n => pecOn src pec && (Packet.readBlock a n).wf src
  | .commit src pec m => pecOn src pec && (Packet.commit m).wf src
  | .readStatus src pec => pecOn src pec
  | .fifoWrite src pec a bs => pecOn src pec && (Packet.fifoWrite a bs).wf src
  | .fifoRead src pec a n t => pecOn src pec && (Packet.fifoRead a n t).wf src
  | .ping src pec => pecOn src pec
  | .rzForward src pec d bs => pecOn src pec && (Packet.rzForward d bs).wf src
  | .fwdResult src pec o n => pecOn src pec && (Packet.fwdResult o n).wf src
  | .registerServiceCall _ p => p.wf .eng
  | .blockBoundary rs => decide ((rs.map (fun e => e.1)).Nodup)
  | .taskComplete _ status o => decide (status < 2 ^ 32) && portsOnce o.ports && decide (o.scratch.length ≤ 49152)
  | .senseSample vi _ => vi.length == 4
  | .usbOutPacket _ bs => decide (bs.length ≤ 1024)
  | .frameReceive _ f => f.wf
  | .claimCell c | .grantCell c | .refuseCell c | .releaseCell c | .mapreqCell c | .cmdCell c | .resultCell c
  | .errorCell c | .eventCell c | .resetCell c | .bkannCell c => c.wf
  | .auxTransferEnd _ _ _ rx | .auxTimeout _ rx => decide (rx.length ≤ 256)
  | .injectedRequest amp jack => amp || jack
  | _ => true

/-- The PEC of a command: none but on the packets of a source (R377, R382). -/
def Instr.pec : Instr → Pec
  | .writeWord _ pec _ _ | .readWord _ pec _ | .writeBlock _ pec _ _ | .readBlock _ pec _ _ | .commit _ pec _
  | .readStatus _ pec | .fifoWrite _ pec _ _ | .fifoRead _ pec _ _ _ | .ping _ pec | .rzForward _ pec _ _
  | .fwdResult _ pec _ _ => pec
  | _ => .none

/-- The source that a packet carries (R33). -/
def Instr.packetSrc : Instr → Option Src
  | .writeWord src _ _ _ | .readWord src _ _ | .writeBlock src _ _ _ | .readBlock src _ _ _ | .commit src _ _
  | .readStatus src _ | .fifoWrite src _ _ _ | .fifoRead src _ _ _ _ | .ping src _ | .rzForward src _ _ _
  | .fwdResult src _ _ _ => some src
  | _ => none

end Sys2Proof
end

