-- ==== Sys2Proof/Laws/PerInstr.lean ====
section
/-! SUPPORT. Statements for every command, one lemma for each constructor: a PEC stands on control-bus packets alone
(R382). -/
namespace Sys2Proof.Laws

/-- A well-formed command with a PEC is a packet of the control bus. -/
def PecOnCtl.Statement (i : Instr) : Prop :=
  i.wf = true → ∀ b, i.pec = .byte b → i.packetSrc = some .ctl

/-- A PEC that is allowed stands on the control bus. -/
theorem src_of_pecOn {src : Src} {pec : Pec} {b : Byte} (h : pecOn src pec = true) (hb : pec = .byte b) :
    some src = some Src.ctl := by
  subst hb
  cases src
  · rfl
  all_goals cases h

/-- What the check of a packet with a PEC gives, when a second check stands beside it. -/
theorem src_of_pecOn_and {src : Src} {pec : Pec} {b : Byte} {q : Bool} (h : (pecOn src pec && q) = true)
    (hb : pec = .byte b) : some src = some Src.ctl := by
  cases hp : pecOn src pec
  · rw [hp] at h; cases h
  · exact src_of_pecOn hp hb

theorem PecOnCtl.writeWord (src : Src) (pec : Pec) (addr : Addr) (data : Word) :
    PecOnCtl.Statement (.writeWord src pec addr data) :=
  fun h _ hb => src_of_pecOn_and h hb
theorem PecOnCtl.readWord (src : Src) (pec : Pec) (addr : Addr) :
    PecOnCtl.Statement (.readWord src pec addr) :=
  fun h _ hb => src_of_pecOn_and h hb
theorem PecOnCtl.writeBlock (src : Src) (pec : Pec) (addr : Addr) (data : List Byte) :
    PecOnCtl.Statement (.writeBlock src pec addr data) :=
  fun h _ hb => src_of_pecOn_and h hb
theorem PecOnCtl.readBlock (src : Src) (pec : Pec) (addr : Addr) (len : Nat) :
    PecOnCtl.Statement (.readBlock src pec addr len) :=
  fun h _ hb => src_of_pecOn_and h hb
theorem PecOnCtl.commit (src : Src) (pec : Pec) (mask : BitVec 8) :
    PecOnCtl.Statement (.commit src pec mask) :=
  fun h _ hb => src_of_pecOn_and h hb
theorem PecOnCtl.readStatus (src : Src) (pec : Pec) :
    PecOnCtl.Statement (.readStatus src pec) :=
  fun h _ hb => src_of_pecOn h hb
theorem PecOnCtl.fifoWrite (src : Src) (pec : Pec) (addr : Addr) (data : List Byte) :
    PecOnCtl.Statement (.fifoWrite src pec addr data) :=
  fun h _ hb => src_of_pecOn_and h hb
theorem PecOnCtl.fifoRead (src : Src) (pec : Pec) (addr : Addr) (len : Nat) (taken : Nat) :
    PecOnCtl.Statement (.fifoRead src pec addr len taken) :=
  fun h _ hb => src_of_pecOn_and h hb
theorem PecOnCtl.ping (src : Src) (pec : Pec) :
    PecOnCtl.Statement (.ping src pec) :=
  fun h _ hb => src_of_pecOn h hb
theorem PecOnCtl.rzForward (src : Src) (pec : Pec) (dst : BitVec 16) (enclosed : List Byte) :
    PecOnCtl.Statement (.rzForward src pec dst enclosed) :=
  fun h _ hb => src_of_pecOn_and h hb
theorem PecOnCtl.fwdResult (src : Src) (pec : Pec) (off : BitVec 16) (len : Nat) :
    PecOnCtl.Statement (.fwdResult src pec off len) :=
  fun h _ hb => src_of_pecOn_and h hb
theorem PecOnCtl.registerWrite (src : Src) (addr : Addr) (data : Word) :
    PecOnCtl.Statement (.registerWrite src addr data) :=
  fun _ _ hb => nomatch hb
theorem PecOnCtl.blkReset (src : Src) (page : Byte) :
    PecOnCtl.Statement (.blkReset src page) :=
  fun _ _ hb => nomatch hb
theorem PecOnCtl.blockBoundary (ratios : List (Byte × Word × Int)) :
    PecOnCtl.Statement (.blockBoundary ratios) :=
  fun _ _ hb => nomatch hb
theorem PecOnCtl.arm (src : Src) (ctx : Byte) :
    PecOnCtl.Statement (.arm src ctx) :=
  fun _ _ hb => nomatch hb
theorem PecOnCtl.start (src : Src) (ctx : Byte) :
    PecOnCtl.Statement (.start src ctx) :=
  fun _ _ hb => nomatch hb
theorem PecOnCtl.stop (src : Src) (ctx : Byte) :
    PecOnCtl.Statement (.stop src ctx) :=
  fun _ _ hb => nomatch hb
theorem PecOnCtl.drain (src : Src) (ctx : Byte) :
    PecOnCtl.Statement (.drain src ctx) :=
  fun _ _ hb => nomatch hb
theorem PecOnCtl.release (src : Src) (ctx : Byte) :
    PecOnCtl.Statement (.release src ctx) :=
  fun _ _ hb => nomatch hb
theorem PecOnCtl.frameArrival (ctx : Byte) (frame : List Sample) (clip : Bool) :
    PecOnCtl.Statement (.frameArrival ctx frame clip) :=
  fun _ _ hb => nomatch hb
theorem PecOnCtl.frameDue (due : List Byte) (tick : Bool) :
    PecOnCtl.Statement (.frameDue due tick) :=
  fun _ _ hb => nomatch hb
theorem PecOnCtl.zcTimeout (ctx : Byte) (ch : Byte) :
    PecOnCtl.Statement (.zcTimeout ctx ch) :=
  fun _ _ hb => nomatch hb
theorem PecOnCtl.clockTrailEnd (port : Fin 6) :
    PecOnCtl.Statement (.clockTrailEnd port) :=
  fun _ _ hb => nomatch hb
theorem PecOnCtl.framePeriodError (port : Fin 6) :
    PecOnCtl.Statement (.framePeriodError port) :=
  fun _ _ hb => nomatch hb
theorem PecOnCtl.stallDetect (port : Fin 6) (loss : Bool) :
    PecOnCtl.Statement (.stallDetect port loss) :=
  fun _ _ hb => nomatch hb
theorem PecOnCtl.rateMeasureDone (port : Fin 6) (rate : Nat) :
    PecOnCtl.Statement (.rateMeasureDone port rate) :=
  fun _ _ hb => nomatch hb
theorem PecOnCtl.asrcLock (ctx : Byte) (ratio : Word) :
    PecOnCtl.Statement (.asrcLock ctx ratio) :=
  fun _ _ hb => nomatch hb
theorem PecOnCtl.asrcRangeExit (ctx : Byte) :
    PecOnCtl.Statement (.asrcRangeExit ctx) :=
  fun _ _ hb => nomatch hb
theorem PecOnCtl.grpStartatWrite (src : Src) (hi : Bool) (data : Word) :
    PecOnCtl.Statement (.grpStartatWrite src hi data) :=
  fun _ _ hb => nomatch hb
theorem PecOnCtl.activityLoss (ref : Fin 12) :
    PecOnCtl.Statement (.activityLoss ref) :=
  fun _ _ hb => nomatch hb
theorem PecOnCtl.frequencyGateEnd (ref : Fin 12) (off : Int) :
    PecOnCtl.Statement (.frequencyGateEnd ref off) :=
  fun _ _ hb => nomatch hb
theorem PecOnCtl.wtrExpire (ref : Fin 12) :
    PecOnCtl.Statement (.wtrExpire ref) :=
  fun _ _ hb => nomatch hb
theorem PecOnCtl.selectionEvaluation (phase : Int) :
    PecOnCtl.Statement (.selectionEvaluation phase) :=
  fun _ _ hb => nomatch hb
theorem PecOnCtl.lockAchieved :
    PecOnCtl.Statement .lockAchieved :=
  fun _ _ hb => nomatch hb
theorem PecOnCtl.apllLock (b : Bool) :
    PecOnCtl.Statement (.apllLock b) :=
  fun _ _ hb => nomatch hb
theorem PecOnCtl.apllUnlock (b : Bool) :
    PecOnCtl.Statement (.apllUnlock b) :=
  fun _ _ hb => nomatch hb
theorem PecOnCtl.holdoverHistoryUpdate :
    PecOnCtl.Statement .holdoverHistoryUpdate :=
  fun _ _ hb => nomatch hb
theorem PecOnCtl.holdoverCorrection :
    PecOnCtl.Statement .holdoverCorrection :=
  fun _ _ hb => nomatch hb
theorem PecOnCtl.temperatureStale :
    PecOnCtl.Statement .temperatureStale :=
  fun _ _ hb => nomatch hb
theorem PecOnCtl.testEnter (src : Src) :
    PecOnCtl.Statement (.testEnter src) :=
  fun _ _ hb => nomatch hb
theorem PecOnCtl.testExit (src : Src) :
    PecOnCtl.Statement (.testExit src) :=
  fun _ _ hb => nomatch hb
theorem PecOnCtl.nominalChange (ref : Fin 12) :
    PecOnCtl.Statement (.nominalChange ref) :=
  fun _ _ hb => nomatch hb
theorem PecOnCtl.mxtRefillDone :
    PecOnCtl.Statement .mxtRefillDone :=
  fun _ _ hb => nomatch hb
theorem PecOnCtl.crosspointZcTimeout (entry : BitVec 14) :
    PecOnCtl.Statement (.crosspointZcTimeout entry) :=
  fun _ _ hb => nomatch hb
theorem PecOnCtl.crosspointRampEnd (entry : BitVec 14) :
    PecOnCtl.Statement (.crosspointRampEnd entry) :=
  fun _ _ hb => nomatch hb
theorem PecOnCtl.gload (src : Src) (data : Word) :
    PecOnCtl.Statement (.gload src data) :=
  fun _ _ hb => nomatch hb
theorem PecOnCtl.admissionDone :
    PecOnCtl.Statement .admissionDone :=
  fun _ _ hb => nomatch hb
theorem PecOnCtl.gswitch (src : Src) (mask : BitVec 4) :
    PecOnCtl.Statement (.gswitch src mask) :=
  fun _ _ hb => nomatch hb
theorem PecOnCtl.taskDispatch (eng : Fin 16) :
    PecOnCtl.Statement (.taskDispatch eng) :=
  fun _ _ hb => nomatch hb
theorem PecOnCtl.taskComplete (eng : Fin 16) (status : Nat) (out : TaskOut) :
    PecOnCtl.Statement (.taskComplete eng status out) :=
  fun _ _ hb => nomatch hb
theorem PecOnCtl.registerServiceCall (eng : Fin 16) (packet : Packet) :
    PecOnCtl.Statement (.registerServiceCall eng packet) :=
  fun _ _ hb => nomatch hb
theorem PecOnCtl.sagTrip (vdd33 : Bool) (inside : Bool) :
    PecOnCtl.Statement (.sagTrip vdd33 inside) :=
  fun _ _ hb => nomatch hb
theorem PecOnCtl.droopStepUp :
    PecOnCtl.Statement .droopStepUp :=
  fun _ _ hb => nomatch hb
theorem PecOnCtl.thallusDoubleBitError (addr : BitVec 22) (slot : Option (Fin 4)) :
    PecOnCtl.Statement (.thallusDoubleBitError addr slot) :=
  fun _ _ hb => nomatch hb
theorem PecOnCtl.scrubPass :
    PecOnCtl.Statement .scrubPass :=
  fun _ _ hb => nomatch hb
theorem PecOnCtl.engineEnable (src : Src) (eng : Fin 16) :
    PecOnCtl.Statement (.engineEnable src eng) :=
  fun _ _ hb => nomatch hb
theorem PecOnCtl.engineDisable (src : Src) (eng : Fin 16) :
    PecOnCtl.Statement (.engineDisable src eng) :=
  fun _ _ hb => nomatch hb
theorem PecOnCtl.selftestDone (eng : Fin 16) (pass : Bool) :
    PecOnCtl.Statement (.selftestDone eng pass) :=
  fun _ _ hb => nomatch hb
theorem PecOnCtl.engineQuarantine (eng : Fin 16) (dmem : Bool) :
    PecOnCtl.Statement (.engineQuarantine eng dmem) :=
  fun _ _ hb => nomatch hb
theorem PecOnCtl.taskWatchdog (eng : Fin 16) (cycles : Nat) :
    PecOnCtl.Statement (.taskWatchdog eng cycles) :=
  fun _ _ hb => nomatch hb
theorem PecOnCtl.engRelease (src : Src) (eng : Fin 16) :
    PecOnCtl.Statement (.engRelease src eng) :=
  fun _ _ hb => nomatch hb
theorem PecOnCtl.roll (src : Src) (carry : Bool) :
    PecOnCtl.Statement (.roll src carry) :=
  fun _ _ hb => nomatch hb
theorem PecOnCtl.rollSetCheckDone :
    PecOnCtl.Statement .rollSetCheckDone :=
  fun _ _ hb => nomatch hb
theorem PecOnCtl.reloadDone (eng : Fin 16) (ok : Bool) :
    PecOnCtl.Statement (.reloadDone eng ok) :=
  fun _ _ hb => nomatch hb
theorem PecOnCtl.hwmuteChange (high : Bool) :
    PecOnCtl.Statement (.hwmuteChange high) :=
  fun _ _ hb => nomatch hb
theorem PecOnCtl.peatZeroed :
    PecOnCtl.Statement .peatZeroed :=
  fun _ _ hb => nomatch hb
theorem PecOnCtl.micStartSequence :
    PecOnCtl.Statement .micStartSequence :=
  fun _ _ hb => nomatch hb
theorem PecOnCtl.vddwaitEnd :
    PecOnCtl.Statement .vddwaitEnd :=
  fun _ _ hb => nomatch hb
theorem PecOnCtl.settled (clocks : BitVec 4) :
    PecOnCtl.Statement (.settled clocks) :=
  fun _ _ hb => nomatch hb
theorem PecOnCtl.micvddOvercurrent :
    PecOnCtl.Statement .micvddOvercurrent :=
  fun _ _ hb => nomatch hb
theorem PecOnCtl.liveProbeEnd :
    PecOnCtl.Statement .liveProbeEnd :=
  fun _ _ hb => nomatch hb
theorem PecOnCtl.reprobe :
    PecOnCtl.Statement .reprobe :=
  fun _ _ hb => nomatch hb
theorem PecOnCtl.peatFrame (xs : List Sample) :
    PecOnCtl.Statement (.peatFrame xs) :=
  fun _ _ hb => nomatch hb
theorem PecOnCtl.sporeHop (conf : Byte) (onset : Option (BitVec 64)) :
    PecOnCtl.Statement (.sporeHop conf onset) :=
  fun _ _ hb => nomatch hb
theorem PecOnCtl.fhdHop (conf : Byte) :
    PecOnCtl.Statement (.fhdHop conf) :=
  fun _ _ hb => nomatch hb
theorem PecOnCtl.fhdwinExpire :
    PecOnCtl.Statement .fhdwinExpire :=
  fun _ _ hb => nomatch hb
theorem PecOnCtl.vwinExpire :
    PecOnCtl.Statement .vwinExpire :=
  fun _ _ hb => nomatch hb
theorem PecOnCtl.verdictAccept (src : Src) :
    PecOnCtl.Statement (.verdictAccept src) :=
  fun _ _ hb => nomatch hb
theorem PecOnCtl.verdictReject (src : Src) :
    PecOnCtl.Statement (.verdictReject src) :=
  fun _ _ hb => nomatch hb
theorem PecOnCtl.wakeEnable (src : Src) :
    PecOnCtl.Statement (.wakeEnable src) :=
  fun _ _ hb => nomatch hb
theorem PecOnCtl.wakeDisable (src : Src) :
    PecOnCtl.Statement (.wakeDisable src) :=
  fun _ _ hb => nomatch hb
theorem PecOnCtl.wakeSequencerStep :
    PecOnCtl.Statement .wakeSequencerStep :=
  fun _ _ hb => nomatch hb
theorem PecOnCtl.wakeDeferExpire :
    PecOnCtl.Statement .wakeDeferExpire :=
  fun _ _ hb => nomatch hb
theorem PecOnCtl.candidateExpired :
    PecOnCtl.Statement .candidateExpired :=
  fun _ _ hb => nomatch hb
theorem PecOnCtl.modelLoadStart (src : Src) :
    PecOnCtl.Statement (.modelLoadStart src) :=
  fun _ _ hb => nomatch hb
theorem PecOnCtl.catchupTransfer (ctx : Byte) (n : Nat) :
    PecOnCtl.Statement (.catchupTransfer ctx n) :=
  fun _ _ hb => nomatch hb
theorem PecOnCtl.pgaZcTimeout (input : Fin 4) :
    PecOnCtl.Statement (.pgaZcTimeout input) :=
  fun _ _ hb => nomatch hb
theorem PecOnCtl.micbiasOvercurrent (n : Fin 2) :
    PecOnCtl.Statement (.micbiasOvercurrent n) :=
  fun _ _ hb => nomatch hb
theorem PecOnCtl.outputStart (out : Fin 3) :
    PecOnCtl.Statement (.outputStart out) :=
  fun _ _ hb => nomatch hb
theorem PecOnCtl.chargePumpReady :
    PecOnCtl.Statement .chargePumpReady :=
  fun _ _ hb => nomatch hb
theorem PecOnCtl.servoDone (out : Fin 3) (left : Nat) (right : Nat) :
    PecOnCtl.Statement (.servoDone out left right) :=
  fun _ _ hb => nomatch hb
theorem PecOnCtl.outputStop (out : Fin 3) :
    PecOnCtl.Statement (.outputStop out) :=
  fun _ _ hb => nomatch hb
theorem PecOnCtl.outputOvercurrent (out : Fin 3) :
    PecOnCtl.Statement (.outputOvercurrent out) :=
  fun _ _ hb => nomatch hb
theorem PecOnCtl.hpDetChange (high : Bool) :
    PecOnCtl.Statement (.hpDetChange high) :=
  fun _ _ hb => nomatch hb
theorem PecOnCtl.jackDebounceEnd :
    PecOnCtl.Statement .jackDebounceEnd :=
  fun _ _ hb => nomatch hb
theorem PecOnCtl.jackPendingResume :
    PecOnCtl.Statement .jackPendingResume :=
  fun _ _ hb => nomatch hb
theorem PecOnCtl.typeMeasurementDone (uv : Nat) :
    PecOnCtl.Statement (.typeMeasurementDone uv) :=
  fun _ _ hb => nomatch hb
theorem PecOnCtl.impedanceMeasurementDone (uv : Nat) :
    PecOnCtl.Statement (.impedanceMeasurementDone uv) :=
  fun _ _ hb => nomatch hb
theorem PecOnCtl.buttonPress (uv : Nat) :
    PecOnCtl.Statement (.buttonPress uv) :=
  fun _ _ hb => nomatch hb
theorem PecOnCtl.buttonRelease :
    PecOnCtl.Statement .buttonRelease :=
  fun _ _ hb => nomatch hb
theorem PecOnCtl.btnmuteEnd :
    PecOnCtl.Statement .btnmuteEnd :=
  fun _ _ hb => nomatch hb
theorem PecOnCtl.listenButtonPress :
    PecOnCtl.Statement .listenButtonPress :=
  fun _ _ hb => nomatch hb
theorem PecOnCtl.ampStart (ch : Fin 4) :
    PecOnCtl.Statement (.ampStart ch) :=
  fun _ _ hb => nomatch hb
theorem PecOnCtl.bootstrapDone (ch : Fin 4) :
    PecOnCtl.Statement (.bootstrapDone ch) :=
  fun _ _ hb => nomatch hb
theorem PecOnCtl.ampStop (ch : Fin 4) :
    PecOnCtl.Statement (.ampStop ch) :=
  fun _ _ hb => nomatch hb
theorem PecOnCtl.ampOvercurrent (ch : Fin 4) :
    PecOnCtl.Statement (.ampOvercurrent ch) :=
  fun _ _ hb => nomatch hb
theorem PecOnCtl.retryTimerExpire (ch : Fin 4) :
    PecOnCtl.Statement (.retryTimerExpire ch) :=
  fun _ _ hb => nomatch hb
theorem PecOnCtl.loadTestDone (ch : Fin 4) (termP termN lichUv senseUv senseUa : Int) :
    PecOnCtl.Statement (.loadTestDone ch termP termN lichUv senseUv senseUa) :=
  fun _ _ hb => nomatch hb
theorem PecOnCtl.clrflt (src : Src) (ch : Fin 4) :
    PecOnCtl.Statement (.clrflt src ch) :=
  fun _ _ hb => nomatch hb
theorem PecOnCtl.triesClean (ch : Fin 4) :
    PecOnCtl.Statement (.triesClean ch) :=
  fun _ _ hb => nomatch hb
theorem PecOnCtl.dcOffsetDetect (ch : Fin 4) :
    PecOnCtl.Statement (.dcOffsetDetect ch) :=
  fun _ _ hb => nomatch hb
theorem PecOnCtl.pvddFault (level : Nat) :
    PecOnCtl.Statement (.pvddFault level) :=
  fun _ _ hb => nomatch hb
theorem PecOnCtl.dieTemperatureThreshold (t : Int) :
    PecOnCtl.Statement (.dieTemperatureThreshold t) :=
  fun _ _ hb => nomatch hb
theorem PecOnCtl.thermalModelStep :
    PecOnCtl.Statement .thermalModelStep :=
  fun _ _ hb => nomatch hb
theorem PecOnCtl.reWindowEnd (ch : Fin 4) (uv : Nat) (ua : Nat) :
    PecOnCtl.Statement (.reWindowEnd ch uv ua) :=
  fun _ _ hb => nomatch hb
theorem PecOnCtl.ntcStale (k : Fin 2) :
    PecOnCtl.Statement (.ntcStale k) :=
  fun _ _ hb => nomatch hb
theorem PecOnCtl.senseSample (vi : List (BitVec 16 × BitVec 16)) (pvdd : Nat) :
    PecOnCtl.Statement (.senseSample vi pvdd) :=
  fun _ _ hb => nomatch hb
theorem PecOnCtl.apply (src : Src) :
    PecOnCtl.Statement (.apply src) :=
  fun _ _ hb => nomatch hb
theorem PecOnCtl.vbusChange (present : Bool) :
    PecOnCtl.Statement (.vbusChange present) :=
  fun _ _ hb => nomatch hb
theorem PecOnCtl.busReset (high : Bool) :
    PecOnCtl.Statement (.busReset high) :=
  fun _ _ hb => nomatch hb
theorem PecOnCtl.setConfiguration (configured : Bool) :
    PecOnCtl.Statement (.setConfiguration configured) :=
  fun _ _ hb => nomatch hb
theorem PecOnCtl.setInterface (isIn : Bool) (setting : Nat) :
    PecOnCtl.Statement (.setInterface isIn setting) :=
  fun _ _ hb => nomatch hb
theorem PecOnCtl.setCurSampleFrequency (hz : Word) :
    PecOnCtl.Statement (.setCurSampleFrequency hz) :=
  fun _ _ hb => nomatch hb
theorem PecOnCtl.setCurClockSelector (pin : Nat) :
    PecOnCtl.Statement (.setCurClockSelector pin) :=
  fun _ _ hb => nomatch hb
theorem PecOnCtl.setCurFeatureUnit (unit21 : Bool) (ch : BitVec 6) (mute : Bool) (value : BitVec 16) :
    PecOnCtl.Statement (.setCurFeatureUnit unit21 ch mute value) :=
  fun _ _ hb => nomatch hb
theorem PecOnCtl.getCur (ctl : UsbCtl) :
    PecOnCtl.Statement (.getCur ctl) :=
  fun _ _ hb => nomatch hb
theorem PecOnCtl.getRange (ctl : UsbCtl) :
    PecOnCtl.Statement (.getRange ctl) :=
  fun _ _ hb => nomatch hb
theorem PecOnCtl.usbOutPacket (good : Bool) (data : List Byte) :
    PecOnCtl.Statement (.usbOutPacket good data) :=
  fun _ _ hb => nomatch hb
theorem PecOnCtl.usbInPacket (more : Bool) :
    PecOnCtl.Statement (.usbInPacket more) :=
  fun _ _ hb => nomatch hb
theorem PecOnCtl.feedbackUpdate (m : Nat) :
    PecOnCtl.Statement (.feedbackUpdate m) :=
  fun _ _ hb => nomatch hb
theorem PecOnCtl.clockValidityChange (k : Fin 8) :
    PecOnCtl.Statement (.clockValidityChange k) :=
  fun _ _ hb => nomatch hb
theorem PecOnCtl.suspend :
    PecOnCtl.Statement .suspend :=
  fun _ _ hb => nomatch hb
theorem PecOnCtl.resume :
    PecOnCtl.Statement .resume :=
  fun _ _ hb => nomatch hb
theorem PecOnCtl.lpmTransaction (rwake : Bool) :
    PecOnCtl.Statement (.lpmTransaction rwake) :=
  fun _ _ hb => nomatch hb
theorem PecOnCtl.l1Exit :
    PecOnCtl.Statement .l1Exit :=
  fun _ _ hb => nomatch hb
theorem PecOnCtl.rwake :
    PecOnCtl.Statement .rwake :=
  fun _ _ hb => nomatch hb
theorem PecOnCtl.hidInputReport (phoneMute : Bool) :
    PecOnCtl.Statement (.hidInputReport phoneMute) :=
  fun _ _ hb => nomatch hb
theorem PecOnCtl.hidOutputReport (report : Byte) :
    PecOnCtl.Statement (.hidOutputReport report) :=
  fun _ _ hb => nomatch hb
theorem PecOnCtl.unknownRequest :
    PecOnCtl.Statement .unknownRequest :=
  fun _ _ hb => nomatch hb
theorem PecOnCtl.frameReceive (portB : Bool) (frame : RzFrame) :
    PecOnCtl.Statement (.frameReceive portB frame) :=
  fun _ _ hb => nomatch hb
theorem PecOnCtl.masterFrameEmit :
    PecOnCtl.Statement .masterFrameEmit :=
  fun _ _ hb => nomatch hb
theorem PecOnCtl.portSwap :
    PecOnCtl.Statement .portSwap :=
  fun _ _ hb => nomatch hb
theorem PecOnCtl.echoMeasurement (portB : Bool) (trip : BitVec 24) :
    PecOnCtl.Statement (.echoMeasurement portB trip) :=
  fun _ _ hb => nomatch hb
theorem PecOnCtl.circMeasured :
    PecOnCtl.Statement .circMeasured :=
  fun _ _ hb => nomatch hb
theorem PecOnCtl.repres (src : Src) :
    PecOnCtl.Statement (.repres src) :=
  fun _ _ hb => nomatch hb
theorem PecOnCtl.rreset (src : Src) (dst : BitVec 10) :
    PecOnCtl.Statement (.rreset src dst) :=
  fun _ _ hb => nomatch hb
theorem PecOnCtl.cresync (src : Src) :
    PecOnCtl.Statement (.cresync src) :=
  fun _ _ hb => nomatch hb
theorem PecOnCtl.claim (src : Src) (slot : BitVec 9) :
    PecOnCtl.Statement (.claim src slot) :=
  fun _ _ hb => nomatch hb
theorem PecOnCtl.slotRelease (src : Src) (slot : BitVec 9) :
    PecOnCtl.Statement (.slotRelease src slot) :=
  fun _ _ hb => nomatch hb
theorem PecOnCtl.claimTimeout :
    PecOnCtl.Statement .claimTimeout :=
  fun _ _ hb => nomatch hb
theorem PecOnCtl.claimCell (cell : Cell) :
    PecOnCtl.Statement (.claimCell cell) :=
  fun _ _ hb => nomatch hb
theorem PecOnCtl.grantCell (cell : Cell) :
    PecOnCtl.Statement (.grantCell cell) :=
  fun _ _ hb => nomatch hb
theorem PecOnCtl.refuseCell (cell : Cell) :
    PecOnCtl.Statement (.refuseCell cell) :=
  fun _ _ hb => nomatch hb
theorem PecOnCtl.releaseCell (cell : Cell) :
    PecOnCtl.Statement (.releaseCell cell) :=
  fun _ _ hb => nomatch hb
theorem PecOnCtl.mapreqCell (cell : Cell) :
    PecOnCtl.Statement (.mapreqCell cell) :=
  fun _ _ hb => nomatch hb
theorem PecOnCtl.cmdCell (cell : Cell) :
    PecOnCtl.Statement (.cmdCell cell) :=
  fun _ _ hb => nomatch hb
theorem PecOnCtl.resultCell (cell : Cell) :
    PecOnCtl.Statement (.resultCell cell) :=
  fun _ _ hb => nomatch hb
theorem PecOnCtl.errorCell (cell : Cell) :
    PecOnCtl.Statement (.errorCell cell) :=
  fun _ _ hb => nomatch hb
theorem PecOnCtl.eventCell (cell : Cell) :
    PecOnCtl.Statement (.eventCell cell) :=
  fun _ _ hb => nomatch hb
theorem PecOnCtl.resetCell (cell : Cell) :
    PecOnCtl.Statement (.resetCell cell) :=
  fun _ _ hb => nomatch hb
theorem PecOnCtl.bkannCell (cell : Cell) :
    PecOnCtl.Statement (.bkannCell cell) :=
  fun _ _ hb => nomatch hb
theorem PecOnCtl.bkannRepeat :
    PecOnCtl.Statement .bkannRepeat :=
  fun _ _ hb => nomatch hb
theorem PecOnCtl.backupRecordTimeout :
    PecOnCtl.Statement .backupRecordTimeout :=
  fun _ _ hb => nomatch hb
theorem PecOnCtl.reassemblyTimeout (from' : BitVec 10) (tag : Byte) :
    PecOnCtl.Statement (.reassemblyTimeout from' tag) :=
  fun _ _ hb => nomatch hb
theorem PecOnCtl.forwardNoAnswer (of : Src) :
    PecOnCtl.Statement (.forwardNoAnswer of) :=
  fun _ _ hb => nomatch hb
theorem PecOnCtl.cellResend (portB : Bool) (lseq : Byte) :
    PecOnCtl.Statement (.cellResend portB lseq) :=
  fun _ _ hb => nomatch hb
theorem PecOnCtl.masterLossFailover :
    PecOnCtl.Statement .masterLossFailover :=
  fun _ _ hb => nomatch hb
theorem PecOnCtl.masterListenEnd :
    PecOnCtl.Statement .masterListenEnd :=
  fun _ _ hb => nomatch hb
theorem PecOnCtl.rhizomeStall :
    PecOnCtl.Statement .rhizomeStall :=
  fun _ _ hb => nomatch hb
theorem PecOnCtl.regularPassStart (onB : Bool) :
    PecOnCtl.Statement (.regularPassStart onB) :=
  fun _ _ hb => nomatch hb
theorem PecOnCtl.regularEntryEnd (onB : Bool) (sum : Nat) :
    PecOnCtl.Statement (.regularEntryEnd onB sum) :=
  fun _ _ hb => nomatch hb
theorem PecOnCtl.injectedRequest (amp : Bool) (jack : Bool) :
    PecOnCtl.Statement (.injectedRequest amp jack) :=
  fun _ _ hb => nomatch hb
theorem PecOnCtl.injectedTimerTick :
    PecOnCtl.Statement .injectedTimerTick :=
  fun _ _ hb => nomatch hb
theorem PecOnCtl.injswGo (src : Src) :
    PecOnCtl.Statement (.injswGo src) :=
  fun _ _ hb => nomatch hb
theorem PecOnCtl.injectedEntryEnd (onB : Bool) (sum : Nat) :
    PecOnCtl.Statement (.injectedEntryEnd onB sum) :=
  fun _ _ hb => nomatch hb
theorem PecOnCtl.plausibilityDue :
    PecOnCtl.Statement .plausibilityDue :=
  fun _ _ hb => nomatch hb
theorem PecOnCtl.plausibilityCheckEnd (sumA : Nat) (sumB : Nat) :
    PecOnCtl.Statement (.plausibilityCheckEnd sumA sumB) :=
  fun _ _ hb => nomatch hb
theorem PecOnCtl.cal (src : Src) :
    PecOnCtl.Statement (.cal src) :=
  fun _ _ hb => nomatch hb
theorem PecOnCtl.calibrationStart :
    PecOnCtl.Statement .calibrationStart :=
  fun _ _ hb => nomatch hb
theorem PecOnCtl.calibrationDone :
    PecOnCtl.Statement .calibrationDone :=
  fun _ _ hb => nomatch hb
theorem PecOnCtl.cdacInputWrite (src : Src) (n : Fin 8) (data : Word) :
    PecOnCtl.Statement (.cdacInputWrite src n data) :=
  fun _ _ hb => nomatch hb
theorem PecOnCtl.load (src : Src) (mask : Byte) :
    PecOnCtl.Statement (.load src mask) :=
  fun _ _ hb => nomatch hb
theorem PecOnCtl.loadNEdge :
    PecOnCtl.Statement .loadNEdge :=
  fun _ _ hb => nomatch hb
theorem PecOnCtl.ptArm (src : Src) :
    PecOnCtl.Statement (.ptArm src) :=
  fun _ _ hb => nomatch hb
theorem PecOnCtl.disarm (src : Src) :
    PecOnCtl.Statement (.disarm src) :=
  fun _ _ hb => nomatch hb
theorem PecOnCtl.presentationTimeLoad :
    PecOnCtl.Statement .presentationTimeLoad :=
  fun _ _ hb => nomatch hb
theorem PecOnCtl.slewTick (n : Fin 8) :
    PecOnCtl.Statement (.slewTick n) :=
  fun _ _ hb => nomatch hb
theorem PecOnCtl.streamSubsampleLoad (ctx : Byte) (j : Nat) :
    PecOnCtl.Statement (.streamSubsampleLoad ctx j) :=
  fun _ _ hb => nomatch hb
theorem PecOnCtl.safeCauseChange :
    PecOnCtl.Statement .safeCauseChange :=
  fun _ _ hb => nomatch hb
theorem PecOnCtl.safeclr (src : Src) :
    PecOnCtl.Statement (.safeclr src) :=
  fun _ _ hb => nomatch hb
theorem PecOnCtl.supervisionFault (n : Fin 8) (stands : Bool) :
    PecOnCtl.Statement (.supervisionFault n stands) :=
  fun _ _ hb => nomatch hb
theorem PecOnCtl.ctlStart (edge : CtlEdge) (cut : Option CtlCut) :
    PecOnCtl.Statement (.ctlStart edge cut) :=
  fun _ _ hb => nomatch hb
theorem PecOnCtl.ctlTimeout (cut : Option CtlCut) :
    PecOnCtl.Statement (.ctlTimeout cut) :=
  fun _ _ hb => nomatch hb
theorem PecOnCtl.addressProbeEnd :
    PecOnCtl.Statement .addressProbeEnd :=
  fun _ _ hb => nomatch hb
theorem PecOnCtl.addressProbeStart :
    PecOnCtl.Statement .addressProbeStart :=
  fun _ _ hb => nomatch hb
theorem PecOnCtl.alertResponse :
    PecOnCtl.Statement .alertResponse :=
  fun _ _ hb => nomatch hb
theorem PecOnCtl.auxGo (src : Src) :
    PecOnCtl.Statement (.auxGo src) :=
  fun _ _ hb => nomatch hb
theorem PecOnCtl.auxTransferEnd (result : BitVec 3) (nackPos : Byte) (pulses : Bool) (rx : List Byte) :
    PecOnCtl.Statement (.auxTransferEnd result nackPos pulses rx) :=
  fun _ _ hb => nomatch hb
theorem PecOnCtl.arbitrationLost (pulses : Bool) :
    PecOnCtl.Statement (.arbitrationLost pulses) :=
  fun _ _ hb => nomatch hb
theorem PecOnCtl.auxBackoffEnd :
    PecOnCtl.Statement .auxBackoffEnd :=
  fun _ _ hb => nomatch hb
theorem PecOnCtl.auxTimeout (pulses : Bool) (rx : List Byte) :
    PecOnCtl.Statement (.auxTimeout pulses rx) :=
  fun _ _ hb => nomatch hb
theorem PecOnCtl.abort (src : Src) :
    PecOnCtl.Statement (.abort src) :=
  fun _ _ hb => nomatch hb
theorem PecOnCtl.modeRequest (src : Src) (mode : BitVec 3) :
    PecOnCtl.Statement (.modeRequest src mode) :=
  fun _ _ hb => nomatch hb
theorem PecOnCtl.heldRequestTaken :
    PecOnCtl.Statement .heldRequestTaken :=
  fun _ _ hb => nomatch hb
theorem PecOnCtl.moveToLowPower :
    PecOnCtl.Statement .moveToLowPower :=
  fun _ _ hb => nomatch hb
theorem PecOnCtl.draintoExpire :
    PecOnCtl.Statement .draintoExpire :=
  fun _ _ hb => nomatch hb
theorem PecOnCtl.moveToIdle :
    PecOnCtl.Statement .moveToIdle :=
  fun _ _ hb => nomatch hb
theorem PecOnCtl.islandMove :
    PecOnCtl.Statement .islandMove :=
  fun _ _ hb => nomatch hb
theorem PecOnCtl.pathPrepared :
    PecOnCtl.Statement .pathPrepared :=
  fun _ _ hb => nomatch hb
theorem PecOnCtl.pwrdn :
    PecOnCtl.Statement .pwrdn :=
  fun _ _ hb => nomatch hb
theorem PecOnCtl.por (straps : Straps) :
    PecOnCtl.Statement (.por straps) :=
  fun _ _ hb => nomatch hb
theorem PecOnCtl.supplyLoss :
    PecOnCtl.Statement .supplyLoss :=
  fun _ _ hb => nomatch hb
theorem PecOnCtl.pinReset (straps : Straps) :
    PecOnCtl.Statement (.pinReset straps) :=
  fun _ _ hb => nomatch hb
theorem PecOnCtl.fullrst (src : Src) :
    PecOnCtl.Statement (.fullrst src) :=
  fun _ _ hb => nomatch hb
theorem PecOnCtl.arbiterStall :
    PecOnCtl.Statement .arbiterStall :=
  fun _ _ hb => nomatch hb
theorem PecOnCtl.bootDone :
    PecOnCtl.Statement .bootDone :=
  fun _ _ hb => nomatch hb
theorem PecOnCtl.graphSectionLoad :
    PecOnCtl.Statement .graphSectionLoad :=
  fun _ _ hb => nomatch hb
theorem PecOnCtl.erase (src : Src) :
    PecOnCtl.Statement (.erase src) :=
  fun _ _ hb => nomatch hb
theorem PecOnCtl.flush (src : Src) :
    PecOnCtl.Statement (.flush src) :=
  fun _ _ hb => nomatch hb
theorem PecOnCtl.verify (src : Src) :
    PecOnCtl.Statement (.verify src) :=
  fun _ _ hb => nomatch hb
theorem PecOnCtl.copy (src : Src) :
    PecOnCtl.Statement (.copy src) :=
  fun _ _ hb => nomatch hb
theorem PecOnCtl.nvmOperationDone (ok : Bool) :
    PecOnCtl.Statement (.nvmOperationDone ok) :=
  fun _ _ hb => nomatch hb
theorem PecOnCtl.lineProgram :
    PecOnCtl.Statement .lineProgram :=
  fun _ _ hb => nomatch hb
theorem PecOnCtl.gpioEdge (pin : Fin 8) (high : Bool) :
    PecOnCtl.Statement (.gpioEdge pin high) :=
  fun _ _ hb => nomatch hb
theorem PecOnCtl.set (src : Src) (mask : Byte) :
    PecOnCtl.Statement (.set src mask) :=
  fun _ _ hb => nomatch hb
theorem PecOnCtl.clr (src : Src) (mask : Byte) :
    PecOnCtl.Statement (.clr src mask) :=
  fun _ _ hb => nomatch hb
theorem PecOnCtl.timebaseTick :
    PecOnCtl.Statement .timebaseTick :=
  fun _ _ hb => nomatch hb
theorem PecOnCtl.ref10HoldExpire :
    PecOnCtl.Statement .ref10HoldExpire :=
  fun _ _ hb => nomatch hb
theorem PecOnCtl.lowPowerCrystalStartup :
    PecOnCtl.Statement .lowPowerCrystalStartup :=
  fun _ _ hb => nomatch hb
theorem PecOnCtl.addressConflict (sdaLow : Bool) :
    PecOnCtl.Statement (.addressConflict sdaLow) :=
  fun _ _ hb => nomatch hb
theorem PecOnCtl.setAddress (address : BitVec 7) :
    PecOnCtl.Statement (.setAddress address) :=
  fun _ _ hb => nomatch hb
theorem PecOnCtl.setFeature (enable : Bool) :
    PecOnCtl.Statement (.setFeature enable) :=
  fun _ _ hb => nomatch hb

end Sys2Proof.Laws
end

