-- ==== Sys2Proof/Tests/Slice0.lean ====
section
/-! SUPPORT. Tests of single steps, an ill-formed command for each check of `Instr.wf`, and for the statements with
hypotheses the states that meet them.  Expected results come from the rules named beside each test. -/
namespace Sys2Proof.Tests
set_option Elab.async false
open Sys2Proof Sys2Proof.Machine Sys2Proof.Safety

/-- The state after the boot with the register fields of a list set. -/
def st (fs : List (Fld × Nat)) : State :=
  fs.foldl (fun s e => s.set e.1 e.2) { State.reset with pwr := { State.reset.pwr with booting := false } }

/-- The state after a command, reset where it gives none. -/
def after (i : Instr) (s : State) : State :=
  match exec i s with
  | .next t => t
  | _ => State.reset

/-- A context in a state, with two channels, the first waiting for a zero crossing. -/
def ctxIn (x : CtxSt) : Ctx :=
  { Ctx.zero with st := x, chans := [⟨.waitOpen, 3328, none, none, 0⟩, ⟨.opened, 3328, none, none, 0⟩] }

/-- The configuration of a context of two channels. -/
def cfg (c type sink recon group len : Nat) : List (Fld × Nat) :=
  [(R.CTX_EPT_TYPE c, type), (R.CTX_FMT_DIR c, sink), (R.CTX_FMT_RECON c, recon), (R.CTX_FMT_GROUP c, group),
    (R.CTX_BUF_BUFLEN c, len), (R.CTX_FMT_NCH c, 2)]

/-- Context 5 on serial port 0, in a state, holding frames. -/
def port (x : CtxSt) (b : List Frame) : State :=
  b.foldl (fun s f => Strm.hold s 5 f) ((st (cfg 5 1 0 0 127 3)).setCtx 5 (ctxIn x))

/-- What a kernel leaves behind that has written to these output ports alone. -/
def wrote (ports : List (Byte × List (List Sample))) : TaskOut := ⟨ports, [], [], [], (0, 0), 0, 0⟩

/-! Well-formedness: one ill-formed command for each check. -/

theorem test_wf_pec : (Instr.writeWord .usb (.byte 0) 0 0).wf = false ∧ (Instr.writeWord .ctl (.byte 0) 0 0).wf = true := by
  decide
theorem test_wf_pec_status : (Instr.readStatus .eng (.byte 7)).wf = false ∧ (Instr.ping .rz (.byte 7)).wf = false := by decide
theorem test_wf_len : (Instr.readBlock .ctl .none 0x400000 256).wf = false ∧
    (Instr.readBlock .usb .none 0x400000 65536).wf = false ∧ (Instr.readBlock .usb .none 0x400000 65532).wf = true := by decide
theorem test_wf_write_len : (Instr.writeBlock .ctl .none 0x400000 (List.replicate 256 0)).wf = false ∧
    (Instr.fifoWrite .ctl .none 0x6128 (List.replicate 256 0)).wf = false := by decide +kernel
theorem test_wf_forward_len : (Instr.rzForward .ctl .none 5 (List.replicate 256 0)).wf = false ∧
    (Instr.fwdResult .ctl .none 0 256).wf = false := by decide +kernel
theorem test_wf_taken : (Instr.fifoRead .ctl .none 0x612C 4 5).wf = false ∧ (Instr.fifoRead .ctl .none 0x612C 4 4).wf = true := by
  decide
theorem test_wf_service : (Instr.registerServiceCall 0 (.readBlock 0 65536)).wf = false := by decide

/-- A cell with a payload. -/
def cell (pl : List Byte) : Cell := ⟨false, 7, 12, 5, 0, true, 9, pl⟩

theorem test_wf_cell : (Instr.cmdCell (cell (List.replicate 51 0))).wf = false ∧
    (Instr.cmdCell (cell (List.replicate 50 0))).wf = true := by decide +kernel

/-- A frame of domain 5. -/
def frame : RzFrame := ⟨true, false, false, false, 5, 0x123456789A, 77, 9, 3, 0x1000, 20, 0x5555, [], 0, false, false, false, 0, 0, []⟩

theorem test_wf_frame : (Instr.frameReceive true { frame with slots := [(3, 0, false), (3, 1, false)] }).wf = false ∧
    (Instr.frameReceive true { frame with cells := List.replicate 6 ⟨1, true, 0, true, cell []⟩ }).wf = false ∧
    (Instr.frameReceive true frame).wf = true := by decide +kernel
theorem test_wf_boundary : (Instr.blockBoundary [(3, 0, 0), (3, 1, 0)]).wf = false := by decide
theorem test_wf_task : (Instr.taskComplete 0 4294967296 (wrote [])).wf = false ∧
    (Instr.taskComplete 0 0 (wrote [(1, []), (1, [])])).wf = false ∧ (Instr.taskComplete 0 0 (wrote [(1, [])])).wf = true := by
  decide +kernel
theorem test_wf_sense : (Instr.senseSample [(0, 0)] 0).wf = false := by decide
theorem test_wf_usb : (Instr.usbOutPacket true (List.replicate 1025 0)).wf = false ∧
    (Instr.usbOutPacket true (List.replicate 1024 0)).wf = true := by decide +kernel
theorem test_wf_aux : (Instr.auxTransferEnd 1 0 false (List.replicate 257 0)).wf = false ∧
    (Instr.auxTimeout false (List.replicate 257 0)).wf = false := by decide +kernel
theorem test_wf_injected : (Instr.injectedRequest false false).wf = false := by decide

/-! The queue and the table. -/

theorem test_no_word : decodeTableWord 32 0 = none := rfl
theorem test_fetch_unchanged : State.reset.withFetchWord 32 5 = State.reset := rfl
theorem test_idle : step State.reset = .next State.reset := rfl
theorem witness_EmptyQueueIdles : State.reset.pending = [] := rfl

/-! Single steps. -/

/-- SYS.ID reads 0x88320100 (R29, R381). -/
theorem test_read_id : Map.get .none (after (.readWord .ctl .none 0) (st [])).acc.replies 0 = .data [0x00, 0x01, 0x32, 0x88] := by
  decide +kernel
/-- A word of Thallus reads back, lowest byte first (R3, R25). -/
theorem test_write_thallus : (after (.writeWord .usb .none 0x400010 0x01020304) (st [])).bytes 0x400010 4 = [4, 3, 2, 1] := by
  decide +kernel
theorem test_read_thallus : Map.get .none (after (.readBlock .rz .none 0x400010 8)
    (after (.writeBlock .usb .none 0x400010 [1, 2, 3, 4, 5, 6, 7, 8]) (st []))).acc.replies 2 = .data [1, 2, 3, 4, 5, 6, 7, 8] := by
  decide +kernel
/-- An unaligned word is rejected with reason 5, a read-only region with reason 2 (R37). -/
theorem test_reject_unaligned : Map.get .none (after (.writeWord .usb .none 0x400001 7) (st [])).acc.replies 1 =
    .rejected 5 0x400001 := by decide +kernel
theorem test_reject_peat : Map.get .none (after (.writeWord .usb .none 0x800000 7) (st [])).acc.replies 1 =
    .rejected 2 0x800000 := by decide +kernel
/-- A packet that crosses from Thallus into Peat takes no effect (R37). -/
theorem test_reject_whole : (after (.writeBlock .usb .none 0x7FFFFC [1, 2, 3, 4, 5, 6, 7, 8]) (st [])).byte 0x7FFFFC = 0 := by
  decide +kernel
/-- A register word takes effect at once (R44). -/
theorem test_keep : (after (.registerWrite .ctl 0x38 0xDEADBEEF) (st [])).get (R.SYS_KEEP_DATA 2) = 0xDEADBEEF := by decide +kernel
/-- An OWNER value of 0 in bits [3:0] is rejected with reason 4 (R37, R40). -/
theorem test_owner_zero : (after (.registerWrite .ctl 0x14 0xFFFFFFF0) (st [])).get R.SYS_OWNER_CTL = 1 := by decide +kernel
/-- Without SYS.OWNER.USB a write of USB is rejected (R40). -/
theorem test_not_owner : (after (.registerWrite .usb 0x38 5) (st [(R.SYS_OWNER_USB, 0)])).get (R.SYS_KEEP_DATA 2) = 0 := by
  decide +kernel
/-- A wrong PEC leaves the register and counts PECERR (R382). -/
theorem test_bad_pec : (after (.writeWord .ctl (.byte 0) 0x38 0x12345678) (st [])).get (R.SYS_KEEP_DATA 2) = 0 ∧
    (after (.writeWord .ctl (.byte 0) 0x38 0x12345678) (st [])).get R.CBUS_EVCNT_PECERR = 1 := by decide +kernel
/-- A COMMIT takes what is staged and swaps the halves (R42, R148). -/
theorem test_commit : (after (.commit .ctl .none 4) (after (.writeWord .ctl .none 0x200010 5)
    (st [(R.MTX_CGRP_GRP, 2)]))).acc.staged = [] ∧ (after (.commit .ctl .none 4) (after (.writeWord .ctl .none 0x200010 5)
    (st [(R.MTX_CGRP_GRP, 2)]))).mtx.swapDue = true := by decide +kernel
theorem test_fifo : (after (.fifoWrite .ctl .none 0x6128 [9, 8, 7, 6]) (st [])).aux.tx = [9, 8, 7, 6] := by decide +kernel
theorem test_blk_reset : (after (.blkReset .ctl 0x60) (st [(R.CBUS_EVCNT_ABORTS, 7)])).get R.CBUS_EVCNT_ABORTS = 0 := by decide +kernel
theorem test_read_status : Map.get .none (after (.readStatus .ctl .none) (st [])).acc.replies 0 =
    .data [0, 0, 3, 0, 0, 0, 0, 0] := by decide +kernel
/-- ARM is asked for and applied at the boundary (R102, R116). -/
theorem test_start_asked : (after (.start .ctl 5) ((port .armed []).set R.STRM_CTRL_EN 1)).strm.reqs = [(5, .start)] := by decide +kernel
/-- A full buffer drops the frame (R117). -/
theorem test_drop : ((after (.frameArrival 5 [1, 2] false) (port .running [[], [], []])).ctx 5).cdrop = 1 ∧
    ((after (.frameArrival 5 [1, 2] false) (port .running [[], [], []])).ctx 5).cin = 1 := by decide +kernel
/-- An empty one pads (R117). -/
theorem test_pad : ((after (.frameDue [5] false) (port .running [])).ctx 5).cpad = 1 ∧
    ((after (.frameDue [5] false) (port .running [])).ctx 5).cout = 1 := by decide +kernel
theorem test_due : ((after (.frameDue [5] false) (port .running [[3, 4], [5, 6]])).ctx 5).fill = 1 ∧
    Strm.frameAt (after (.frameDue [5] false) (port .running [[3, 4], [5, 6]])) 5 1 = [5, 6] := by decide +kernel
/-- A reference that fails is FAILED and counted (R63). -/
theorem test_activity_loss : Clkm.refState (after (.activityLoss 4) (Clkm.setRefState (st []) 4 Clkm.QUALIFIED)) 4 = Clkm.FAILED ∧
    (after (.activityLoss 4) (Clkm.setRefState (st []) 4 Clkm.QUALIFIED)).get R.CLKM_IFLG_REFFAIL = 1 := by decide +kernel
theorem test_test_enter : Clkm.state (after (.testEnter .ctl) (st [])) = Clkm.TEST := by decide +kernel
/-- A sag steps the engine clock down, to step 3 at most (R184). -/
theorem test_sag : (after (.sagTrip true true) (st [(R.ENG_STAT_CLKSTEP, 2)])).get R.ENG_STAT_CLKSTEP = 3 ∧
    (after (.sagTrip true true) (st [(R.ENG_STAT_CLKSTEP, 3)])).get R.ENG_STAT_CLKSTEP = 3 := by decide +kernel
theorem test_sag_outside : exec (.sagTrip true false) (st []) = .fault .outsideConditions := rfl
/-- The mute switch stops every microphone clock (R202). -/
theorem test_mute : (after (.hwmuteChange false) (st [(R.PDM_STAT_CLKRUN, 15)])).get R.PDM_STAT_CLKRUN = 0 ∧
    (after (.hwmuteChange false) (st [(R.PDM_STAT_CLKRUN, 15)])).get R.PRIV_STAT_MUTED = 1 := by decide +kernel
theorem test_peat_zeroed : (after .peatZeroed { (st []).setByte 0x800010 5 with mic := { (st []).mic with zeroing := true } }).byte
    0x800010 = 0 := by decide +kernel
/-- An overcurrent in RUN goes to SHORT with cause 1 (R278). -/
theorem test_amp_overcurrent : Amp.st (after (.ampOvercurrent 2) (st [(R.AMPG_CTRL_EN, 1), (R.AMP_CTRL_EN 2, 1),
    (R.AMP_STAT_STATE 2, 2)])) 2 = Amp.SHORT := by decide +kernel
/-- PVDD of 4.00 V takes RUN to SUPPLY (R281). -/
theorem test_pvdd : Amp.st (after (.pvddFault 400) (st [(R.AMP_STAT_STATE 2, 2)])) 2 = Amp.SUPPLY := by decide +kernel
theorem test_vbus : Usb.state (after (.vbusChange true) (st [(R.USB_CTRL_EN, 1)])) = 1 := by decide +kernel
theorem test_unknown_request : (after .unknownRequest (st [(R.USB_STAT_STATE, 3)])).usb.reply = .rejected 0 0 := by decide +kernel
theorem test_echo : (after (.echoMeasurement true 2154) (st [(R.RZ_CTRL_EN, 1), (R.RZ_STAT_ROLE, 1)])).get (R.RZ_HOPDLY_DLY 1) = 77 := by
  decide +kernel
theorem test_tick : (after .timebaseTick (st [(R.SYS_TBFRAC_FRAC, 65535)])).get R.SYS_TBDAY_DAY = 1 := by decide +kernel
theorem test_gpio_set : (after (.set .ctl 0x3C) (st [(R.GPIO_OUT_OUT, 0x55)])).get R.GPIO_OUT_OUT = 0x7D := by decide +kernel
theorem test_gpio_clr : (after (.clr .ctl 0x3C) (st [(R.GPIO_OUT_OUT, 0x55)])).get R.GPIO_OUT_OUT = 0x41 := by decide +kernel
theorem test_pwrdn : (after .pwrdn (st [])).mode = 0 := by decide +kernel
/-- A line of 16 bytes goes to erased flash (R415). -/
theorem test_line : (after .lineProgram { st [(R.NVM_CTRL_EN, 1), (R.NVM_STAT_BUSY, 1), (R.NVM_STAT_OP, 2)] with nvm := { (st []).nvm with
    fifo := List.replicate 16 0x5A } }).bytes (Nvm.bankBase (Nvm.target (st [])) + 15) 2 = [0x5A, 0xFF] := by decide +kernel
/-- The slew limiter moves by STEP + 1 in a tick (R360). -/
theorem test_slew : (after (.slewTick 3) { st [(R.CDAC_CTRL_EN, 1), (R.CDAC_CFG_SLEWEN 3, 1), (R.CDAC_CFG_STEP 3, 9),
    (R.CDAC_OUT_CODE 3, 100), (R.CDAC_NOW_VALUE 3, 5)] with cdac := { (st []).cdac with held := false } }).get (R.CDAC_NOW_VALUE 3) = 15 := by
  decide +kernel

/-! Witnesses: states and operands that meet the hypotheses of each statement, clause by clause. -/

theorem witness_MemoryCanonicalKept : ((st []).setByte 0x400000 7).memWf = true ∧
    ∃ t, step ((st []).setByte 0x400000 7) = .next t := ⟨by decide +kernel, _, rfl⟩
theorem witness_ConservationKept : AllConserved State.reset ∧ ∃ t, step State.reset = .next t :=
  ⟨fun _ => show Conserved Ctx.zero from ⟨by decide, by decide⟩, _, rfl⟩
theorem witness_OffIsClosed : (st [(R.SYS_STAT_MODE, 0)]).mode = 0 ∧
    ∃ t, exec .timebaseTick (st [(R.SYS_STAT_MODE, 0)]) = .next t := ⟨by decide +kernel, _, rfl⟩
/-- The lowest and the highest word of Thallus. -/
theorem witness_ThallusWrites : Arb.owns (st []) .usb .eng 0 = true ∧ Ready (st []) .usb (.writeWord 0x400000 5) ∧
    Ready (st []) .usb (.writeWord 0x7FFFFC 5) ∧ Arb.badLen .usb 8 = false ∧
    Ready (st []) .usb (.writeBlock 0x7FFFF8 [1, 2, 3, 4, 5, 6, 7, 8]) := by unfold Ready; decide +kernel
theorem witness_AuxFifos : Arb.badLen .ctl 4 = false ∧ Ready (st []) .ctl (.fifoWrite 0x6128 [1, 2, 3, 4]) ∧
    Arb.owns (st []) .ctl .auxb 0 = true ∧ (st []).aux.tx.length + 4 ≤ 256 ∧ Ready (st []) .ctl (.fifoRead 0x612C 4 4) := by
  unfold Ready; decide +kernel
theorem witness_Reads : (0x7FFFFC : Addr).toNat ∉ (st []).eng.ded ∧ Ready (st []) .rz (.readWord 0x7FFFFC) ∧
    Ready (st []) .rz (.readBlock 0x7FFFF8 8) ∧ Arb.badLen .rz 8 = false ∧ (∀ w ∈ (st []).eng.ded, w < 0x7FFFF8) ∧
    Ready (st []) .rz (.readWord 0) := by unfold Ready; decide +kernel
/-- IDLE, ACTIVE, LISTEN and STANDBY serve a PING; OFF does not. -/
theorem witness_Ping : Ready (st []) .ctl .ping ∧ Ready (st [(R.SYS_STAT_MODE, 1)]) .ctl .ping ∧
    Cbus.hears (st []) = true ∧ (st []).acc.held = [] ∧ (st []).on R.SYS_CTRL_FULLRST = false ∧
    (st []).on R.CBUS_CFG_PECREQ = false ∧ (st []).mode ≠ 0 ∧ (st [(R.SYS_STAT_MODE, 0)]).mode = 0 := by
  unfold Ready; decide +kernel
theorem witness_ReadStatus : Ready (st []) .eng .readStatus := by unfold Ready; decide +kernel
theorem witness_RejectedChangesNothing : Ready (st []) .ctl (.writeWord 0x8 7) ∧ Arb.wordCheck (st []) .ctl true 8 7 = some 2 ∧
    Ready (st []) .usb (.writeBlock 0x7FFFFC [1, 2, 3, 4, 5, 6, 7, 8]) ∧ Arb.badLen .usb 8 = false := by
  unfold Ready; decide +kernel
theorem witness_RejectedChangesNothing_block :
    Arb.runWords (st []) .usb (Arb.wordsOf (.writeBlock 0x7FFFFC [1, 2, 3, 4, 5, 6, 7, 8])) = .bad 2 0x800000 := rfl
/-- The ends of both regions. -/
theorem witness_ReadOnlyRegions : Ready (st []) .rz (.writeWord 0x800000 5) ∧ Ready (st []) .rz (.fifoWrite 0x85FFFC [1, 2, 3, 4]) ∧
    Ready (st []) .rz (.writeBlock 0xA00000 [1, 2, 3, 4]) ∧ Arb.badLen .rz 4 = false := by unfold Ready; decide +kernel
theorem witness_ReadOnlyRegions_reads : Ready (st []) .rz (.readWord 0xB00FFC) ∧ Ready (st []) .rz (.readBlock 0x85FFF8 8) ∧
    Ready (st []) .rz (.readBlock 0xB00FF8 8) ∧ Arb.badLen .rz 8 = false ∧ (st []).lowPower = false := by
  unfold Ready; decide +kernel
theorem witness_OwnerRule : Ready (st []) .ctl (.writeWord 0x14 5) ∧ Arb.owns (st []) .ctl .sys 0 = true := by
  unfold Ready; decide +kernel
theorem witness_ImmediateAndBlockReset : Accepted (st []) .usb (0x30 + 4 * 3) 77 ∧ Accepted (st []) .usb 0x30 77 ∧
    Accepted (st []) .rz 0x6004 (modified (st []) 0x6004 2 0) := by unfold Accepted Ready; decide +kernel
theorem witness_Staging : Accepted (st []) .usb 0x200000 5 ∧ Accepted (st []) .usb 0x205FFC 5 ∧ (st []).acc.staged = [] ∧
    Accepted { st [(R.SCHED_ADMSTAT_STATUS, 2)] with eng := { (st []).eng with cand := some ⟨1, false, false, 0, none, 12, 85⟩ } }
      .ctl 0x1934 2 := by unfold Accepted Ready; decide +kernel

/-- A word staged, the page in group 2. -/
def staged : State := { st [(R.MTX_CGRP_GRP, 2)] with acc := { (st []).acc with
  staged := [⟨0x200010, 0, 5, .usb, true⟩, ⟨0x1934, 0, 2, .usb, true⟩] } }

theorem witness_CommitTakes : Ready staged .ctl (.commit 4) ∧
    (∀ e ∈ Arb.pages, Arb.cgrp staged e.1 e.2 = 2 → Arb.owns staged .ctl e.1 e.2 = true) ∧
    Ready (staged.set R.MTX_OWNER_CTL 0) .ctl (.commit 4) ∧
    (∃ e ∈ Arb.pages, Arb.cgrp (staged.set R.MTX_OWNER_CTL 0) e.1 e.2 = 2 ∧
      Arb.owns (staged.set R.MTX_OWNER_CTL 0) .ctl e.1 e.2 = false) := by unfold Ready; decide +kernel

/-- A member of domain 5 with address 7 (role 1), or its master (role 3). -/
def rz (role : Nat) (fs : List (Fld × Nat)) : State :=
  st ([(R.RZ_CTRL_EN, 1), (R.RZ_STAT_ROLE, role), (R.RZ_STAT_ADDR, 7), (R.RZ_CFG_DOMAIN, 5)] ++ fs)

/-- A packet that a control transfer can carry, and a forward to the last address. -/
theorem witness_Forwarding_setup : (∀ a n k, (Packet.rzForward 1023 [0x0A]) = .fifoRead a n k → k = n) ∧
    (∀ d bs, (Packet.rzForward 1023 [0x0A]) = .rzForward d bs → d.toNat < 1024) ∧
    (∀ o n, (Packet.fwdResult 0 65535) = .fwdResult o n → o = 0) := by
  refine ⟨fun _ _ _ h => (by cases h), fun _ _ h => (by cases h; decide), fun _ _ h => (by cases h; rfl)⟩
theorem witness_Forwarding : Ready (rz 1 []) .usb (.rzForward 1023 [1, 4, 0, 0, 1, 2, 3, 4]) ∧
    (Arb.parse [1, 4, 0, 0, 1, 2, 3, 4]).isSome = true ∧ (rz 1 []).on (R.RZ_FWDCFG_BCAST.win (Src.usb.code + 1)) = false ∧
    (rz 1 []).get R.RZ_STAT_ROLE = 1 ∧ Ready (rz 1 []) .rz (.rzForward 5 [0x0A]) := by unfold Ready; decide +kernel

/-- A forward of CTL done with eight bytes of data. -/
def done : State := { st [(R.RZ_FWDSTAT_DONE.win 1, 1), (R.RZ_FWDSTAT_LEN.win 1, 8)] with
  rz := { (st []).rz with fwd := [(0, ⟨0, false, true, [1, 2, 3, 4, 5, 6, 7, 8]⟩), (1, ⟨0, true, true, []⟩)] } }

theorem witness_Forwarding_results : Ready done .ctl (.fwdResult 4 4) ∧ Arb.badLen .ctl 4 = false ∧
    done.on (R.RZ_FWDSTAT_DONE.win 1) = true ∧ 4 + 4 ≤ done.get (R.RZ_FWDSTAT_LEN.win 1) ∧ 3 ≤ done.mode ∧
    (Map.get ⟨0, false, false, []⟩ done.rz.fwd Src.usb.code).busy = true := by unfold Ready; decide +kernel

theorem witness_ReferenceFails : 3 ≤ (st []).mode ∧
    Clkm.refState (Clkm.setRefState (st []) 1 Clkm.QUALIFIED) 1 = Clkm.QUALIFIED ∧
    Clkm.refState (Clkm.setRefState (st []) 11 Clkm.QUALIFIED) 11 = Clkm.QUALIFIED ∧
    Clkm.refState (Clkm.setRefState (st []) 10 Clkm.WTR) 10 = Clkm.WTR := by decide +kernel
theorem witness_ReferenceFails_hold : Clkm.refState (Clkm.setRefState (rz 1 []) 10 Clkm.QUALIFIED) 10 = Clkm.QUALIFIED ∧
    (Clkm.setRefState (rz 1 []) 10 Clkm.QUALIFIED).on R.RZ_CTRL_EN = true ∧
    (Clkm.setRefState (rz 1 []) 10 Clkm.QUALIFIED).get R.RZ_STAT_ROLE ≠ 0 ∧
    (Rz.upd (rz 1 []) (fun r => { r with ref10Hold := true })).rz.ref10Hold = true := by decide +kernel

/-- Reference 1 enabled, in FAILED. -/
def failed (wtr : Nat) : State := Clkm.setRefState (st [(R.CLKM_CTRL_EN, 1), (R.CLKM_REFCFG_EN 1, 1), (R.CLKM_REFMON_WTR 1, wtr),
  (R.CLKM_REFLIM_ACCEPT 1, 100)]) 1 Clkm.FAILED

theorem witness_ReferenceQualifies : 3 ≤ (failed 0).mode ∧ Clkm.refEnabled (failed 0) 1 = true ∧
    Clkm.refAvailable (failed 0) 1 = true ∧ Clkm.refState (failed 0) 1 = Clkm.FAILED ∧
    (failed 0).get (R.CLKM_REFLIM_ACCEPT 1) = 100 ∧ (failed 0).get (R.CLKM_REFMON_WTR 1) = 0 ∧
    (failed 2).get (R.CLKM_REFMON_WTR 1) ≠ 0 ∧ Clkm.refState (failed 2) 1 = Clkm.FAILED ∧
    Clkm.refEnabled (failed 2) 1 = true ∧ Clkm.refAvailable (failed 2) 1 = true ∧
    Clkm.refState (Clkm.setRefState (st []) 8 Clkm.WTR) 8 = Clkm.WTR := by decide +kernel
theorem witness_ClockManager : (∀ s ∈ [st [(R.CLKM_STAT_STATE, Clkm.LOCKED), (R.CLKM_CTRL_EN, 1), (R.CLKM_SELCFG_MODE, 4)]],
      3 ≤ s.mode ∧ Clkm.state s = Clkm.LOCKED ∧ s.on R.CLKM_CTRL_EN = true ∧ s.get R.CLKM_SELCFG_MODE = 4) ∧
    (∀ s ∈ [st [(R.CLKM_STAT_STATE, Clkm.SWITCHING), (R.CLKM_STAT_SELREF, 0)]],
      Clkm.state s = Clkm.SWITCHING ∧ Clkm.targetOffset s = some (s.geti R.CLKM_DPLLOFF_OFF)) ∧
    (∀ s ∈ [st [(R.CLKM_STAT_STATE, Clkm.FREERUN), (R.PLL_CTRL_EN, 1), (R.PLL_STAT_LOCKB, 1), (R.SYS_SYSCFG_SYSRATE, 1)]],
      Clkm.activeApll s = 0 ∧ s.on R.PLL_CTRL_EN = true ∧ Clkm.state s ≠ Clkm.ACQUIRE ∧ s.on R.PLL_STAT_LOCKB = true) := by
  decide +kernel
theorem witness_ClockManager_b : (∀ s ∈ [st [(R.SYS_SYSCFG_SYSRATE, 2), (R.PLL_STAT_LOCKA, 1)]],
      Clkm.activeApll s = 1 ∧ s.on R.PLL_STAT_LOCKA = true) ∧
    (∀ s ∈ [st [(R.CLKM_STAT_STATE, Clkm.LOCKED), (R.CLKM_STAT_SELREF, 4)]], Clkm.state s = Clkm.LOCKED ∧ Clkm.selRef s = 4 ∧
      s.clkm.history.length < s.get R.CLKM_DPLLCFG_HOLDAVG) ∧
    Clkm.state (st [(R.CLKM_STAT_STATE, Clkm.HOLDOVER)]) = Clkm.HOLDOVER ∧
    (st [(R.CLKM_TREF_TSRC, 1)]).get R.CLKM_TREF_TSRC ≠ 0 := by decide +kernel
theorem witness_TestMode : (st []).get R.CLKM_CTRL_SRST = 0 ∧
    Accepted (st []) .ctl 0x404 (withField (st []) R.CLKM_CTRL_TEST 1) ∧ (st []).on R.CLKM_CTRL_TEST = false ∧
    (∀ s ∈ [st [(R.CLKM_STAT_STATE, Clkm.TEST), (R.CLKM_CTRL_TEST, 1), (R.CLKM_STAT_HOLDVALID, 1)]],
      Accepted s .ctl 0x404 (withField s R.CLKM_CTRL_TEST 0) ∧ Clkm.state s = Clkm.TEST ∧ Clkm.holdValid s = true ∧
      s.get R.CLKM_CTRL_SRST = 0) := by unfold Accepted Ready; decide +kernel

/-- Context 5 in a state, the page enabled. -/
def ctx5 (x : CtxSt) : State :=
  (st ((R.STRM_CTRL_EN, 1) :: cfg 5 1 0 0 127 512 ++ [(R.SAP_FRATE_RATE 0, 768000)])).setCtx 5 (ctxIn x)

theorem witness_StreamRequests : Accepted (ctx5 .idle) .ctl 0x1020 (reqWord 5 .arm) ∧
    Accepted (ctx5 .armed) .ctl 0x1020 (reqWord 5 .start) ∧ Accepted (ctx5 .running) .ctl 0x1020 (reqWord 5 .stop) := by
  unfold Accepted Ready; decide +kernel
theorem witness_StreamRequests_b : Accepted (ctx5 .running) .ctl 0x1020 (reqWord 5 .drain) ∧
    Accepted (ctx5 .armed) .ctl 0x1020 (reqWord 5 .release) := by unfold Accepted Ready; decide +kernel
theorem witness_StreamRequests_refused : Ready (ctx5 .idle) .ctl (.writeWord 0x1020 (BitVec.ofNat 32 (reqWord 5 .start))) ∧
    Arb.owns (ctx5 .idle) .ctl .strm 0 = true ∧ Strm.allowed (Strm.predicted (ctx5 .idle) 5) .start = false := by
  unfold Ready; decide +kernel
theorem witness_FrameArrival : (port .running []).cSink 5 = false ∧ (port .running []).cType 5 = 1 ∧
    ((port .running []).sap ((port .running []).cInst 5)).errRun = 0 ∧ ((port .running []).ctx 5).st = .running ∧
    ((port .running [[], []]).ctx 5).fill + 1 = (port .running []).cBufLen 5 ∧
    Strm.placeAt (port .running [[], []]) 5 2 + 4 * 2 ≤ thallusSize ∧
    (port .running [[], [], []]).cBufLen 5 ≤ ((port .running [[], [], []]).ctx 5).fill ∧
    ((port .idle []).ctx 5).st ≠ .running := by decide +kernel
theorem witness_FramesDue : (port .running []).cSink 5 = false ∧ (port .running []).cRecon 5 ≠ 2 ∧
    64 ≤ (port .running []).cGroup 5 ∧ ((port .running []).ctx 5).st = .running ∧
    Strm.aheadAt (port .running []) 5 (port .running []).sampIdx = none ∧ (port .running []).grp.slips = [] ∧
    (port .running [[1], [2]]).dedIn (Strm.placeAt (port .running [[1], [2]]) 5
      (Strm.oldestPlace (port .running [[1], [2]]) 5)) 8 = [] ∧ 3 ≤ (port .running []).mode := by decide +kernel

/-- Context 5 a TYPE 3 source of slots 40 and 41, PRESD 3, at sample period 5: the slots read for index 2. -/
def slotsAt (slots : FMap SlotRx) : State :=
  let s := (st (cfg 5 3 0 0 127 3 ++ [(R.CTX_EPT_FIRST 5, 40), (R.RZ_PRES_PRESD, 3)])).setCtx 5 (ctxIn .running)
  { s with blk := ⟨0, 5⟩, rz := { s.rz with rx := [(2, ⟨false, slots⟩)] } }

/-- Both samples read in time, one late, one missing. -/
theorem witness_FramesDue_slots : ∀ s ∈ [slotsAt [(40, ⟨7, false⟩), (41, ⟨8, false⟩)], slotsAt [(40, ⟨7, true⟩), (41, ⟨8, false⟩)],
      slotsAt [(41, ⟨8, false⟩)]], s.cType 5 = 3 ∧ s.cSink 5 = false ∧ (s.ctx 5).st = .running ∧ (s.ctx 5).fill = 0 ∧
      s.get R.RZ_PRES_PRESD ≤ s.sampIdx ∧ 0 < s.cBufLen 5 ∧ 64 ≤ s.cGroup 5 ∧
      Strm.aheadAt s 5 s.sampIdx = none ∧ s.grp.slips = [] := by decide +kernel
/-- A frame of slots read in time is counted in IN, one with a late sample in PAD (R322). -/
theorem test_slots : ((after (.frameDue [5] false) (slotsAt [(40, ⟨7, false⟩), (41, ⟨8, false⟩)])).ctx 5).cin = 1 ∧
    ((after (.frameDue [5] false) (slotsAt [(40, ⟨7, false⟩), (41, ⟨8, false⟩)])).ctx 5).last = [7, 8] ∧
    ((after (.frameDue [5] false) (slotsAt [(40, ⟨7, true⟩), (41, ⟨8, false⟩)])).ctx 5).cpad = 1 := by decide +kernel
theorem witness_PortEvents : (port .running []).cType 5 = 1 ∧
    ((port .running []).ctx 5).chans[0]? = some ⟨.waitOpen, 3328, none, none, 0⟩ ∧
    (st [(R.SAP_STAT_CLKRUN 2, 1)]).on (R.SAP_STAT_CLKRUN 2) = true ∧ (st [(R.SAP_STAT_CLKRUN 2, 1)]).ctxNums = [] ∧
    (st []).on (R.SAP_CTRL_MASTER 2) = false ∧ (st []).asrc.steerRunning = false ∧ Strm.portLive (st []) 2 = [] ∧
    (∀ s ∈ [(st (cfg 5 1 0 0 127 3)).setCtx 5 { ctxIn .running with chans := [⟨.opened, 3328, some 100, none, 0⟩] }],
      s.cType 5 = 1 ∧ (s.ctx 5).chans[0]? = some ⟨.opened, 3328, some 100, none, 0⟩) ∧
    Strm.portLive (port .running [[1]]) 0 = [5] ∧ (port .running [[1]]).on (R.SAP_CTRL_MASTER 0) = false ∧
    (port .running [[1]]).asrc.steerRunning = false := by decide +kernel
theorem witness_PortEvents_rate : ∀ s ∈ [(st (cfg 5 1 0 0 127 3 ++ [(R.SAP_FRATE_RATE 0, 768000)])).setCtx 5
      { ctxIn .stalled with cause := 2 }], s.on (R.SAP_CTRL_MASTER 0) = false ∧ s.ctxNums = [5] ∧ Strm.onPort s 0 5 = true ∧
      (s.ctx 5).st = .stalled ∧ (s.ctx 5).cause = 2 ∧
      ((768700 : Nat) - (s.get (R.SAP_FRATE_RATE 0)) : Int).natAbs * 1000 ≤ s.get (R.SAP_FRATE_RATE 0) ∧
      (∀ c ∈ s.ctxNums, Strm.onPort s 1 c = true → (s.ctx c).st ≠ .stalled) := by decide +kernel

/-- Context 5 with a converter. -/
def conv (x : CtxSt) : State := (st (cfg 5 1 0 2 127 3)).setCtx 5 (ctxIn x)

/-- The lowest and the highest ratio. -/
theorem witness_ConvertersAndGroups : (conv .armed).cRecon 5 = 2 ∧ ((conv .armed).ctx 5).st ≠ .idle ∧
    2 ^ 20 ≤ (0x00100000 : Word).toNat ∧ (0x10000000 : Word).toNat ≤ 2 ^ 28 ∧ (conv .running).cRecon 5 = 2 ∧
    ((conv .running).ctx 5).st = .running ∧ (conv .running).asrc.steerRunning = false ∧
    (conv .armed).on (R.SAP_CTRL_MASTER 0) = false ∧ ((conv .armed).set (R.SAP_CTRL_MASTER 0) 1).on (R.SAP_STAT_CLKRUN 0) = false ∧
    ((conv .armed).ctx 5).conv.hold = false ∧
    (∀ s ∈ [(conv .armed).setCtx 5 { ctxIn .armed with conv := { Conv.none with hold := true, locked := true } }],
      (s.ctx 5).conv.hold = true ∧ (s.ctx 5).conv.retune = false ∧ (s.ctx 5).conv.locked = true) ∧
    (conv .running).cType 5 ≠ 4 ∧ Accepted (st []) .usb (0x1240 + 4 * b2n true) 99 ∧ Accepted (st []) .usb (0x1240 + 4 * b2n false) 99 ∧
    Map.get 0 (st []).grp.pend ((st []).get (R.GRP_SEL_GRP.win (Src.usb.code + 1))) = 0 ∧
    (∀ s ∈ [{ st [] with grp := { (st []).grp with pend := [(0, 1)] } }], Accepted s .usb (0x1240 + 4 * b2n true) 99 ∧
      Map.get 0 s.grp.pend (s.get (R.GRP_SEL_GRP.win (Src.usb.code + 1))) = 1) := by unfold Accepted Ready; decide +kernel
theorem witness_BlockBoundary : 3 ≤ (st []).mode ∧ (st []).on R.RZ_STAT_ADOPTWAIT = false ∧
    (∀ s ∈ [{ st [] with acc := { (st []).acc with taken := [⟨0, 0x1450 + 4 * 15, 0, 0xFFFFFFFF⟩] } }],
      s.acc.taken = [⟨0, 0x1450 + 4 * (15 : Fin 16).val, 0, (0xFFFFFFFF : Word).toNat⟩] ∧ s.acc.staged = [] ∧
      s.mtx.swapDue = false) := by decide +kernel
/-- A ramp of no length and one of nine samples. -/
theorem witness_MatrixEvents : (st [(R.MTX_STAT_REFILL, 1)]).on R.MTX_STAT_REFILL = true ∧
    (st [(R.MTX_STAT_REFILL, 1)]).acc.held = [] ∧ (st [(R.MTX_STAT_REFILL, 1)]).acc.staged = [] ∧
    ({ st [] with mtx := { (st []).mtx with chg := [(7, ⟨3, 0, 0, true⟩)] } }).mtx.chg =
      [((7 : BitVec 14).toNat, (⟨3, 0, 0, true⟩ : XChg))] ∧
    ({ st [] with mtx := { (st []).mtx with chg := [(7, ⟨3, 9, 9, false⟩)] } }).mtx.chg =
      [((7 : BitVec 14).toNat, (⟨3, 9, 9, false⟩ : XChg))] := by decide +kernel

/-- A candidate that is checked: a header of zeros at 64, and a well-formed graph at 0. -/
def checking (hdr : Nat) : State :=
  { st [(R.SCHED_ADMSTAT_STATUS, 1)] with eng := { (st []).eng with cand := some ⟨1, false, false, hdr, none, 12, 85⟩ } }

theorem witness_Admission : Accepted (st []) .ctl 0x1924 0x60000040 ∧ Accepted (st []) .ctl 0x1924 0xFFFFFFFF ∧
    (checking 64).nvm.graphs = [] ∧ (checking 64).get R.SCHED_ADMSTAT_STATUS = 1 ∧
    (Sched.validate (checking 64) 1 64 false).isSome = true ∧
    (∀ e ∈ Sched.validate (checking 64) 1 64 false, e.1 ≠ 0 ∧ e.1 < 16 ∧ e.2 < 1024) := by
  unfold Accepted Ready; decide +kernel
theorem witness_Admission_section : ∀ s ∈ [{ st [] with nvm := { (st []).nvm with graphs := [(3, 128, false)] }
                                                        eng := { (st []).eng with set := [⟨256, 0, 0, 0, 0, 0, [], []⟩] } }],
    3 ≤ s.mode ∧ s.nvm.graphs = [(3, 128, false)] ∧ s.pwr.booting = false ∧ s.eng.set ≠ [] ∧ s.nvm.engines = [] ∧
      s.get R.SCHED_ADMSTAT_STATUS ≠ 1 ∧ s.get R.SCHED_GSWITCH_SLOT = 0 ∧ s.acc.taken = [] := by decide +kernel
/-- A graph of one task of kernel 0 with one input and one output buffer, at Thallus offset 0, as the candidate; engine
3 is ACTIVE. -/
def graphAt0 : State :=
  let s := (((((((checking 0).setBytes 0x400000 (wordBytes 0x48524746)).setBytes 0x400004 (wordBytes 1)).setBytes 0x40000C
    (wordBytes 0x20)).setBytes 0x400024 (wordBytes 0x80)).setBytes 0x400028 (wordBytes 0x60)).setBytes 0x40002C
    (wordBytes 0x68)).setBytes 0x400030 (wordBytes 400)
  (((s.setBytes 0x400060 (wordBytes 1 ++ wordBytes 0x100)).setBytes 0x400068 (wordBytes 1 ++ wordBytes 0x100)).set
    (R.ENGN_STAT_STATE 3) Sched.ACTIVE)

theorem witness_Admission_admitted : Sched.validate graphAt0 1 0 false = none ∧
    Sched.verdictOf graphAt0 ⟨1, false, false, 0, some (Sched.readGraph graphAt0 0), 12, 85⟩ = 0 ∧ graphAt0.nvm.graphs = [] ∧
    graphAt0.eng.cand = some ⟨1, false, false, 0, none, 12, 85⟩ ∧ graphAt0.eng.ded = [] ∧ graphAt0.get R.SCHED_ADMSTAT_STATUS = 1 := by decide +kernel
theorem test_admitted : (after .admissionDone graphAt0).get R.SCHED_IFLG_ADMOK = 1 ∧
    (after .admissionDone graphAt0).get R.SCHED_ADMSTAT_STATUS = 2 := by decide +kernel

/-- A task with its output buffers and its state. -/
def taskWith (outs : List BufW) (state : Nat) : TaskD := ⟨0, false, 0, 3, 0, 100, [], outs, [], state, 0, 0⟩

/-- Engine 3 in a state, running a graph of three tasks in slot 1: task 0 plain, task 1 with a state, task 2 with an
intermediate buffer. -/
def eng3 (x : Nat) (e : Eng) : State :=
  ((st [(R.ENGN_STAT_STATE 3, x)]).setEngine 3 e).setSlot 1 { Slot.empty with
    g := some ⟨0, 0x40, 1, 0, [], [taskWith [] 0, taskWith [] 0x800, taskWith [⟨false, 1, 0, 0x200⟩] 0]⟩, busy := true, done := [0] }

theorem witness_Tasks : (∀ s ∈ [eng3 Sched.ACTIVE { Eng.zero with deque := [⟨1, 1, false⟩, ⟨1, 2, false⟩] }], 3 ≤ s.mode ∧
      Sched.engState s 3 = Sched.ACTIVE ∧ (s.engine 3).job = none ∧ (s.engine 3).deque = [⟨1, 1, false⟩, ⟨1, 2, false⟩]) ∧
    (∀ s ∈ [eng3 Sched.ACTIVE { Eng.zero with job := some ⟨1, 1, false⟩ }], (s.engine 3).job = some ⟨1, 1, false⟩ ∧
      (s.engine 3).queue = [] ∧ Sched.engState s 3 = Sched.ACTIVE ∧ (s.slot 1).g.isSome = true ∧
      (Sched.taskOf s 1 1).succs = [] ∧ (s.slot 1).done.length + 1 < 3 ∧ (s.engine 3).deque = [] ∧
      (Sched.taskOf s 1 1).state ≠ 0 ∧ (Sched.taskOf s 1 1).outs = [] ∧ (Sched.taskOf s 1 2).state = 0 ∧
      (Sched.taskOf s 1 2).outs = [⟨false, 1, 0, 0x200⟩]) ∧
    (∀ s ∈ [eng3 Sched.ACTIVE { Eng.zero with job := some ⟨1, 1, false⟩, queue := [.ping, .ping, .ping, .ping] }],
      (s.engine 3).job ≠ none ∧ 4 ≤ (s.engine 3).queue.length) := by decide +kernel
theorem witness_EngineStates : Accepted (eng3 Sched.OFF Eng.zero) .ctl (R.ENGN_CTRL_EN 3).addr
      (withField (eng3 Sched.OFF Eng.zero) (R.ENGN_CTRL_EN 3) 1) ∧ Sched.engState (eng3 Sched.OFF Eng.zero) 3 = Sched.OFF ∧
    (∀ s ∈ [(eng3 Sched.QUARANTINED Eng.zero).set (R.ENGN_CTRL_EN 3) 1],
      Accepted s .ctl (R.ENGN_CTRL_EN 3).addr (withField s (R.ENGN_CTRL_EN 3) 0) ∧
      Accepted s .ctl (R.ENGN_CTRL_RELEASE 3).addr (withField s (R.ENGN_CTRL_RELEASE 3) 1) ∧
      s.on (R.ENGN_CTRL_EN 3) = true ∧ Sched.engState s 3 = Sched.QUARANTINED) := by unfold Accepted Ready; decide +kernel
theorem witness_EngineStates_b : (∀ s ∈ [(eng3 Sched.ACTIVE { Eng.zero with job := some ⟨1, 1, false⟩ }).set (R.ENGN_CTRL_EN 3) 1],
      Accepted s .ctl (R.ENGN_CTRL_EN 3).addr (withField s (R.ENGN_CTRL_EN 3) 0) ∧ s.on (R.ENGN_CTRL_EN 3) = true ∧
      Sched.engState s 3 = Sched.ACTIVE ∧ (s.engine 3).job ≠ none) ∧
    Sched.engState (eng3 Sched.SELFTEST Eng.zero) 3 = Sched.SELFTEST ∧ 3 ≤ (eng3 Sched.SELFTEST Eng.zero).mode := by
  unfold Accepted Ready; decide +kernel
theorem witness_Quarantine : ∀ s ∈ [eng3 Sched.ACTIVE { Eng.zero with job := some ⟨1, 1, false⟩ }], 3 ≤ s.mode ∧
    Sched.engState s 3 = Sched.ACTIVE ∧ (s.engine 3).job = some ⟨1, 1, false⟩ ∧ (s.engine 3).deque = [] ∧
    4 * (Sched.taskOf s 1 1).wcet < 401 := by decide +kernel
theorem witness_RollingUpdate : Accepted (st []) .ctl 0x1824 (0x100 + b2n false) ∧
    (st [(R.ENG_STAT_ROLL, 1)]).get R.ENG_STAT_ROLL = 1 ∧
    Sched.readSet (st [(R.ENG_STAT_ROLL, 1)]) ((st [(R.ENG_STAT_ROLL, 1)]).get R.ENG_KSETBASE_OFF) = none ∧
    Sched.engState (eng3 Sched.UPDATING { Eng.zero with forRoll := true }) 3 = Sched.UPDATING := by
  unfold Accepted Ready; decide +kernel
theorem witness_DroopAndErrors : (st []).get R.ENG_STAT_CLKSTEP < 3 ∧ (st [(R.ENG_STAT_CLKSTEP, 2)]).get R.ENG_STAT_CLKSTEP < 3 ∧
    (st [(R.ENG_STAT_CLKSTEP, 3)]).get R.ENG_STAT_CLKSTEP = 3 ∧ (0x3FFFFC : BitVec 22).toNat % 4 = 0 ∧
    0x400000 + (0x3FFFFC : BitVec 22).toNat ∉ (st []).eng.ded ∧ ((eng3 Sched.ACTIVE Eng.zero).slot 1).busy = true ∧
    (st []).eng.ded = [] ∧ ({ st [] with eng := { (st []).eng with ded := [0x400040] } }).eng.ded = [0x400040] := by decide +kernel

/-- LISTEN, where the wake path needs microphones. -/
def listen (ph : MicPh) (fs : List (Fld × Nat)) : State :=
  { st ((R.SYS_STAT_MODE, 2) :: fs) with mic := { (st []).mic with ph := ph, settling := [0, 9], zeroing := true } }

theorem witness_MuteAndMicrophones : (st []).on R.PRIV_STAT_MUTED = false ∧ (st []).mode ≠ 0 ∧
    (∀ s ∈ [st [(R.PRIV_STAT_MUTED, 1), (R.PRIV_STAT_HWMUTE, 1)]], s.on R.PRIV_STAT_MUTED = true ∧
      s.on R.PRIV_CTRL_SWMUTE = false) ∧ (listen .off []).mic.zeroing = true ∧ Mic.needed (listen .off []) ≠ [] ∧
    (listen .off []).mic.ph = .off ∧ Strm.micsCut (listen .off []) = false ∧
    (listen .off [(R.PRIV_POLICY_LIVEREQ, 1)]).on R.PRIV_POLICY_LIVEREQ = true ∧
    Mic.needed (listen .off [(R.PRIV_POLICY_LIVEREQ, 1)]) ≠ [] ∧ Strm.micsCut (listen .off [(R.PRIV_POLICY_LIVEREQ, 1)]) = false := by
  decide +kernel
theorem witness_MuteAndMicrophones_b : (listen .off []).on R.PRIV_POLICY_LIVEREQ = false ∧
    (listen .off []).on R.PDM_IFLG_MICVDDOC = false ∧ (listen .vddWait []).mic.ph = .vddWait ∧
    Strm.micsCut (listen .vddWait []) = false ∧
    (listen .running []).mic.settling.any (fun m => bit (1 : BitVec 4).toNat (m / 8)) = true ∧
    (listen .running []).get R.WAKE_STAT_STAGE ≠ 4 ∧ (st [(R.PDM_STAT_MICVDDON, 1)]).on R.PDM_STAT_MICVDDON = true ∧
    (st [(R.PRIV_STAT_PROBE, 1)]).on R.PRIV_STAT_PROBE = true ∧ (st [(R.PRIV_STAT_PROBE, 1)]).mic.probeBad = false ∧
    (st [(R.PRIV_STAT_LIVEFLT, 1)]).on R.PRIV_STAT_LIVEFLT = true ∧ (st [(R.PRIV_STAT_LIVEFLT, 1)]).on R.PRIV_STAT_PROBE = false := by
  decide +kernel
theorem witness_WakeStages : 2 ≤ (listen .running []).mode ∧ Mic.wakeCtxs (listen .running []) = [] ∧
    (∀ s ∈ [st [(R.WAKE_STAT_STAGE, 1), (R.FHD_CTRL_EN, 1), (R.FHD_STAT_MODELOK, 1), (R.PEAT_WIDXLO_V, 50000)]],
      s.get R.WAKE_STAT_STAGE = 1 ∧ s.on R.WAKE_STAT_ACCPEND = false ∧ s.get R.WAKE_THR_T1 ≤ (200 : Byte).toNat ∧
      s.on R.FHD_CTRL_EN = true ∧ s.on R.FHD_STAT_MODELOK = true ∧ Mic.oldest s ≤ Mic.widx s) ∧
    (∀ s ∈ [st [(R.WAKE_STAT_STAGE, 2)]], s.get R.WAKE_STAT_STAGE = 2 ∧ (10 : Byte).toNat < s.get R.WAKE_THR_T2 ∧
      s.get R.WAKE_THR_T2 ≤ (255 : Byte).toNat ∧ s.on R.WAKE_CTRL_FRONDEN = true ∧ s.on R.WAKE_VSEQ_AUTO = false ∧
      s.on R.PWR_STAT_HELD = false) := by decide +kernel
theorem witness_WakeStages_b : (st [(R.WAKE_STAT_STAGE, 3)]).get R.WAKE_STAT_STAGE = 3 ∧
    (∀ s ∈ [(st [(R.WAKE_STAT_STAGE, 3), (R.WAKE_STAT_DEFER, 1), (R.PWR_STAT_HELD, 1), (R.WAKE_VCTX_VEN, 1),
        (R.WAKE_VCTX_CTX, 5)]).setCtx 5 (ctxIn .running)], Mic.isOpen s = true ∧ s.on R.WAKE_STAT_DEFER = true ∧
      s.on R.PWR_STAT_HELD = true ∧ s.on R.NVM_STAT_BUSY = false ∧ s.on R.WAKE_VCTX_VEN = true ∧
      s.live (s.get R.WAKE_VCTX_CTX) = true) ∧
    (∀ s ∈ [st [(R.WAKE_STAT_ACCPEND, 1), (R.PEAT_WIDXLO_V, 500000)]], s.on R.WAKE_STAT_ACCPEND = true ∧
      Mic.startIdx s < Mic.oldest s) := by decide +kernel
theorem witness_WakeCommands : (∀ s ∈ [st [(R.WAKE_STAT_STAGE, 3), (R.WAKE_HOSTWAKE_USB, 0), (R.WAKE_HOSTWAKE_RZ, 0)]],
      Accepted s .ctl 0x3238 1 ∧ Accepted s .ctl 0x3238 2 ∧ s.on R.WAKE_HOSTWAKE_USB = false ∧ waits s .sequencer = false ∧
      s.on R.WAKE_HOSTWAKE_RZ = false ∧ s.on R.PWR_STAT_HELD = false) ∧
    Accepted (st []) .ctl R.WAKE_CTRL_EN.addr (withField (st []) R.WAKE_CTRL_EN 1) ∧ (st []).on R.WAKE_CTRL_EN = false ∧
    Accepted (st []) .usb 0x3420 1 := by unfold Accepted Ready; decide +kernel
theorem witness_WakeCommands_b : (∀ s ∈ [st [(R.WAKE_CTRL_EN, 1), (R.WAKE_STAT_STAGE, 1)]],
      Accepted s .ctl R.WAKE_CTRL_EN.addr (withField s R.WAKE_CTRL_EN 0) ∧ s.on R.WAKE_CTRL_EN = true ∧ Mic.isOpen s = false) ∧
    (∀ s ∈ [{ st [(R.WAKE_STAT_STAGE, 3), (R.WAKE_VSEQ_VHDR, 64), (R.WAKE_VSEQ_VSLOT, 2)] with mic := { (st []).mic with seq := 1 } }],
      s.on R.SYS_STAT_MOVING = false ∧ s.get R.WAKE_STAT_STAGE = 3 ∧ s.mic.seq = 1 ∧
      Accepted s .eng 0x1924 (s.get R.WAKE_VSEQ_VHDR + 2 ^ 30 * s.get R.WAKE_VSEQ_VSLOT)) ∧
    (∀ s ∈ [{ (st [(R.WAKE_CUCFG_CATCHUP, 1), (R.WAKE_VCTX_DEN, 1), (R.WAKE_VCTX_DCTX, 5), (R.PEAT_WIDXLO_V, 500),
        (R.CTX_FMT_NCH 5, 2)]).setCtx 5 (ctxIn .running) with mic := { (st []).mic with ridx := [(5, 480)] } }],
      s.get R.WAKE_VCTX_DCTX = 5 ∧ Mic.catchUp s 5 = true ∧ (s.ctx 5).st = .running ∧
      s.mic.ridx = [(5, Mic.widx s - 20)] ∧ 20 ≤ Mic.widx s ∧ 20 ≤ Mic.bulkFrames s 5) := by unfold Accepted Ready; decide +kernel

/-- The headphone and both line outputs wanted. -/
def outs : State := st [(R.HP_CTRL_EN, 1), (R.LOUT_CTRL_EN, 1), (R.LOUT_CFG_OEN0, 1), (R.LOUT_CFG_OEN1, 1), (R.HP_CFG_JGATE, 0)]

theorem witness_AnalogStages : Ain.pga (st [(R.AIN_INCFG_PGA 3, 7)]) 3 ≠ (st [(R.AIN_INCFG_PGA 3, 7)]).get (R.AIN_INCFG_PGA 3) ∧
    Ain.biasOn (st [(R.AIN_BIAS_MB0EN, 1)]) 0 = true ∧ (∀ o < 3, Out.ph outs o = .off ∧ Out.wanted outs o = true) ∧
    Out.ph (Out.setPh outs 0 .pump) 0 = .pump ∧ (∀ o < 3, Out.ph (Out.setPh outs o .servo) o = .servo ∧
      Out.ph (Out.setPh (st []) o (.on (some 5))) o = .on (some 5) ∧ Out.ph (Out.setPh (st []) o (.fade 0 0 false)) o = .fade 0 0 false ∧
      Out.ph (Out.setPh (st []) o (.fade 0 192 false)) o = .fade 0 192 false ∧ (st []).sampIdx < 0 + 192) := by decide +kernel
theorem witness_AnalogStages_low : (∀ s ∈ [(st [(R.HP_CTRL_EN, 1), (R.JACK_STAT_JSTATE, 5), (R.JACK_STAT_ZCLASS, 1)])],
      Out.wanted s 0 = false ∧ s.get R.JACK_STAT_JSTATE = 5 ∧ s.get R.JACK_STAT_ZCLASS = 1 ∧ s.on R.HP_CFG_LOWZOK = false) ∧
    Out.ph (st [(R.HP_STAT_STATE, 4)]) 0 ≠ .pump ∧
    (∀ s ∈ [(Out.setPh (st [(R.HP_STAT_STATE, 3)]) 0 (.fade 0 0 true))], s.get R.HP_STAT_STATE = 3) := by decide +kernel

/-- The jack in a state. -/
def jack (x : Nat) (fs : List (Fld × Nat)) : State := st ([(R.JACK_CTRL_EN, 1), (R.JACK_STAT_JSTATE, x)] ++ fs)

theorem witness_JackMoves : Out.ph (jack 0 []) 0 = .off ∧ 3 ≤ (jack 0 []).mode ∧ (jack 0 []).on R.JACK_CTRL_EN = true ∧
    (∀ x < 7, (jack x []).get R.JACK_STAT_JSTATE = x) ∧ (jack 1 []).get R.JACK_CFG_FORCE = 0 ∧
    (∀ high : Bool, (high == (jack 0 []).on R.JACK_CFG_DETPOL) = !high) ∧ (jack 3 []).get R.HP_STAT_STATE ≠ 4 ∧
    (jack 1 [(R.JACK_CFG_FORCE, 2)]).get R.JACK_CFG_FORCE ≠ 0 ∧
    (jack 1 []).on R.PRIV_STAT_MUTED = false ∧ (jack 1 [(R.PRIV_STAT_MUTED, 1)]).on R.PRIV_STAT_MUTED = true ∧
    (jack 3 []).jack.classA = none ∧ (jack 4 []).jack.left = none := by decide +kernel
theorem witness_JackMoves_b : (∀ s ∈ [{ jack 3 [] with
        jack := { (st []).jack with classA := some 0, last := some (0, 1), conv := some 1000000 } }],
      s.jack.classA = some 0 ∧ s.jack.last = some (0, Jack.classOf 1000000 (Jack.vb s)) ∧ s.jack.conv = some 1000000) ∧
    (∀ k ∈ [2, 3], ∀ s ∈ [{ jack 3 [] with
        jack := { (st []).jack with classA := some 2, last := some (0, 1), passes := k, conv := some 1000000 } }],
      s.jack.classA = some 2 ∧ s.jack.last ≠ some (2, Jack.classOf 1000000 (Jack.vb s)) ∧ s.jack.passes = k) ∧
    (∀ s ∈ [{ jack 4 [] with jack := { (st []).jack with left := some 500, conv := some 4000 } }], s.jack.left = some 500 ∧
      s.jack.conv = some 4000) := by decide +kernel
theorem witness_Buttons : (∀ s ∈ [{ jack 5 [(R.JACK_STAT_TYPE, 3)] with jack := { (st []).jack with conv := some 1000 } }],
      Jack.watches s = true ∧ s.get R.JACK_STAT_BTN = 0 ∧ s.jack.conv = some 1000 ∧ Jack.below s 1000 3 = true) ∧
    (∀ s ∈ [jack 5 [(R.JACK_STAT_TYPE, 3), (R.JACK_STAT_BTN, 2)]], Jack.watches s = true ∧ s.get R.JACK_STAT_BTN ≠ 0) ∧
    (∀ w < 2, ∀ s ∈ [jack 5 [(R.JACK_STAT_TYPE, 3), (R.SYS_STAT_MODE, 2), (R.JACK_CFG_LPBTN, 1), (R.JACK_CFG_JWAKE, w)]],
      s.mode = 2 ∧ s.on R.JACK_CFG_LPBTN = true ∧ s.get R.JACK_STAT_JSTATE = 5 ∧ Jack.headset s = true ∧
      s.on R.PRIV_STAT_MUTED = false ∧ s.get R.JACK_STAT_BTN = 0 ∧ Usb.state s ≠ Usb.SUSPENDED ∧ Usb.state s ≠ Usb.L1 ∧
      s.on R.SYS_STAT_MOVING = false ∧ s.pwr.booting = false) := by decide +kernel
/-- The amplifier enabled, channel 2 in a state. -/
def amp (x : Nat) (fs : List (Fld × Nat)) : State := st ([(R.AMPG_CTRL_EN, 1), (R.AMP_CTRL_EN 0, 1), (R.AMP_CTRL_EN 1, 1),
  (R.AMP_CTRL_EN 2, 1), (R.AMP_CTRL_EN 3, 1), (R.AMP_STAT_STATE 2, x), (R.AMPG_STAT_PVDD, 1800)] ++ fs)

theorem witness_AmplifierStates : 3 ≤ (amp 0 []).mode ∧ Cdac.causes (amp 0 []) = (amp 0 []).get R.CDAC_STAT_SAFE ∧
    Amp.slave (amp 0 []) 2 = false ∧ Amp.st (amp 0 []) 2 = Amp.OFF ∧ Amp.enabled (amp 0 []) 2 = true ∧
    Amp.pvddGood (amp 0 []) = true ∧ (amp 0 []).on R.AMPG_STAT_TSD = false ∧ Amp.st (amp 1 []) 2 = Amp.STARTING ∧
    (∀ s ∈ [(amp 2 []).set R.AMPG_CTRL_EN 0], Amp.st s 2 = Amp.RUN ∧ Amp.enabled s 2 = false ∧ (Amp.ch s 2).fade = none) ∧
    (∀ s ∈ [Amp.upd (amp 2 []) 2 (fun c => { c with fade := some 0 })], Amp.st s 2 = Amp.RUN ∧
      (Amp.ch s 2).fade = some 0 ∧ s.sampIdx < 0 + s.blkLen) ∧
    (∀ s ∈ [{ Amp.upd (amp 2 []) 2 (fun c => { c with fade := some 0 }) with blk := ⟨960, 5⟩ }], Amp.st s 2 = Amp.RUN ∧
      (Amp.ch s 2).fade = some 0 ∧ 0 + s.blkLen ≤ s.sampIdx) ∧
    (Amp.ch (Amp.upd (amp 2 []) 2 (fun c => { c with ramp := 5 })) 2).ramp ≠ 0 ∧
    Amp.st (amp 2 []) 2 = Amp.RUN ∧ Amp.slave (amp 2 []) 2 = false ∧ (Amp.ch (amp 2 []) 2).ramp = 0 ∧
    Amp.st (amp 3 []) 2 = Amp.SHORT ∧ (amp 2 [(R.AMPG_RETRY_DCTHR, 4)]).get R.AMPG_RETRY_DCTHR ≠ 0 := by decide +kernel
/-- A load test of channel 2 that senses 8 mV and 1 mA, with the Lichen results it has, in microvolts. -/
def testing (k : Nat) (conv : List Int) : State :=
  Amp.upd { amp 4 [(R.AMP_FAULT_TRIES 2, k)] with amp := { (st []).amp with tests := [2, 1], conv := conv } } 2
    (fun c => { c with vi := [(8, 2)] })

/-- With TRIES from 0 to 3: no result, the terminal at 9 V alone, at 0 V, at 17.9 V; then a differential voltage of 8 mV,
which passes, one of 30 mV, which does not agree with the sense, and one of 0.5 mV. -/
theorem witness_AmplifierStates_test : (∀ k < 4, ∀ c ∈ [[], [9000000], [0], [17900000], [9000000, 8000], [9000000, 30000],
      [9000000, 500]], Amp.st (testing k c) 2 = Amp.TESTING ∧ (testing k c).amp.tests.head? = some 2 ∧
      (testing k c).amp.conv = c ∧ (testing k c).on (R.AMP_CFG_NORETRY 2) = false ∧
      Cdac.causes (testing k c) = (testing k c).get R.CDAC_STAT_SAFE) ∧
    (Amp.terminalCause (testing 0 []) 9000000 9000000, Amp.terminalCause (testing 0 []) 9000000 0,
      Amp.terminalCause (testing 0 []) 0 0, Amp.terminalCause (testing 0 []) 17900000 17900000) = (0, 2, 2, 3) ∧
    (Amp.meanUv (Amp.ch (testing 0 []) 2).vi, Amp.meanUa (Amp.ch (testing 0 []) 2).vi) = (8000, 1000) ∧
    [8000, 30000, 500].map (fun d => Amp.loadCause ⟨9000000, 9000000, d, 8000, 1000⟩) = [0, 5, 1] := by decide +kernel
theorem witness_AmplifierStates_clrflt : Accepted (amp 5 []) .usb (R.AMP_CTRL_CLRFLT 2).addr
      (withField (amp 5 []) (R.AMP_CTRL_CLRFLT 2) 1) ∧ Amp.st (amp 5 []) 2 = Amp.LATCHED ∧
    (amp 5 []).on R.AMPG_CTRL_EN = true ∧ (∀ m < 4, (amp 5 []).on (R.AMP_CTRL_EN m) = true) ∧
    Cdac.causes (amp 5 []) = (amp 5 []).get R.CDAC_STAT_SAFE := by unfold Accepted Ready; decide +kernel

/-- Channel 2 running with its protection. -/
def spkp : State := amp 2 [(Amp.sp R.SPKP_CTL_EN 2, 1), (Amp.sp R.SPKP_COIL_RTHC 2, 300), (Amp.sp R.SPKP_CTL_RETRK 2, 1),
  (Amp.sp R.SPKP_CTL_MAGSRC 2, 2), (Amp.sp R.SPKP_RE0_RE0 2, 4000), (Amp.sp R.SPKP_COIL_TAUC 2, 50)]

theorem witness_AmplifierProtection : 3 ≤ spkp.mode ∧ Cdac.causes spkp = spkp.get R.CDAC_STAT_SAFE ∧
    2 ∈ Amp.channels spkp ∧ Amp.st spkp 2 ≠ Amp.OFF ∧ spkp.on (Amp.sp R.SPKP_CTL_EN 2) = true ∧
    spkp.get (Amp.sp R.SPKP_COIL_RTHC 2) ≠ 0 ∧ spkp.on R.AMPG_STAT_TSD = false ∧
    (spkp.set R.AMPG_STAT_TSD 1).on R.AMPG_STAT_TSD = true ∧ (∀ n < 4, Amp.st spkp n ≠ Amp.THERMAL) ∧ Amp.slave spkp 2 = false ∧ spkp.get (Amp.sp R.SPKP_CTL_RETRK 2) ≠ 0 ∧
    (∃ n ∈ Amp.channels spkp, spkp.get (Amp.sp R.SPKP_CTL_MAGSRC n) = (1 : Fin 2).val + 1) ∧ 1234 < 2 ^ R.AMPG_STAT_PVDD.w ∧
    spkp.ctxNums = [] ∧ Amp.paired spkp 2 = false ∧ spkp.on R.AMPG_STAT_UV = false ∧ spkp.on R.AMPG_STAT_TSD = false := by
  decide +kernel
theorem witness_AmplifierProtection_apply : Accepted spkp .ctl 0x4628 1 ∧
    Amp.recordError (Amp.staged spkp Src.ctl.code) ≠ 0 := by unfold Accepted Ready; decide +kernel

/-- A configured device at high speed with context 3 RUNNING. -/
def usb (x : Nat) (fs : List (Fld × Nat)) : State :=
  (st ([(R.USB_CTRL_EN, 1), (R.USB_STAT_VBUS, 1), (R.USB_STAT_STATE, x), (R.USB_STAT_SPEED, 2), (R.CTX_EPT_TYPE 3, 2)] ++ fs)).setCtx
    3 { Ctx.zero with st := .running }

/-- Alternate setting 2 of the IN interface offers 48 kHz. -/
def alts (s : State) : State := { s with usb := { s.usb with alts := [⟨true, true, 2, 2, 3, 24, [48000]⟩, ⟨false, true, 1, 2, 3, 24, [48000]⟩], sources := [1, 3] } }

theorem witness_UsbBus : (st [(R.USB_CTRL_EN, 1)]).on R.USB_CTRL_EN = true ∧ Usb.state (st [(R.USB_CTRL_EN, 1)]) = Usb.DETACHED ∧
    (st []).asrc.steerRunning = false ∧ (st []).pwr.booting = false ∧ Usb.state (usb 3 []) = Usb.CONFIGURED ∧
    Usb.state (usb 3 []) ≠ Usb.DETACHED ∧ Usb.running (usb 3 []) = [3] ∧ Usb.awake (usb 3 []) = true ∧
    (usb 3 []).get R.USB_CFG_SUSPMODE = 0 ∧ (usb 3 [(R.USB_CFG_LPMEN, 0)]).on R.USB_CFG_LPMEN = false ∧
    (∀ s ∈ [alts (usb 3 [(R.USB_CFG_AUTOSTART, 0)])], s.on R.USB_CFG_AUTOSTART = false ∧ Usb.selected s true = 0 ∧
      (Usb.alt s true 2).isSome = true ∧ s.asrc.steerRunning = false) ∧
    (∀ s ∈ [alts (usb 3 [(R.USB_CFG_AUTOSTART, 0), (R.USBD_STAT_ALTOUT, 1), (R.USBD_ALTOUT_CTX 0, 3)])],
      s.on R.USB_CFG_AUTOSTART = false ∧ Usb.boundCtx s false = some 3 ∧ s.cType 3 = 2 ∧ (s.ctx 3).st = .running) := by
  decide +kernel
theorem witness_UsbBus_b : (∀ s ∈ [{ usb 4 [] with usb := { (st []).usb with before := 3 } }], Usb.state s = Usb.SUSPENDED ∧
      s.usb.before ≤ 3 ∧ s.on R.SYS_STAT_MOVING = false ∧ s.mode ≤ 4 ∧ s.on R.USB_STAT_RWEN = false) ∧
    (∀ m < 4, (usb 4 [(R.USB_STAT_RWEN, 1), (R.SYS_STAT_MODE, m)]).on R.USB_STAT_RWEN = true ∧
      Usb.state (usb 4 [(R.USB_STAT_RWEN, 1), (R.SYS_STAT_MODE, m)]) = Usb.SUSPENDED) ∧
    (∀ s ∈ [(usb 3 [(R.USB_CFG_LPMEN, 1)]).setCtx 3 Ctx.zero], Usb.awake s = true ∧ s.on R.USB_CFG_LPMEN = true ∧
      Usb.running s = [] ∧ Usb.bulkPending s = false) ∧ Usb.state (usb 5 []) = Usb.L1 ∧ Usb.awake (usb 1 []) = true ∧
    Usb.state (usb 1 []) ≠ Usb.CONFIGURED := by decide +kernel
theorem witness_UsbRequests : Usb.state (alts (usb 3 [])) = Usb.CONFIGURED ∧
    (Usb.altsNow (alts (usb 3 []))).any (fun a => a.rates.contains 5) = false ∧
    (∀ s ∈ [(alts (usb 3 [])).setCtx 3 Ctx.zero], (Usb.altsNow s).any (fun a => a.rates.contains 48000) = true ∧
      Usb.running s = []) ∧ (∀ u < 2, ∀ ch ∈ [0, 1, 32], Usb.fuChanges (alts (usb 3 []))
        (Usb.setHostVal (alts (usb 3 [])) u ch 0 (Usb.hostVal (alts (usb 3 [])) u ch).2) u = []) ∧
    Usb.state (usb 2 []) ≠ Usb.CONFIGURED ∧ Usb.awake (usb 3 []) = true := by decide +kernel
theorem witness_UsbRequests_clock : ∀ s ∈ [alts (usb 3 [(R.USB_CFG_CSXWR, 1), (R.USBD_CSMAP_CS3, 2)])],
    s.on R.USB_CFG_CSXWR = true ∧ 2 ≤ s.usb.sources.length ∧ Usb.csRef s (s.usb.sources.getD (2 - 1) 1) < 12 ∧
    Accepted s .usb 0x420 (2 + 256 * Usb.csRef s (s.usb.sources.getD (2 - 1) 1) + 65536 * s.get R.CLKM_SELCFG_DISAGREE) := by
  unfold Accepted Ready; decide +kernel
theorem witness_UsbStreaming : (∀ s ∈ [alts (usb 3 [(R.USBD_STAT_ALTOUT, 1), (R.USBD_ALTOUT_CTX 0, 3), (R.CTX_BUF_BUFLEN 3, 2)])],
      Usb.boundCtx s false = some 3 ∧ s.cType 3 = 2 ∧ s.cSink 3 = false ∧ (s.ctx 3).st = .running ∧
      (Usb.selectedAlt s false).map (fun a => (a.nch, a.subslot)) = some (2, 3) ∧ (List.replicate 13 (0 : Byte)).length / 6 = 2 ∧
      (s.ctx 3).fill + 2 ≤ s.cBufLen 3 ∧ (s.ctx 3).wpos < s.cBufLen 3 ∧ Strm.placeAt s 3 (s.cBufLen 3) ≤ thallusSize ∧
      s.cRecon 3 ≠ 1 ∧ Usb.high s = true ∧ s.usb.sources.contains 3 = true ∧
      (s.usb.valid.find? (fun e => e.1 == 3)).map (fun e => e.2) ≠ some (Usb.csValid s 3)) ∧
    (∀ s ∈ [alts (usb 3 [(R.USBD_STAT_ALTIN, 2), (R.USBD_ALTIN_CTX 0, 0x300), (R.CTX_FMT_DIR 3, 1), (R.CTX_FMT_GROUP 3, 127),
        (R.CTX_BUF_BUFLEN 3, 2), (R.USBD_SAMFREQ_RATE, 44100), (R.CTX_FMT_NCH 3, 2)])], Usb.boundCtx s true = some 3 ∧
      (Usb.selectedAlt s true).isSome = true ∧ s.cType 3 = 2 ∧ s.cSink 3 = true ∧ (s.ctx 3).st = .running ∧
      s.cRecon 3 ≠ 2 ∧ 64 ≤ s.cGroup 3 ∧ s.grp.slips = [] ∧ s.get R.USBD_SAMFREQ_RATE % 8000 ≠ 0 ∧ ∀ k < s.cBufLen 3, s.dedIn (Strm.placeAt s 3 k) (4 * s.cNch 3) = []) := by decide +kernel

theorem witness_RhizomeFrames : 3 ≤ (rz 1 []).mode ∧ (rz 1 []).on R.RZ_CTRL_EN = true ∧ Rz.role (rz 1 []) ≠ Rz.OFF ∧
    (∀ s ∈ [{ rz 1 [] with rz := { (st []).rz with good := [(0, 2)] } }], Rz.locked s 0 = false ∧ Map.get 0 s.rz.good 0 = 2) ∧
    (∀ s ∈ [{ rz 1 [(R.RZ_STAT_LOCKA, 1)] with rz := { (st []).rz with miss := [(0, 1)] } }], Rz.locked s 0 = true ∧
      Map.get 0 s.rz.miss 0 = 1 ∧ frame.domain.toNat = s.get R.RZ_CFG_DOMAIN ∧ Rz.role s = Rz.MEMBER ∧ Rz.up s = 0 ∧
      frame.ok = true ∧ frame.ret = false ∧ frame.cells = [] ∧ s.on R.RZ_STAT_FOLD = false ∧
      (s.set R.RZ_STAT_FOLD 1).on R.RZ_STAT_FOLD = true) ∧ (rz 3 []).rz.passing = [] ∧ (rz 3 []).rz.ring = false ∧
    (rz 3 []).sampIdx = 0 ∧ Rz.isMaster (rz 3 []) = true ∧ (rz 3 []).rz.listening = false ∧
    (rz 3 []).rz.txq = [] ∧ (rz 3 []).ctxNums = [] ∧ Rz.isMaster (rz 1 []) = false ∧
    (Rz.locked (rz 1 []) (Rz.up (rz 1 [])) = false ∨ (rz 1 []).on R.RZ_STAT_ALIGN = false) ∧ Rz.role (rz 2 []) = Rz.BACKUP := by
  decide +kernel
theorem witness_RhizomeFrames_b : (∀ s ∈ [{ rz 3 [] with rz := { (st []).rz with circA := some 6, circB := some 99, presHdr := 2 } }],
      Rz.isMaster s = true ∧ s.rz.circA = some 6 ∧ s.rz.circB = some 99 ∧ s.rz.presHdr ≠ 0) ∧
    (∀ s ∈ [{ rz 1 [] with rz := { (st []).rz with reasm := [⟨3, 4, [], none⟩], unacked := [⟨true, 1, false, 9, cell [], 1, false⟩] } }],
      s.rz.reasm.any (fun q => q.src == (3 : BitVec 10).toNat && q.tag == (4 : Byte).toNat) = true ∧
      s.rz.unacked = [⟨true, 1, false, (9 : Byte).toNat, cell [], 1, false⟩]) ∧
    (∀ s ∈ [Clkm.setRefState (rz 1 []) 10 Clkm.QUALIFIED], Rz.locked s (1 - Rz.up s) = false ∧ s.rz.ref10Hold = false ∧
      Clkm.refState s 10 = Clkm.QUALIFIED) ∧
    (∀ s ∈ [{ rz 2 [(R.RZ_STAT_TRACK, 1)] with rz := { (st []).rz with miss := [(0, 2), (1, 3)] } }],
      s.on R.RZ_STAT_TRACK = true ∧ 2 ≤ Map.get 0 s.rz.miss 0 ∧ 2 ≤ Map.get 0 s.rz.miss 1) ∧
    (∀ h ∈ [true, false], ∀ s ∈ [{ rz 3 [] with rz := { (st []).rz with listening := true, heard := h } }],
      s.rz.listening = true ∧ s.rz.heard = h ∧ Rz.role s ≠ Rz.OFF) := by decide +kernel
/-- A frame of two slots, one of them relayed, and two cells. -/
def lineFrame : RzFrame := { frame with
  slots := [(0, 0x01020304, false), (511, 0xFFFFFFFF, true)], ackseq := 200, nak := true, credits := 16, free := 3
  cells := [⟨1, true, 9, true, cell [1, 2, 3]⟩, ⟨11, false, 255, true, cell (List.replicate 50 0)⟩] }

theorem witness_RhizomeLine : lineFrame.ok = true ∧ lineFrame.slots.Pairwise (fun a b => a.1.toNat < b.1.toNat) ∧
    lineFrame.cells.length ≤ 5 ∧
    (∀ c ∈ lineFrame.cells, c.good = true ∧ c.typ ≠ 0 ∧ c.cell.payload.length ≤ 50) := by decide +kernel
/-- A header of 32 bytes, whose MIDX is read back (R316). -/
theorem test_line_header : (Line.header frame).length = 32 ∧ (Line.readHeader (Line.header frame)).midx = 0x123456789A := by
  decide +kernel
theorem witness_RhizomeCommands : Accepted (rz 3 []) .ctl 0x5028 0x20000000 ∧ Accepted (rz 3 []) .ctl 0x5028 (0x40000000 + 1023) ∧
    Accepted (rz 3 []) .ctl 0x5028 0x60000000 := by unfold Accepted Ready; decide +kernel
/-- The first and the last slot. -/
theorem witness_RhizomeCommands_claim : Accepted (rz 1 []) .ctl (0x900004 + 16 * 0) 1 ∧ Accepted (rz 1 []) .ctl (0x900004 + 16 * 511) 1 ∧
    Rz.role (rz 1 []) ≠ Rz.OFF ∧ Rz.role (rz 1 []) ≠ Rz.STRANGER ∧ Rz.isMaster (rz 1 []) = false ∧ (rz 1 []).rz.txq = [] := by
  unfold Accepted Ready; decide +kernel
theorem witness_RhizomeCommands_master : Accepted (rz 3 []) .ctl (0x900004 + 16 * 511) 1 ∧ Rz.mapEntry (rz 3 []) 511 = (false, 0) ∧
    (rz 3 []).rz.claims = [] ∧ (∀ s ∈ [rz 1 [(R.SLT_MAP_GRANTED 5, 1), (R.SLT_MAP_WRITER 5, 7)]],
      Accepted s .ctl (0x900004 + 16 * 5) 2 ∧ Rz.isMaster s = false ∧ Rz.role s ≠ Rz.STRANGER) ∧
    ({ rz 1 [] with rz := { (st []).rz with claims := [(5, 2)] } }).rz.claims = [(5, 2)] := by
  unfold Accepted Ready; decide +kernel
theorem witness_RhizomeCells : (∀ s ∈ [rz 3 []], Rz.takes s (cell []) = true ∧ Rz.isMaster s = true ∧
      Rz.active s = true ∧ Rz.isTarget s { cell [] with srcdom := 7 } = true ∧ (7 : BitVec 16).toNat ≠ s.get R.RZ_CFG_DOMAIN ∧
      Rz.runOf (cell (Rz.half 509 ++ [3])).payload = (509, 3) ∧ Rz.takes s (cell (Rz.half 509 ++ [3])) = true ∧
      (∀ k ∈ Rz.slotsOf 509 3, (Rz.mapEntry s k).1 = false) ∧ (cell []).src.toNat ≠ Rz.addr s ∧
      s.on R.RZ_DOMINFO_BKVALID = false) ∧
    (∀ s ∈ [rz 3 [(R.SLT_MAP_GRANTED 5, 1), (R.SLT_MAP_WRITER 5, 7)]], Rz.runOf (cell (Rz.half 5 ++ [1])).payload = (5, 1) ∧
      (∃ k ∈ Rz.slotsOf 5 1, (Rz.mapEntry s k).1 = true ∧ (Rz.mapEntry s k).2 ≠ (cell []).src.toNat)) ∧
    (∀ s ∈ [rz 3 [(R.SLT_MAP_GRANTED 5, 1), (R.SLT_MAP_WRITER 5, 12)]],
      ∀ k ∈ Rz.slotsOf 5 1, Rz.mapEntry s k = (true, (cell []).src.toNat)) := by decide +kernel
theorem witness_RhizomeCells_member : Rz.isMaster (rz 1 []) = false ∧
    Rz.takes (rz 1 []) (cell (Rz.half 511 ++ [BitVec.ofNat 8 255] ++ Rz.half 1023 ++ [0])) = true ∧
    Rz.takes (rz 1 []) (cell (Rz.half 5 ++ [2, 3])) = true ∧
    (rz 1 []).rz.reasm.any (fun q => q.src == (cell []).src.toNat && q.tag == (cell []).tag.toNat) = false ∧
    ({ cell [1, 2] with last := false }).last = false ∧ (cell [0x0A]).bcast = false ∧ Ready (rz 1 []) .rz .ping ∧
    Rz.takes (rz 1 []) (cell [0x0A]) = true ∧
    (∀ s ∈ [rz 1 [(R.RZ_CFG_RRSTEN, 1), (R.RZ_DOMINFO_MADDR, 12)]], s.on R.RZ_CFG_RRSTEN = true ∧
      (cell []).src.toNat = Rz.masterAddr s) := by unfold Ready; decide +kernel
theorem witness_RhizomeCells_forward : ∀ s ∈ [{ rz 1 [] with rz := { (st []).rz with fwd := [(1, ⟨9, true, true, [5]⟩)] } }],
    Rz.fwdOf s (cell [6, 7]).tag.toNat = some (1, ⟨9, true, true, [5]⟩) ∧ Rz.takes s (cell [6, 7]) = true := by decide +kernel

/-- Lichen enabled, calibrated. -/
def lich (fs : List (Fld × Nat)) (l : LichSt) : State := { st ((R.LICH_CTRL_EN, 1) :: fs) with lich := { l with calOwed := false } }

theorem witness_Lichen : (∀ s ∈ [lich [(R.LICH_SEQCFG_EN 1, 1)] (st []).lich], 3 ≤ s.mode ∧ s.on R.LICH_CTRL_EN = true ∧
      Lich.paused s = false ∧ s.on (R.LICH_SEQCFG_EN (b2n true)) = true ∧ Lich.pass s true = []) ∧
    (∀ s ∈ [lich [] { (st []).lich with passB := [⟨15, true, true, 31, 4, 4⟩] }], s.lich.inj = [] ∧ s.lich.plaus = none ∧
      Lich.pass s true = [⟨15, true, true, 31, 4, 4⟩] ∧ Lich.paused s = false) ∧
    (∀ s ∈ [lich [] { (st []).lich with plaus := some (31, 4) }], s.lich.inj = [] ∧ s.lich.plaus = some (31, 4) ∧
      Lich.paused s = false) := by decide +kernel
theorem witness_Lichen_injected : (∀ s ∈ [{ lich [(R.JACK_STAT_JSTATE, 3), (R.LICH_INJTMR_PERIOD, 5), (R.LICH_PLAUSCFG_EN, 1)]
      (st []).lich with amp := { (st []).amp with tests := [1] } }], Amp.asks s = true ∧ Lich.queued s 1 = false ∧
      Lich.jackCh s = some 11 ∧ Lich.queued s 0 = false ∧ s.get R.LICH_INJTMR_PERIOD ≠ 0 ∧ Lich.queued s 2 = false ∧
      s.on R.LICH_PLAUSCFG_EN = true ∧ s.lich.plaus = none) ∧
    (∀ s ∈ [lich [] { (st []).lich with inj := [⟨2, true, true, 20, 4, 4⟩] }], Lich.queued s 2 = true ∧
      s.on R.LICH_STAT_CALBUSY = false ∧ s.lich.calOwed = false ∧ s.on R.LICH_STAT_CALPEND = false) ∧
    (∀ s ∈ [lich [(R.LICH_STAT_CALPEND, 1)] (st []).lich], s.on R.LICH_STAT_CALPEND = true ∧ s.lich.calFor = []) ∧
    (lich [(R.LICH_STAT_CALBUSY, 1)] (st []).lich).on R.LICH_STAT_CALBUSY = true ∧
    (∀ k < 2, ∀ c ∈ [[], [9000000]], ∀ s ∈ [{ lich [] { (st []).lich with inj := [⟨k, true, true, 20, 4, 4⟩] } with
        amp := { (st []).amp with tests := [1], conv := c } }], s.lich.inj = [⟨k, true, true, 20, 4, 4⟩] ∧ s.amp.tests ≠ [] ∧
      s.amp.conv = c) := by decide +kernel
/-- A pass that falls due while another runs, while a calibration waits, and one that a calibration has held up. -/
theorem witness_Lichen_late : (∀ s ∈ [lich [(R.LICH_SEQCFG_EN 1, 1)] { (st []).lich with passB := [⟨15, true, true, 31, 4, 4⟩] }],
      Lich.paused s = false ∧ s.on (R.LICH_SEQCFG_EN (b2n true)) = true ∧ Lich.pass s true ≠ []) ∧
    (∀ s ∈ [lich [(R.LICH_SEQCFG_EN 1, 1), (R.LICH_STAT_CALPEND, 1)] (st []).lich], Lich.paused s = true ∧
      s.on (R.LICH_SEQCFG_EN (b2n true)) = true) ∧
    (∀ s ∈ [lich [(R.LICH_SEQCFG_EN 1, 1), (R.LICH_STAT_CALBUSY, 1)] { (st []).lich with dueB := true }],
      s.on R.LICH_STAT_CALBUSY = true ∧ Lich.late s true = true ∧ Lich.pass s true = []) := by decide +kernel
theorem witness_Lichen_commands : ∀ s ∈ [lich [] { (st []).lich with inj := [⟨2, true, true, 20, 4, 4⟩] }],
    Cdac.causes s = s.get R.CDAC_STAT_SAFE ∧ Accepted s .usb R.LICH_INJSW_GO.addr (withField s R.LICH_INJSW_GO 1) ∧
    Accepted s .usb R.LICH_CTRL_CAL.addr (withField s R.LICH_CTRL_CAL 1) := by unfold Accepted Ready; decide +kernel

/-- The control DACs enabled. -/
def dac (fs : List (Fld × Nat)) : State := { st ((R.CDAC_CTRL_EN, 1) :: fs) with cdac := { (st []).cdac with held := false } }

theorem witness_ControlDacs : Accepted (dac [(R.CDAC_CFG_LDSRC 7, 2)]) .ctl (0x5C20 + 16 * 7) 0x80002345 ∧
    (dac [(R.CDAC_CFG_LDSRC 7, 2)]).get (R.CDAC_CFG_LDSRC 7) ≠ 0 ∧ Accepted (dac [(R.CDAC_CFG_LDSRC 3, 1)]) .ctl 0x5CE0 9 ∧
    (∀ s ∈ [dac [(R.CDAC_PTIDX_IDX 0, 5)]], Accepted s .ctl 0x5CE4 1 ∧ Accepted s .ctl 0x5CE4 2 ∧ s.sampIdx < Cdac.ptIdx s) ∧
    (∀ s ∈ [dac [(R.CDAC_PTCTL_ARMED, 1)]], s.on R.CDAC_PTCTL_ARMED = true ∧ Cdac.ptIdx s = s.sampIdx) := by
  unfold Accepted Ready; decide +kernel
theorem witness_ControlDacs_b : (∀ now ∈ [5, 200], ∀ s ∈ [dac [(R.CDAC_CFG_SLEWEN 3, 1), (R.CDAC_CFG_STEP 3, 9), (R.CDAC_OUT_CODE 3, 100),
      (R.CDAC_NOW_VALUE 3, now)]], Cdac.owned s 3 = false ∧ Cdac.clamped s = false ∧ s.on (R.CDAC_CFG_SLEWEN 3) = true ∧
      (Cdac.ball s 3).1 = (Cdac.target s 3).1) ∧
    (∀ s ∈ [{ dac [(R.CTX_EPT_TYPE 5, 9), (R.CTX_EPT_FIRST 5, 2), (R.CTX_FMT_NCH 5, 4), (R.CDAC_STRCFG_SUB, 2)] with
        strm := { (st []).strm with ctxs := [(5, ctxIn .running)] }, cdac := { (st []).cdac with
          frames := [(5, [0x12345678, 0xF2345678, 0x11111111, 0x80000000])] } }], s.cType 5 = 9 ∧ (s.ctx 5).st = .running ∧
      1 < Cdac.sub s ∧ s.cdac.frames = [(5, [0x12345678, 0xF2345678, 0x11111111, 0x80000000])]) ∧
    (∀ s ∈ [dac [(R.CDAC_CTRL_FORCESAFE, 1)]], s.get R.CDAC_STAT_SAFE = 0 ∧ Cdac.causes s ≠ 0) ∧
    bit (dac []).cdac.sinks 3 = false ∧ bit ((dac []).get R.CDAC_STAT_OCF) 3 = false ∧ Cdac.owned (dac []) 3 = false ∧
    Cdac.clamped (dac []) = false := by decide +kernel
theorem witness_ControlDacs_safeclr : Accepted (dac []) .ctl R.CDAC_CTRL_SAFECLR.addr (withField (dac []) R.CDAC_CTRL_SAFECLR 1) := by
  unfold Accepted Ready; decide +kernel

/-- A push-pull output shows its level in STAT.IN, one with DEBEN does not yet (R432). -/
theorem test_gpio_own : (after (.set .ctl 0x05) (st [(R.GPIO_CTRL_EN, 1), (R.GPIO_CFG_MODE 0, 1), (R.GPIO_CFG_MODE 2, 1),
    (R.GPIO_CFG_DEBEN 2, 1)])).get R.GPIO_STAT_IN = 1 := by decide +kernel
theorem witness_Gpio : (st []).mode ≠ 0 ∧ (st []).lowPower = false ∧ Accepted (st []) .ctl 0x6C44 0x3C ∧
    Accepted (st []) .ctl 0x6C48 0xFF := by unfold Accepted Ready; decide +kernel
theorem witness_ControlBus : Cbus.hears (st []) = true ∧ Cbus.silent (1 : Byte).toNat = false ∧
    (st [(R.CBUS_CFG_TOEN, 1)]).on R.CBUS_CFG_TOEN = true ∧ (st [(R.CBUS_CFG_TOEN, 0)]).on R.CBUS_CFG_TOEN = false ∧
    ({ st [] with cbus := { (st []).cbus with reprobe := true } }).cbus.reprobe = true ∧
    (st [(R.CBUS_STAT_PROBING, 1)]).on R.CBUS_STAT_PROBING = true := by decide +kernel
theorem witness_AuxiliaryBus : (∀ s ∈ [{ st [(R.AUXB_CTRL_EN, 1)] with aux := { (st []).aux with tx := [1, 2, 3, 4] } }],
      s.on R.AUXB_CTRL_EN = true ∧ Accepted s .ctl R.AUXB_CTRL_GO.addr (withField s R.AUXB_CTRL_GO 1)) ∧
    (∀ s ∈ [st [(R.AUXB_CTRL_EN, 1), (R.AUXB_STAT_BUSY, 1)]], s.on R.AUXB_STAT_BUSY = true ∧ s.aux.waiting = false ∧
      Accepted s .ctl R.AUXB_CTRL_ABORT.addr (withField s R.AUXB_CTRL_ABORT 1)) := by unfold Accepted Ready; decide +kernel
theorem witness_AuxiliaryBus_b : (st [(R.AUXB_STAT_TRIES, 7)]).get R.AUXB_STAT_TRIES < 8 ∧
    8 ≤ (st [(R.AUXB_STAT_TRIES, 8)]).get R.AUXB_STAT_TRIES ∧ (st [(R.AUXB_CFG_TOEN, 1)]).on R.AUXB_CFG_TOEN = true ∧
    ({ st [(R.AUXB_STAT_BUSY, 1)] with aux := { (st []).aux with waiting := true } }).aux.waiting = true ∧
    ({ st [(R.AUXB_STAT_BUSY, 1)] with aux := { (st []).aux with aborting := true } }).aux.aborting = true ∧
    (∀ s ∈ [{ st [(R.AUXB_STAT_BUSY, 1), (R.AUXB_CFG_PEC, 1), (R.AUXB_XFER_RLEN, 2)] with aux := { (st []).aux with sent := [0x41] } }],
      s.on R.AUXB_CFG_PEC = true ∧ s.get R.AUXB_XFER_RLEN ≠ 0 ∧
      ([1, 2] : List Byte)[s.get R.AUXB_XFER_RLEN]? ≠ some (BitVec.ofNat 8 (pec (s.aux.sent ++ [1, 2])))) := by decide +kernel
/-- GO of a read of 2 bytes at address 0x20 after one written byte sends the address twice (R388). -/
theorem test_aux_line : (after (.auxGo .ctl) { st [(R.AUXB_CTRL_EN, 1), (R.AUXB_XFER_TADDR, 0x20), (R.AUXB_XFER_WLEN, 1),
    (R.AUXB_XFER_RLEN, 2)] with aux := { (st []).aux with tx := [7, 8, 9, 10] } }).aux.sent = [0x40, 7, 0x41] := by decide +kernel
/-- A read whose byte after the last is not the PEC ends with RESULT 7 (R382, R388). -/
theorem test_aux_pec : (after (.auxTransferEnd 1 0 false [1, 2, 0]) (st [(R.AUXB_STAT_BUSY, 1), (R.AUXB_CFG_PEC, 1),
    (R.AUXB_XFER_RLEN, 2)])).get R.AUXB_RESULT_CODE = 7 := by decide +kernel
theorem witness_PowerModes : (∀ s ∈ [(st []).setCtx 3 { Ctx.zero with st := .running }], Accepted s .ctl 0x120 1 ∧
      Accepted s .ctl 0x120 2 ∧ s.mode = 3 ∧ s.on R.WAKE_CTRL_EN = false ∧ s.on R.RZ_CTRL_EN = false ∧
      s.on R.SYS_STAT_MOVING = false ∧ Pwr.holds s = false) ∧
    (∀ s ∈ [st [(R.WAKE_STAT_STAGE, 2)]], Accepted s .ctl 0x120 1 ∧ Pwr.wakeHolds s = true) := by
  unfold Accepted Ready; decide +kernel
theorem witness_PowerModes_b : (∀ s ∈ [st [(R.PWR_STAT_HELD, 1), (R.PWR_STAT_REQ, 2)]], s.on R.PWR_STAT_HELD = true ∧
      Pwr.holds s = false ∧ Pwr.adjust s (s.get R.PWR_STAT_REQ) = 2 ∧ s.mode = 3 ∧ s.pwr.booting = false) ∧
    (∀ m < 4, ∀ x ∈ [1, 2, 3], ∀ s ∈ [{ st [(R.SYS_STAT_MODE, x)] with pwr := { (st []).pwr with target := some m } }],
      s.pwr.target = some m ∧ s.pwr.queued = none ∧ s.ctxsWhere s.live = [] ∧ (∀ k < 4, (s.slot k).busy = false) ∧ s.lowPower = decide (x < 3)) ∧
    (∀ s ∈ [(st []).setCtx 3 { Ctx.zero with st := .running }], s.ctxsWhere s.live ≠ []) := by decide +kernel
theorem witness_Resets : (st []).on R.NVM_STAT_BUSY = false ∧ (st []).mode = 3 ∧
    Accepted (st []) .ctl R.SYS_CTRL_FULLRST.addr (withField (st []) R.SYS_CTRL_FULLRST 1) ∧ State.reset.pwr.booting = true ∧
    State.reset.mode ≠ 0 := by unfold Accepted Ready; decide +kernel

/-- The flash enabled, lines of the FIFO in progress, the last line of the bank next. -/
def flash : State := { st [(R.NVM_CTRL_EN, 1), (R.NVM_PADDR_ADDR, 0x7FFF0), (R.NVM_STAT_BUSY, 1), (R.NVM_STAT_OP, 2)] with nvm := { (st []).nvm with
  fifo := (List.range 20).map (BitVec.ofNat 8) } }

theorem witness_Flash : (∀ s ∈ [st [(R.NVM_CTRL_EN, 1), (R.NVM_STAT_VALIDA, 1), (R.NVM_STAT_VALIDB, 1)]], Accepted s .ctl 0x6820 1 ∧ Accepted s .ctl 0x6820 2 ∧
      Accepted s .ctl 0x6820 3 ∧ Accepted s .ctl 0x6820 4) := by unfold Accepted Ready; decide +kernel
theorem witness_Flash_b : (∀ s ∈ [st [(R.NVM_STAT_BUSY, 1), (R.NVM_STAT_OP, 1)]], s.on R.NVM_STAT_BUSY = true ∧
      s.get R.NVM_STAT_OP = 1) ∧ (st [(R.NVM_STAT_OP, 3)]).get R.NVM_STAT_OP = 3 ∧ flash.on R.NVM_STAT_BUSY = true ∧
    flash.get R.NVM_STAT_OP = 2 ∧ flash.nvm.flushing = false ∧ flash.on R.PWR_STAT_HELD = false ∧
    (∀ s ∈ [{ flash with nvm := { flash.nvm with flushing := true } }], s.nvm.flushing = true ∧ s.nvm.fifo.length ≤ 4096) ∧
    (∀ s ∈ [((st [(R.NVM_STAT_BUSY, 1), (R.NVM_STAT_OP, 4)]).setBytes 0xA00010 (wordBytes 1)).setBytes
        0xA00048 (wordBytes 3)], s.get R.NVM_STAT_OP = 4 ∧ Nvm.copyOk s = true) ∧
    16 ≤ flash.nvm.fifo.length ∧ Nvm.bankBase (Nvm.target flash) + flash.get R.NVM_PADDR_ADDR ∉ flash.nvm.done ∧
    (∀ b ∈ flash.bytes (Nvm.bankBase (Nvm.target flash) + flash.get R.NVM_PADDR_ADDR) 16, b = 0xFF) ∧
    (∀ s ∈ [flash.setByte (Nvm.bankBase (Nvm.target flash) + flash.get R.NVM_PADDR_ADDR + 3) 0],
      ∃ b ∈ s.bytes (Nvm.bankBase (Nvm.target s) + s.get R.NVM_PADDR_ADDR) 16, b ≠ 0xFF) := by decide +kernel

/-- A record that is accepted (R273), its CRC-32 by hand. -/
def record : State := ([0x00011140, 1, 1, 1, 1, 1, 5, 0, 0x00010001, 0, 0, 0, 0, 0, 0, 0xee6ffd78].zipIdx).foldl
  (fun s e => s.set ((R.EXCUR_LEGACY_DATA e.2).win (Src.ctl.code + 1)) e.1) spkp

theorem witness_AmplifierProtection_record : Amp.recordError (Amp.staged record Src.ctl.code) = 0 := by decide +kernel
theorem test_apply : (after (.apply .ctl) record).get R.EXCUR_IFLG_RECOK = 1 := by decide +kernel

/-- A kernel set of one image at Thallus offset 0 (R162, R163), its CRCs by hand. -/
def kset : State := (st [(R.ENG_STAT_ROLL, 1)]).setBytes 0x400000 ([0x54534b46, 0x1, 0x7, 0x1c087824, 0x20, 0x0, 0x0, 0x0, 0x4b524e46, 0x100, 0x1, 0x4, 0x0, 0x0, 0x0, 0x1, 0x190, 0x0, 0x0, 0xf200a411, 0x0].flatMap wordBytes)

theorem witness_RollingUpdate_set : kset.get R.ENG_STAT_ROLL = 1 ∧
    (Sched.readSet kset (kset.get R.ENG_KSETBASE_OFF)).isSome = true := by decide +kernel
theorem witness_RollingUpdate_idle : ∀ k, (kset.slot k).g = none := fun _ => rfl
theorem test_roll_start : (after .rollSetCheckDone kset).get R.ENG_STAT_ROLL = 2 := by decide +kernel

end Sys2Proof.Tests
end

section
/-! SUPPORT. Rules about the arbiter's shared parts: the lowest of several reasons, chains of stores, and what a
rejected packet leaves (R37, R38). -/
namespace Sys2Proof.Laws
open Sys2Proof Sys2Proof.Machine Sys2Proof.Safety

/-! The lowest reason. -/

/-- The lower of the reason found so far and another one. -/
def lowest : Option Nat → Nat → Option Nat
  | none, r => some r
  | some q, r => some (min q r)

theorem least_eq_foldl (rs : List (Bool × Nat)) :
    least rs = ((rs.filter (fun e => e.1)).map (fun e => e.2)).foldl lowest none := by
  have same : lowest = fun m r => match m with
      | none => some r
      | some q => some (min q r) := by
    funext m r
    cases m <;> rfl
  rw [same]
  rfl

theorem foldl_lowest_some (l : List Nat) (q : Nat) : l.foldl lowest (some q) ≠ none := by
  induction l generalizing q with
  | nil => simp
  | cons r l ih => exact ih _

theorem least_eq_none_iff (rs : List (Bool × Nat)) : least rs = none ↔ ∀ e ∈ rs, e.1 = false := by
  rw [least_eq_foldl]
  induction rs with
  | nil => simp
  | cons e rs ih =>
    cases he : e.1 with
    | false => simpa [he] using ih
    | true => simpa [he, lowest] using foldl_lowest_some _ _

/-! Chains of stores. -/

theorem get_bump_self (s : State) (f : Fld) : (s.bump f).get f = min (s.get f + 1) (2 ^ f.w - 1) := by
  have := Nat.two_pow_pos f.w
  rw [State.bump_eq, State.get_set_self]
  exact Nat.mod_eq_of_lt (by omega)

theorem get_bump_ne (s : State) {f g : Fld} (h : f.key ≠ g.key) : (s.bump f).get g = s.get g :=
  State.get_set_ne s _ h

theorem fieldsKept_mono {s t : State} {fs gs : List Fld} (h : FieldsKept s t fs) (sub : ∀ f ∈ fs, f ∈ gs) :
    FieldsKept s t gs := fun g hg => h g (fun f hf => hg f (sub f hf))

theorem onlyFields_refl (s : State) (fs : List Fld) : OnlyFields s s fs := ⟨rfl, fun _ _ => rfl, fun _ => rfl⟩

theorem onlyFields_set {s t : State} {fs : List Fld} {f : Fld} (h : OnlyFields s t fs) (hf : f ∈ fs) (v : Nat) :
    OnlyFields s (t.set f v) fs := by
  obtain ⟨parts, kept, bytes⟩ := h
  refine ⟨(State.set_only_regs t f v).trans ?_, fun g hg => (State.get_set_ne t v (hg f hf)).trans (kept g hg), bytes⟩
  rw [parts]

theorem onlyFields_bump {s t : State} {fs : List Fld} {f : Fld} (h : OnlyFields s t fs) (hf : f ∈ fs) :
    OnlyFields s (t.bump f) fs := onlyFields_set h hf _

/-! LASTREJ and IFLG.REJ. -/

/-- The fields that record the last rejection (R38). -/
def lastRejFields : List Fld :=
  [R.ACC_LASTREJ_VALID, R.ACC_LASTREJ_SRC, R.ACC_LASTREJ_REASON, R.ACC_LASTREJ_ADDR, R.ACC_IFLG_REJ]

theorem onlyFields_lastRej {s t : State} {fs : List Fld} (h : OnlyFields s t fs) (src : Src) (r a : Nat)
    (hf : ∀ f ∈ lastRejFields, f ∈ fs) : OnlyFields s (Arb.lastRej t src r a) fs := by
  simp only [lastRejFields, List.forall_mem_cons] at hf
  obtain ⟨hv, hs, hr, ha, hi, -⟩ := hf
  exact onlyFields_set (onlyFields_set (onlyFields_set (onlyFields_set (onlyFields_set h hv _) hs _) hr _) ha _) hi _

theorem lastRej_get (s : State) (src : Src) (r a : Nat) {g : Fld} (h : ∀ f ∈ lastRejFields, f.key ≠ g.key) :
    (Arb.lastRej s src r a).get g = s.get g :=
  (onlyFields_lastRej (onlyFields_refl s lastRejFields) src r a (fun _ hf => hf)).2.1 g h

theorem lastRej_reason (s : State) (src : Src) (r a : Nat) :
    (Arb.lastRej s src r a).get R.ACC_LASTREJ_REASON = r % 2 ^ 4 := by
  unfold Arb.lastRej
  rw [State.get_set_ne _ _ (by decide), State.get_set_ne _ _ (by decide), State.get_set_self]
  rfl

theorem lastRej_addr (s : State) (src : Src) (r a : Nat) :
    (Arb.lastRej s src r a).get R.ACC_LASTREJ_ADDR = a % 2 ^ 24 := by
  unfold Arb.lastRej
  rw [State.get_set_ne _ _ (by decide), State.get_set_self]
  rfl

theorem lastRej_flag (s : State) (src : Src) (r a : Nat) : (Arb.lastRej s src r a).get R.ACC_IFLG_REJ = 1 := by
  unfold Arb.lastRej
  rw [State.get_set_self]
  rfl

/-! The count of a rejection. -/

/-- The field in which a rejection is counted: of its page, or RSVCNT (R26, R27, R38). -/
def countFld (r a : Nat) : Fld := (Arb.countedIn r a).getD R.ACC_RSVCNT_COUNT

/-- The state with a rejection counted in that field. -/
def countedOnce (s : State) (r a : Nat) : State :=
  match Arb.countedIn r a with
  | some f => s.bump f
  | none => Arb.reservedAccess s

theorem countedOnce_only {s : State} (hl : s.lowPower = false) (src : Src) (r a : Nat) :
    OnlyFields s (countedOnce s r a) (rejectionFields src (countFld r a)) := by
  have start := onlyFields_refl s (rejectionFields src (countFld r a))
  unfold countedOnce
  split
  · next f hf => exact onlyFields_bump start (by simp [rejectionFields, countFld, hf])
  · simp only [Arb.reservedAccess, hl]
    exact onlyFields_set (onlyFields_bump start (by simp [rejectionFields])) (by simp [rejectionFields]) _

theorem countRej_clocked {s : State} (hl : s.lowPower = false) (src : Src) (r a : Nat) :
    Arb.countRej s src r a = Arb.lastRej ((countedOnce s r a).bump (Arb.rejSrc src)) src r a := by
  simp only [Arb.countRej, hl, countedOnce]
  rfl

theorem countRej_lowPower {s : State} (hl : s.lowPower = true) (src : Src) (r a : Nat) :
    Arb.countRej s src r a = s ∨ ∃ f, Arb.countedIn r a = some f ∧ Arb.countRej s src r a = s.bump f := by
  simp only [Arb.countRej, hl, if_true]
  cases hc : Arb.countedIn r a with
  | none => exact .inl rfl
  | some f =>
    by_cases h9 : r = 9
    · exact .inl (by simp [h9])
    · exact .inr ⟨f, rfl, by simp [h9]⟩

theorem countRej_lowPower_nine {s : State} (hl : s.lowPower = true) (src : Src) (a : Nat) :
    Arb.countRej s src 9 a = s := by
  simp [Arb.countRej, hl, Arb.countedIn]

theorem countRej_only (s : State) (src : Src) (r a : Nat) :
    OnlyFields s (Arb.countRej s src r a) (rejectionFields src (countFld r a)) := by
  cases hl : s.lowPower with
  | true =>
    have start := onlyFields_refl s (rejectionFields src (countFld r a))
    rcases countRej_lowPower hl src r a with h | ⟨f, hf, h⟩ <;> rw [h]
    · exact start
    · exact onlyFields_bump start (by simp [rejectionFields, countFld, hf])
  | false =>
    rw [countRej_clocked hl]
    exact onlyFields_lastRej (onlyFields_bump (countedOnce_only hl src r a) (by simp [rejectionFields])) src r a
      (by simp [lastRejFields, rejectionFields])

/-- Every count of rejections stands in the low bits of its register. -/
theorem countedIn_key {r a : Nat} {f : Fld} (h : Arb.countedIn r a = some f) : f.key % 32 = 0 := by
  unfold Arb.countedIn at h
  split at h
  · cases h; rfl
  · split at h
    · cases h
    · split at h
      · cases h; rfl
      · obtain ⟨e, -, rfl⟩ := Option.map_eq_some_iff.1 h
        exact Nat.mul_mod_left _ 32

theorem countFld_ne_fullrst (r a : Nat) : (countFld r a).key ≠ R.SYS_CTRL_FULLRST.key := by
  unfold countFld
  cases hc : Arb.countedIn r a with
  | none => decide
  | some f =>
    intro e
    have low := countedIn_key hc
    rw [Option.getD_some] at e
    rw [e] at low
    exact absurd low (by decide)

/-! Rejected packets. -/

/-- The state after a rejected packet: counted and recorded, noted for CTL, answered (R38, R39, R380). -/
def rejectedAs (s : State) (src : Src) (p : Packet) (r a : Nat) : State :=
  Arb.answer (if src = .ctl then Cbus.note (Arb.countRej s src r a) (Arb.codeOf p) (Arb.isWrite p) Cbus.REJECTED r
    else Arb.countRej s src r a) src (.rejected r a)

theorem rejectedAs_reply (s : State) (src : Src) (p : Packet) (r a : Nat) :
    Map.get .none (rejectedAs s src p r a).acc.replies src.code = .rejected r a := by
  simp [rejectedAs, Arb.answer]

theorem rejectedAs_parts (s : State) (src : Src) (p : Packet) (r a : Nat) : rejectedAs s src p r a =
    { s with regs := (rejectedAs s src p r a).regs, acc := withAnswers s (rejectedAs s src p r a) } := by
  have parts := (countRej_only s src r a).1
  unfold rejectedAs Arb.answer
  split
  · rw [note_regs, parts]; rfl
  · rw [parts]; rfl

theorem rejectedAs_get (s : State) (src : Src) (p : Packet) (r a : Nat) {g : Fld}
    (h : ∀ f ∈ outcomeFields, f.key ≠ g.key) : (rejectedAs s src p r a).get g = (Arb.countRej s src r a).get g := by
  unfold rejectedAs Arb.answer
  split
  · exact note_get _ _ _ _ _ g h
  · rfl

theorem rejectedAs_kept (s : State) (src : Src) (p : Packet) (r a : Nat) :
    FieldsKept s (rejectedAs s src p r a) (rejectionFields src (countFld r a)) := by
  intro g hg
  rw [rejectedAs_get s src p r a (fun f hf => hg f (by simp [rejectionFields, hf]))]
  exact (countRej_only s src r a).2.1 g hg

/-- A field apart from the records of the rejection holds what the page's count left there. -/
theorem rejectedAs_countedOnce {s : State} (hl : s.lowPower = false) (src : Src) (p : Packet) (r a : Nat) {g : Fld}
    (h : ∀ f ∈ outcomeFields ++ Arb.rejSrc src :: lastRejFields, f.key ≠ g.key) :
    (rejectedAs s src p r a).get g = (countedOnce s r a).get g := by
  rw [List.forall_mem_append, List.forall_mem_cons] at h
  obtain ⟨outcome, source, last⟩ := h
  rw [rejectedAs_get s src p r a outcome, countRej_clocked hl, lastRej_get _ _ _ _ last, get_bump_ne _ source]

theorem rejectedAs_recorded {s : State} (hl : s.lowPower = false) (src : Src) (p : Packet) (r a : Nat) :
    (rejectedAs s src p r a).get R.ACC_LASTREJ_REASON = r % 2 ^ 4 ∧
      (rejectedAs s src p r a).get R.ACC_LASTREJ_ADDR = a % 2 ^ 24 ∧
      (rejectedAs s src p r a).get R.ACC_IFLG_REJ = 1 := by
  rw [rejectedAs_get _ _ _ _ _ (by decide), rejectedAs_get _ _ _ _ _ (by decide),
    rejectedAs_get _ _ _ _ _ (by decide), countRej_clocked hl]
  exact ⟨lastRej_reason _ _ _ _, lastRej_addr _ _ _ _, lastRej_flag _ _ _ _⟩

/-- A rejection neither asks for a FULL reset nor takes one back. -/
theorem rejectedAs_fullrst (s : State) (src : Src) (p : Packet) (r a : Nat) :
    (rejectedAs s src p r a).on R.SYS_CTRL_FULLRST = s.on R.SYS_CTRL_FULLRST := by
  have source : (Arb.rejSrc src).key ≠ R.SYS_CTRL_FULLRST.key := by cases src <;> decide
  have kept := rejectedAs_kept s src p r a R.SYS_CTRL_FULLRST (by
    simp only [rejectionFields, outcomeFields, List.cons_append, List.nil_append, List.forall_mem_cons]
    exact ⟨by decide, by decide, by decide, by decide, by decide, countFld_ne_fullrst r a, source, by decide⟩)
  rw [State.on, State.on, kept]

theorem run_rejected_as {s : State} {src : Src} {p : Packet} {r a : Nat} (h : Ready s src p)
    (ap : Arb.applyPacket s src p = ⟨s, .rejected r a, some (r, a), 0⟩) :
    Arb.run s src .none p = rejectedAs s src p r a := by
  have unasked : (rejectedAs s src p r a).on R.SYS_CTRL_FULLRST = false := by
    rw [rejectedAs_fullrst]
    exact h.2.2.1
  rw [run_rejected h ap]
  by_cases hs : src = .ctl
  · subst hs
    by_cases h9 : s.lowPower = true ∧ r = 9
    · simp [Arb.ctlRejected, rejectedAs, Arb.cmdByte, h9, countRej_lowPower_nine h9.1]
    · simp [Arb.ctlRejected, rejectedAs, Arb.cmdByte, h9]
  · simpa [rejectedAs, hs] using acted_of _ unasked

end Sys2Proof.Laws
end

section
/-! The OWNER of a page (R40): which writes of it pass the checks, and what the one of SYS leaves. -/
namespace Sys2Proof.Laws
open Sys2Proof Sys2Proof.Machine Sys2Proof.Safety

theorem bits_one (d n : Nat) : bits d n n = d / 2 ^ n % 2 := by
  simp [bits]

theorem bits_one_mod_16 (d : Nat) {n : Nat} (h : n < 4) : bits (d % 16) n n = bits d n n := by
  have values : n = 0 ∨ n = 1 ∨ n = 2 ∨ n = 3 := by omega
  simp only [bits_one]
  rcases values with rfl | rfl | rfl | rfl <;> omega

/-- The access type and the bits of a field row. -/
def rowShape (q : FRow) : Acc × Nat × Nat := (q.acc, q.f.lo, q.f.w)

/-- A register with the four fields of an OWNER: bits [3:0], read-write without a lock (R30). -/
abbrev OwnerFields (r : Reg) : Prop := r.fields.map rowShape = [(.rw, 3, 1), (.rw, 2, 1), (.rw, 1, 1), (.rw, 0, 1)]

/-- The register tables hold an OWNER at offset 0x14 of every page, which governs its own writes. -/
theorem locate_owner : ∀ e ∈ Arb.pages, Arb.governor (Arb.pageAddr e.1 e.2 + 0x14) = some e ∧
    (Arb.pageAddr e.1 e.2 + 0x14) % 4 = 0 ∧ e.1 ≠ .ctx ∧ e.1 ≠ .slt ∧
    ∃ r ∈ e.1.regs, locate (Arb.pageAddr e.1 e.2 + 0x14) = .reg e.1 e.2 0x14 r ∧ OwnerFields r := by
  decide +kernel

theorem owner_acc {r : Reg} (h : OwnerFields r) : ∀ q ∈ r.fields, q.acc = .rw := by
  intro q hq
  have shape : rowShape q ∈ r.fields.map rowShape := List.mem_map_of_mem hq
  rw [h] at shape
  simp only [rowShape, List.mem_cons, Prod.mk.injEq, List.not_mem_nil, or_false] at shape
  rcases shape with e | e | e | e <;> exact e.1

theorem masked_owner {r : Reg} (h : OwnerFields r) (d : Nat) : Arb.masked r d = d % 16 := by
  have shapes : Arb.masked r d = (r.fields.map rowShape).foldl
      (fun a q => a + bits d (q.2.1 + q.2.2 - 1) q.2.1 * 2 ^ q.2.1) 0 := by
    rw [List.foldl_map]
    rfl
  rw [shapes, h]
  simp only [List.foldl_cons, List.foldl_nil, Nat.add_sub_cancel, bits_one]
  omega

/-- No chapter adds a check of its own to the OWNER of its page. -/
theorem pageCheck_owner (s : State) (src : Src) (p : Pg) (n win d : Nat) :
    Arb.pageCheck s src p n 0x14 win d = none := by
  cases p <;> rfl

theorem regCheck_owner (s : State) (src : Src) (p : Pg) (n a d : Nat) {r : Reg} (h : OwnerFields r)
    (hc : p ≠ .ctx) (hs : p ≠ .slt) : Arb.regCheck s src p n 0x14 r a d = none ↔ d % 16 ≠ 0 := by
  have writable : r.fields.all (fun q => !Arb.writable q.acc) = false := by
    cases hf : r.fields with
    | nil => simp [OwnerFields, hf] at h
    | cons q qs => simp [owner_acc h q (by simp [hf]), Arb.writable]
  have unlocked : r.fields.any (fun q => q.acc == .rwl) = false :=
    List.any_eq_false.2 (fun q hq => by simp [owner_acc h q hq])
  have value : (Arb.commonCheck p 0x14 (d % 16)).isSome = false ↔ d % 16 ≠ 0 := by
    by_cases hd : d % 16 = 0 <;> simp [Arb.commonCheck, hc, hs, hd]
  unfold Arb.regCheck
  simp only [masked_owner h, least_eq_none_iff, writable, unlocked, pageCheck_owner]
  simp [value]

theorem wordCheck_owner (s : State) (src : Src) (d : Nat) : ∀ e ∈ Arb.pages,
    (Arb.wordCheck s src true (Arb.pageAddr e.1 e.2 + 0x14) d = none ↔
      Arb.owns s src e.1 e.2 = true ∧ d % 16 ≠ 0) := by
  intro e he
  obtain ⟨governs, aligned, hc, hs, r, -, place, owner⟩ := locate_owner e he
  have word : (Arb.pageAddr e.1 e.2 + 0x14) / 4 * 4 = Arb.pageAddr e.1 e.2 + 0x14 := by omega
  have value := regCheck_owner s src e.1 e.2 (Arb.pageAddr e.1 e.2 + 0x14) d owner hc hs
  unfold Arb.wordCheck
  simp only [word, governs, place, aligned, least_eq_none_iff]
  simp [← value]

/-- A register without locked and staged fields, CTRL apart: its fields are stored and its page follows. -/
theorem writeReg_plain (s : State) (src : Src) (p : Pg) (n off a d : Nat) (r : Reg)
    (hl : r.fields.any (fun q => q.acc == .rwl) = false) (hs : r.fields.any (fun q => q.acc == .rws) = false)
    (ho : off ≠ 0x04) : Arb.writeReg s src p n off r a d =
      Arb.pageWrote (r.fields.foldl (fun u q =>
        Arb.storeField u a (View.winOf s src.code p off) (Arb.masked r d) q) s) s src p n off
        (View.winOf s src.code p off) (Arb.masked r d) := by
  simp [Arb.writeReg, Arb.lock, hl, hs, ho]

theorem locate_sysOwner : ∃ r ∈ Tab.sysRegs, locate 0x14 = .reg .sys 0 0x14 r ∧ r.fields =
    [⟨R.SYS_OWNER_ENG, .rw, .ao, true, false⟩, ⟨R.SYS_OWNER_RZ, .rw, .ao, true, false⟩,
     ⟨R.SYS_OWNER_USB, .rw, .ao, true, false⟩, ⟨R.SYS_OWNER_CTL, .rw, .ao, true, false⟩] := by
  decide +kernel

/-- The state with the four bits of a word in SYS.OWNER. -/
def sysOwned (s : State) (d : Nat) : State :=
  (((s.set R.SYS_OWNER_ENG (bits d 3 3)).set R.SYS_OWNER_RZ (bits d 2 2)).set R.SYS_OWNER_USB (bits d 1 1)).set
    R.SYS_OWNER_CTL (bits d 0 0)

theorem writeOne_sysOwner (s : State) (src : Src) (d : Nat) : Arb.writeOne s src 0x14 d = sysOwned s d := by
  obtain ⟨r, -, place, fields⟩ := locate_sysOwner
  have owner : OwnerFields r := by
    rw [OwnerFields, fields]
    rfl
  have stored : Arb.writeOne s src 0x14 d = sysOwned s (d % 16) := by
    unfold Arb.writeOne
    simp only [place]
    rw [writeReg_plain _ _ _ _ _ _ _ _ (by simp [fields]) (by simp [fields]) (by decide), masked_owner owner, fields]
    rfl
  simp [stored, sysOwned, bits_one_mod_16]

theorem sysOwned_fullrst (s : State) (d : Nat) : (sysOwned s d).on R.SYS_CTRL_FULLRST = s.on R.SYS_CTRL_FULLRST := by
  unfold sysOwned State.on
  rw [State.get_set_ne _ _ (by decide), State.get_set_ne _ _ (by decide), State.get_set_ne _ _ (by decide),
    State.get_set_ne _ _ (by decide)]

/-- Settles O16: of the checks of R37 only that of ownership and that of R40 can fail for an OWNER. -/
theorem ownerRule : Obligations.OwnerRule := by
  intro s src d
  refine ⟨wordCheck_owner s src d.toNat, fun ready owned nonzero => ?_⟩
  have passes := (wordCheck_owner s src d.toNat (.sys, 0) (by decide)).2 ⟨owned, nonzero⟩
  have same : BitVec.ofNat 32 d.toNat = d := by simp
  have accepted : Accepted s src 0x14 d.toNat := ⟨by rw [same]; exact ready, passes⟩
  have unasked : (Arb.writeOne s src 0x14 d.toNat).on R.SYS_CTRL_FULLRST = false := by
    rw [writeOne_sysOwner, sysOwned_fullrst]
    exact ready.2.2.1
  have written := write_accepted s src 0x14 d.toNat (by decide) d.isLt accepted unasked
  rw [writeOne_sysOwner] at written
  exact congrArg Host.Outcome.next written

end Sys2Proof.Laws
end

section
/-! The read-only regions of R25: what a write meets (R458), and what a read answers. -/
namespace Sys2Proof.Laws
open Sys2Proof Sys2Proof.Machine Sys2Proof.Safety

/-- An address of Peat, of the NVM read windows or of the factory area: the regions that no source writes (R25). -/
def ReadOnly (a : Nat) : Prop := (0x800000 ≤ a ∧ a < 0x860000) ∨ (0xA00000 ≤ a ∧ a < 0xB01000)

theorem readOnly_word {a : Nat} (h : ReadOnly a) : ReadOnly (a / 4 * 4) := by
  unfold ReadOnly at *
  omega

theorem locate_readOnly {a : Nat} (h : ReadOnly a) : locate a = .ro := by
  unfold locate
  rcases h with ⟨lo, hi⟩ | ⟨lo, hi⟩
  · rw [if_neg (by omega), if_neg (by omega), if_neg (by omega), if_neg (by omega), if_pos ⟨lo, hi⟩]
  · rw [if_neg (by omega), if_neg (by omega), if_neg (by omega), if_neg (by omega), if_neg (by omega),
      if_neg (by omega), if_pos ⟨lo, hi⟩]

theorem governor_readOnly {a : Nat} (h : ReadOnly a) : Arb.governor a = none := by
  unfold ReadOnly at h
  unfold Arb.governor
  rw [if_neg (by omega), if_neg (by omega), if_neg (by omega), if_neg (by omega), if_neg (by omega)]

/-! Writes. -/

/-- Reason 2 for an unaligned address too, where reason 5 applies beside it: the lowest stands. -/
theorem wordCheck_readOnly (s : State) (src : Src) {a : Nat} (h : ReadOnly a) (d : Nat) :
    Arb.wordCheck s src true a d = some 2 := by
  unfold Arb.wordCheck
  simp only [governor_readOnly h, locate_readOnly (readOnly_word h), ite_self]
  cases (a % 4 != 0) <;> rfl

theorem applyWrites_readOnly (s : State) (src : Src) {p : Packet} {a d : Nat} {rest : List (Nat × Nat)}
    (h : ReadOnly a) (hp : Arb.wordsOf p = (a, d) :: rest) :
    Arb.applyWrites s src p = ⟨s, .rejected 2 a, some (2, a), 0⟩ := by
  simp only [Arb.applyWrites, hp, Arb.runWords, wordCheck_readOnly s src h]

theorem badLen_false {src : Src} {n : Nat} (h : Arb.badLen src n = false) : 0 < n ∧ n % 4 = 0 := by
  simp only [Arb.badLen, Bool.or_eq_false_iff, beq_eq_false_iff_ne, bne_eq_false_iff_eq] at h
  omega

theorem toWords_cons {bs : List Byte} (h : 4 ≤ bs.length) : ∃ w ws, toWords bs = w :: ws := by
  match bs with
  | _ :: _ :: _ :: _ :: _ => exact ⟨_, _, rfl⟩

/-- Bytes of a served length have a first word, which a block and a FIFO write put to the packet's address. -/
theorem wordsOf_cons {src : Src} (a : Addr) {bs : List Byte} (h : Arb.badLen src bs.length = false) :
    (∃ d rest, Arb.wordsOf (.writeBlock a bs) = (a.toNat, d) :: rest) ∧
      ∃ d rest, Arb.wordsOf (.fifoWrite a bs) = (a.toNat, d) :: rest := by
  obtain ⟨hpos, h4⟩ := badLen_false h
  obtain ⟨w, ws, hw⟩ := toWords_cons (bs := bs) (by omega)
  simp only [Arb.wordsOf, hw]
  exact ⟨⟨w, _, rfl⟩, ⟨w, _, rfl⟩⟩

theorem countedIn_readOnly {a : Nat} (h : ReadOnly a) :
    Arb.countedIn 2 a = if a % 4 = 0 then some R.ACC_ERRCNT_REJ else none := by
  by_cases ha : a % 4 = 0 <;> simp [Arb.countedIn, ha, locate_readOnly h]

theorem rejectedAs_readOnly_kept (s : State) (src : Src) (p : Packet) {a : Nat} (h : ReadOnly a) :
    FieldsKept s (rejectedAs s src p 2 a) (rejectionFields src R.ACC_ERRCNT_REJ) := by
  refine fieldsKept_mono (rejectedAs_kept s src p 2 a) ?_
  rw [countFld, countedIn_readOnly h]
  intro f hf
  by_cases ha : a % 4 = 0
  · rw [if_pos ha] at hf
    exact hf
  · rw [if_neg ha] at hf
    rcases List.mem_append.1 hf with outcome | hf
    · exact List.mem_append_left _ outcome
    · refine List.mem_append_right _ ?_
      rcases List.mem_cons.1 hf with rfl | rest
      · simp
      · exact List.mem_cons_of_mem _ rest

theorem rejectedAs_readOnly_counts {s : State} (hl : s.lowPower = false) (src : Src) (p : Packet) {a : Nat}
    (h : ReadOnly a) :
    (a % 4 = 0 → (rejectedAs s src p 2 a).get R.ACC_ERRCNT_REJ = min (s.get R.ACC_ERRCNT_REJ + 1) 0xFFFF ∧
      (rejectedAs s src p 2 a).get R.ACC_RSVCNT_COUNT = s.get R.ACC_RSVCNT_COUNT) ∧
    (a % 4 ≠ 0 → (rejectedAs s src p 2 a).get R.ACC_RSVCNT_COUNT =
        min (s.get R.ACC_RSVCNT_COUNT + 1) (2 ^ R.ACC_RSVCNT_COUNT.w - 1) ∧
      (rejectedAs s src p 2 a).get R.ACC_ERRCNT_REJ = s.get R.ACC_ERRCNT_REJ) := by
  rw [rejectedAs_countedOnce hl src p 2 a (g := R.ACC_ERRCNT_REJ) (by cases src <;> decide),
    rejectedAs_countedOnce hl src p 2 a (g := R.ACC_RSVCNT_COUNT) (by cases src <;> decide)]
  simp only [countedOnce, countedIn_readOnly h]
  refine ⟨fun aligned => ?_, fun unaligned => ?_⟩
  · simp only [aligned, if_true]
    exact ⟨get_bump_self s _, get_bump_ne s (by decide)⟩
  · simp only [unaligned, if_false, Arb.reservedAccess, hl]
    exact ⟨(State.get_set_ne _ _ (by decide)).trans (get_bump_self s _),
      (State.get_set_ne _ _ (by decide)).trans (get_bump_ne s (by decide))⟩

/-! Reads. -/

theorem wordBytes_leNat (a b c d : Byte) : wordBytes (leNat [a, b, c, d]) = [a, b, c, d] := by
  have ha := a.isLt
  have hb := b.isLt
  have hc := c.isLt
  have hd := d.isLt
  simp only [wordBytes, leNat, List.cons.injEq, and_true]
  refine ⟨?_, ?_, ?_, ?_⟩ <;> apply BitVec.eq_of_toNat_eq <;> rw [BitVec.toNat_ofNat] <;> omega

theorem wordBytes_word (s : State) (a : Nat) : wordBytes (s.word a) = s.bytes a 4 :=
  wordBytes_leNat (s.byte a) (s.byte (a + 1)) (s.byte (a + 2)) (s.byte (a + 3))

theorem bytes_add (s : State) (a n m : Nat) : s.bytes a (n + m) = s.bytes a n ++ s.bytes (a + n) m := by
  simp [State.bytes, List.range_add, Nat.add_assoc]

theorem readOne_readOnly (s : State) (src : Src) {a : Nat} (h : ReadOnly a) (ha : a % 4 = 0) :
    Arb.readOne s src a = (s.word a, s) := by
  simp [Arb.readOne, ha, locate_readOnly h]

theorem readWords_readOnly (s : State) (src : Src) {a k : Nat} (ha : a % 4 = 0)
    (h : ∀ i < k, ReadOnly (a + 4 * i)) : Arb.readWords s src 4 a k = (s.bytes a (4 * k), s) := by
  induction k generalizing a with
  | zero => rfl
  | succ k ih =>
    have first : ReadOnly a := h 0 (by omega)
    have rest := ih (a := a + 4) (by omega) (fun i hi => by
      rw [show a + 4 + 4 * i = a + 4 * (i + 1) by omega]
      exact h (i + 1) (by omega))
    simp only [Arb.readWords, readOne_readOnly s src first ha, rest, wordBytes_word]
    rw [show 4 * (k + 1) = 4 + 4 * k by omega, bytes_add]

/-- Settles O15: the first word of every write to these regions offends with reason 2, and every word of a read stands
in memory. -/
theorem readOnlyRegions : Obligations.ReadOnlyRegions := by
  intro s src a h
  have ro : ReadOnly a.toNat := h
  refine ⟨fun i d bs hi => ?_, fun ha ready => ?_, fun n ha hn hl ready => ?_⟩
  · have rejected : ∃ p, exec i s = .next (Arb.run s src .none p) ∧ Ready s src p ∧
        Arb.applyPacket s src p = ⟨s, .rejected 2 a.toNat, some (2, a.toNat), 0⟩ := by
      rcases hi with ⟨rfl, ready⟩ | ⟨rfl, hl, ready⟩ | ⟨rfl, hl, ready⟩
      · exact ⟨_, rfl, ready, applyWrites_readOnly s src ro rfl⟩
      · obtain ⟨d, rest, hw⟩ := (wordsOf_cons a hl).1
        exact ⟨_, rfl, ready, by simpa [Arb.applyPacket, hl] using applyWrites_readOnly s src ro hw⟩
      · obtain ⟨d, rest, hw⟩ := (wordsOf_cons a hl).2
        exact ⟨_, rfl, ready, by simpa [Arb.applyPacket, hl] using applyWrites_readOnly s src ro hw⟩
    obtain ⟨p, run, ready, ap⟩ := rejected
    rw [run_rejected_as ready ap] at run
    refine ⟨_, run, rejectedAs_reply s src p 2 _, rejectedAs_parts s src p 2 _,
      rejectedAs_readOnly_kept s src p ro, fun hl => ?_⟩
    obtain ⟨reason, addr, flag⟩ := rejectedAs_recorded hl src p 2 a.toNat
    obtain ⟨aligned, unaligned⟩ := rejectedAs_readOnly_counts hl src p ro
    exact ⟨aligned, unaligned, reason, addr.trans (Nat.mod_eq_of_lt a.isLt), flag⟩
  · refine congrArg Host.Outcome.next (run_data ready rfl ?_ ready.2.2.1)
    simp only [Arb.applyPacket, readWords_readOnly s src (k := 1) ha (by simpa using ro)]
  · obtain ⟨hpos, h4⟩ := badLen_false hl
    have words : ∀ i < n / 4, ReadOnly (a.toNat + 4 * i) := by
      intro i hi
      unfold ReadOnly at *
      omega
    have whole : 4 * (n / 4) = n := Nat.mul_div_cancel' (Nat.dvd_of_mod_eq_zero h4)
    refine congrArg Host.Outcome.next (run_data ready rfl ?_ ready.2.2.1)
    simp [Arb.applyPacket, hl, readWords_readOnly s src ha words, whole]

end Sys2Proof.Laws
end

section
/-! Control transfers that carry packets (R303), and forwards over Rhizome (R332, R379). -/
namespace Sys2Proof.Laws
open Sys2Proof Sys2Proof.Machine Sys2Proof.Safety

/-! Control transfers. -/

theorem addr_of_halves (a : Addr) : BitVec.ofNat 24 (a.toNat / 65536 % 256 * 65536 + a.toNat % 65536) = a := by
  have := a.isLt
  apply BitVec.eq_of_toNat_eq
  rw [BitVec.toNat_ofNat]
  omega

theorem leNat_wordBytes (d : Nat) : leNat (wordBytes d) = d % 2 ^ 32 := by
  simp only [wordBytes, leNat, BitVec.toNat_ofNat]
  omega

theorem ofSetup_setupOf (p : Packet) (hf : ∀ a n k, p = .fifoRead a n k → k = n)
    (hz : ∀ d bs, p = .rzForward d bs → d.toNat < 1024) (hr : ∀ o n, p = .fwdResult o n → o = 0) :
    Arb.ofSetup (Arb.setupOf p).1 (Arb.setupOf p).2 = some p := by
  cases p with
  | writeWord a d =>
    have word : BitVec.ofNat 32 (leNat (wordBytes d.toNat)) = d := by
      rw [leNat_wordBytes, Nat.mod_eq_of_lt d.isLt, BitVec.ofNat_toNat, BitVec.setWidth_eq]
    simp [Arb.setupOf, Arb.ofSetup, addr_of_halves, word]
  | readWord a => simp [Arb.setupOf, Arb.ofSetup, addr_of_halves]
  | writeBlock a bs => simp [Arb.setupOf, Arb.ofSetup, addr_of_halves]
  | readBlock a n => simp [Arb.setupOf, Arb.ofSetup, addr_of_halves]
  | commit m => simp [Arb.setupOf, Arb.ofSetup]
  | readStatus => rfl
  | fifoWrite a bs => simp [Arb.setupOf, Arb.ofSetup, addr_of_halves]
  | fifoRead a n k => simp [Arb.setupOf, Arb.ofSetup, addr_of_halves, hf a n k rfl]
  | ping => rfl
  | rzForward d bs => simp [Arb.setupOf, Arb.ofSetup, Nat.mod_eq_of_lt (hz d bs rfl)]
  | fwdResult o n => simp [Arb.setupOf, Arb.ofSetup, hr o n rfl]

/-- A packet that can be enclosed is at most a block of 255 bytes after its command byte, address and length. -/
theorem parse_length {bs : List Byte} (h : (Arb.parse bs).isSome = true) : 0 < bs.length ∧ bs.length ≤ 260 := by
  cases bs with
  | nil => exact absurd h (by simp [Arb.parse])
  | cons c r =>
    have len : leNat ((r.drop 3).take 1) < 256 := by
      cases r.drop 3 with
      | nil => simp [leNat]
      | cons b _ => simpa [leNat] using b.isLt
    simp only [List.length_cons]
    refine ⟨by omega, ?_⟩
    simp only [Arb.parse] at h
    split at h
    all_goals simp only [Option.isSome_ite, ← List.length_eq_zero_iff, Option.isSome_none, Bool.false_eq_true] at h
    all_goals omega

/-! Fields seen through a source's window. -/

theorem win_key (f : Fld) (n : Nat) : (f.win n).key = f.key + 2 ^ 29 * n := by
  simp only [Fld.key, Fld.win]
  omega

theorem win_key_ne {f g : Fld} (hg : g.key < 2 ^ 29) (n : Nat) : (f.win (n + 1)).key ≠ g.key := by
  rw [win_key]
  omega

theorem win_key_ne_win {f g : Fld} (n : Nat) (h : f.key ≠ g.key) : (f.win n).key ≠ (g.win n).key := by
  simp only [win_key]
  omega

/-! The state after a forward. -/

theorem rzUpd_get (s : State) (f : RzSt → RzSt) (g : Fld) : (Rz.upd s f).get g = s.get g := rfl

theorem send_regs (s : State) (typ : Nat) (c : Cell) : (Rz.send s typ c).regs = s.regs := by
  unfold Rz.send
  split <;> rfl

/-- The CMD cells of a forward put into the queue (R331, R332). -/
def cellsSent (s : State) (code dst : Nat) (bytes : List Byte) : State :=
  let cs := Rz.chunks 83 bytes
  (cs.zipIdx).foldl (fun u e => Rz.send u Rz.CMD { Rz.mkCell u dst (s.on (R.RZ_FWDCFG_BCAST.win (code + 1))) e.1 with
    frag := BitVec.ofNat 7 e.2, last := e.2 + 1 == cs.length, tag := BitVec.ofNat 8 s.rz.tag }) s

/-- A source's forward result that starts afresh, with the tag `tag` (R332). -/
def forwardOpened (s : State) (code tag : Nat) (bytes : List Byte) : State :=
  Rz.upd ((((s.set (R.RZ_FWDSTAT_DONE.win (code + 1)) 0).set (R.RZ_FWDSTAT_STATUS.win (code + 1)) 0).set
      (R.RZ_FWDSTAT_REASON.win (code + 1)) 0).set (R.RZ_FWDSTAT_LEN.win (code + 1)) 0)
    (fun r => { r with tag := (tag + 1) % 256
                       fwd := Map.insert code ⟨tag, true, Rz.isRead (leNat (bytes.take 1)), []⟩ (Map.erase code r.fwd) })

theorem forward_eq (s : State) (code dst : Nat) (bytes : List Byte) : Rz.forward s code dst bytes =
    if s.on (R.RZ_FWDCFG_BCAST.win (code + 1)) then
      Rz.fwdDone (forwardOpened (cellsSent s code dst bytes) code s.rz.tag bytes) code 0 0 []
    else forwardOpened (cellsSent s code dst bytes) code s.rz.tag bytes := rfl

theorem cellsSent_regs (s : State) (code dst : Nat) (bytes : List Byte) :
    (cellsSent s code dst bytes).regs = s.regs :=
  List.foldlRecOn (motive := fun t => t.regs = s.regs) _ _ rfl (fun t ht _ _ => (send_regs t _ _).trans ht)

/-- The fields that show the result of a source's forward, and the flag of its end (R332, R340). -/
def fwdFields (code : Nat) : List Fld :=
  [R.RZ_FWDSTAT_DONE.win (code + 1), R.RZ_FWDSTAT_STATUS.win (code + 1), R.RZ_FWDSTAT_REASON.win (code + 1),
    R.RZ_FWDSTAT_LEN.win (code + 1), R.RZ_IFLG_FWDDONE]

theorem fwdFields_ne_fullrst (code : Nat) : ∀ f ∈ fwdFields code, f.key ≠ R.SYS_CTRL_FULLRST.key := by
  have window := fun f : Fld => win_key_ne (f := f) (g := R.SYS_CTRL_FULLRST) (by decide) code
  simp only [fwdFields, List.forall_mem_cons]
  exact ⟨window _, window _, window _, window _, by decide, by simp⟩

theorem forwardOpened_kept (s : State) (code tag : Nat) (bytes : List Byte) :
    FieldsKept s (forwardOpened s code tag bytes) (fwdFields code) := by
  intro g hg
  simp only [fwdFields, List.forall_mem_cons] at hg
  obtain ⟨hdone, hstatus, hreason, hlen, -, -⟩ := hg
  rw [forwardOpened, rzUpd_get, State.get_set_ne _ _ hlen, State.get_set_ne _ _ hreason, State.get_set_ne _ _ hstatus,
    State.get_set_ne _ _ hdone]

theorem forwardOpened_done (s : State) (code tag : Nat) (bytes : List Byte) :
    (forwardOpened s code tag bytes).get (R.RZ_FWDSTAT_DONE.win (code + 1)) = 0 := by
  rw [forwardOpened, rzUpd_get, State.get_set_ne _ _ (win_key_ne_win _ (by decide)),
    State.get_set_ne _ _ (win_key_ne_win _ (by decide)), State.get_set_ne _ _ (win_key_ne_win _ (by decide)),
    State.get_set_self]
  rfl

theorem fwdDone_kept (s : State) (code status reason : Nat) (data : List Byte) :
    FieldsKept s (Rz.fwdDone s code status reason data) (fwdFields code) := by
  intro g hg
  simp only [fwdFields, List.forall_mem_cons] at hg
  obtain ⟨hdone, hstatus, hreason, hlen, hflag, -⟩ := hg
  rw [Rz.fwdDone, rzUpd_get, State.get_set_ne _ _ hflag, State.get_set_ne _ _ hlen, State.get_set_ne _ _ hreason,
    State.get_set_ne _ _ hstatus, State.get_set_ne _ _ hdone]

theorem fwdDone_values (s : State) (code status reason : Nat) (data : List Byte) :
    (Rz.fwdDone s code status reason data).get (R.RZ_FWDSTAT_DONE.win (code + 1)) = 1 ∧
    (Rz.fwdDone s code status reason data).get (R.RZ_FWDSTAT_STATUS.win (code + 1)) = status % 2 ^ 3 ∧
    (Rz.fwdDone s code status reason data).get (R.RZ_FWDSTAT_LEN.win (code + 1)) = data.length % 2 ^ 13 ∧
    (Rz.fwdDone s code status reason data).get R.RZ_IFLG_FWDDONE = 1 := by
  have flag := fun f : Fld => (win_key_ne (f := f) (g := R.RZ_IFLG_FWDDONE) (by decide) code).symm
  simp only [Rz.fwdDone, rzUpd_get]
  refine ⟨?_, ?_, ?_, State.get_set_self _ _ _⟩
  · rw [State.get_set_ne _ _ (flag _), State.get_set_ne _ _ (win_key_ne_win _ (by decide)),
      State.get_set_ne _ _ (win_key_ne_win _ (by decide)), State.get_set_ne _ _ (win_key_ne_win _ (by decide)),
      State.get_set_self]
    rfl
  · rw [State.get_set_ne _ _ (flag _), State.get_set_ne _ _ (win_key_ne_win _ (by decide)),
      State.get_set_ne _ _ (win_key_ne_win _ (by decide)), State.get_set_self]
    rfl
  · rw [State.get_set_ne _ _ (flag _), State.get_set_self]
    rfl

theorem fwdDone_parts (s : State) (code status reason : Nat) (data : List Byte) :
    Rz.fwdDone s code status reason data = { s with
      regs := (Rz.fwdDone s code status reason data).regs
      rz := { s.rz with fwd := (Rz.fwdDone s code status reason data).rz.fwd } } := rfl

theorem forward_fullrst (s : State) (code dst : Nat) (bytes : List Byte) :
    (Rz.forward s code dst bytes).on R.SYS_CTRL_FULLRST = s.on R.SYS_CTRL_FULLRST := by
  have apart := fwdFields_ne_fullrst code
  have opened : (forwardOpened (cellsSent s code dst bytes) code s.rz.tag bytes).get R.SYS_CTRL_FULLRST =
      s.get R.SYS_CTRL_FULLRST :=
    (forwardOpened_kept _ _ _ _ _ apart).trans (State.get_of_regs (cellsSent_regs s code dst bytes) _)
  rw [forward_eq]
  unfold State.on
  split
  · rw [fwdDone_kept _ _ _ _ _ _ apart, opened]
  · rw [opened]

theorem chunks_single {bs : List Byte} (n : Nat) (h0 : 0 < bs.length) (h : bs.length ≤ 50) :
    Rz.chunks (n + 2) bs = [bs] := by
  cases bs with
  | nil => simp at h0
  | cons b r =>
    rw [Rz.chunks, List.take_of_length_le h, List.drop_eq_nil_of_le h, Rz.chunks]
    all_goals simp

theorem cellsSent_single {s : State} {code dst : Nat} {bs : List Byte} (h0 : 0 < bs.length) (h : bs.length ≤ 50)
    (hb : s.on (R.RZ_FWDCFG_BCAST.win (code + 1)) = false) (hr : s.get R.RZ_STAT_ROLE = 1) :
    cellsSent s code dst bs = Rz.upd s (fun r => { r with
      txq := r.txq ++ [(Rz.CMD, { Rz.mkCell s dst false bs with tag := BitVec.ofNat 8 s.rz.tag })] }) := by
  have member : ¬ (Rz.role s = Rz.OFF ∨ Rz.role s = Rz.STRANGER) := by simp [Rz.role, hr, Rz.OFF, Rz.STRANGER]
  simp only [cellsSent, chunks_single 81 h0 h, hb]
  exact if_neg member

/-- One cell in the queue, the next tag, and the result begun afresh. -/
theorem forward_single {s : State} {code dst : Nat} {bs : List Byte} (h0 : 0 < bs.length) (h : bs.length ≤ 50)
    (hb : s.on (R.RZ_FWDCFG_BCAST.win (code + 1)) = false) (hr : s.get R.RZ_STAT_ROLE = 1) :
    (Rz.forward s code dst bs).get (R.RZ_FWDSTAT_DONE.win (code + 1)) = 0 ∧
      Rz.forward s code dst bs = { s with
        regs := (Rz.forward s code dst bs).regs
        rz := { s.rz with
          txq := s.rz.txq ++ [(Rz.CMD, { Rz.mkCell s dst false bs with tag := BitVec.ofNat 8 s.rz.tag })]
          tag := (s.rz.tag + 1) % 256
          fwd := (Rz.forward s code dst bs).rz.fwd } } := by
  have opened : Rz.forward s code dst bs = forwardOpened (cellsSent s code dst bs) code s.rz.tag bs := by
    rw [forward_eq, hb]
    rfl
  rw [opened]
  refine ⟨forwardOpened_done _ _ _ _, ?_⟩
  rw [cellsSent_single h0 h hb hr]
  rfl

/-! What the arbiter does with the packets of a forward. -/

theorem applyPacket_rzForward {s : State} {src : Src} {dst : BitVec 16} {bs : List Byte} (hs : src ≠ .rz)
    (hd : dst.toNat < 1024) (hp : (Arb.parse bs).isSome = true) : Arb.applyPacket s src (.rzForward dst bs) =
      ⟨Rz.forward s src.code dst.toNat bs, .applied, none, 0⟩ := by
  have len := (parse_length hp).2
  have passes : ¬ (src = .rz ∨ dst.toNat / 1024 ≠ 0 ∨ 4096 < bs.length ∨ (!Arb.mayForward bs) = true) := by
    rintro (h | h | h | h)
    · exact hs h
    · exact h (Nat.div_eq_of_lt hd)
    · omega
    · simp [Arb.mayForward, hp] at h
  simp only [Arb.applyPacket, if_neg passes]

theorem applyPacket_rzForward_rz (s : State) (dst : BitVec 16) (bs : List Byte) :
    Arb.applyPacket s .rz (.rzForward dst bs) = ⟨s, .rejected 9 0, some (9, 0), 0⟩ := by
  simp [Arb.applyPacket, Arb.rejected9, Arb.addrOf]

theorem applyPacket_fwdResult_ctl {s : State} {off : BitVec 16} {n : Nat} (hl : Arb.badLen .ctl n = false)
    (ho : off.toNat % 4 = 0) (hd : s.on (R.RZ_FWDSTAT_DONE.win 1) = true)
    (hn : off.toNat + n ≤ s.get (R.RZ_FWDSTAT_LEN.win 1)) : Arb.applyPacket s .ctl (.fwdResult off n) =
      ⟨s, .data (((Map.get ⟨0, false, false, []⟩ s.rz.fwd 0).data.drop off.toNat).take n), none, 0⟩ := by
  simp [Arb.applyPacket, Arb.fwdResult, Src.code, hl, ho, hd, Nat.not_lt.2 hn]

theorem exec_forwardNoAnswer {s : State} {src : Src} (hm : 3 ≤ s.mode)
    (hb : (Map.get ⟨0, false, false, []⟩ s.rz.fwd src.code).busy = true) :
    exec (.forwardNoAnswer src) s = .next (Rz.fwdDone s src.code 3 0 []) := by
  show whenClocked s (fun s => Rz.noAnswer s src.code) = _
  simp [whenClocked, Blk.clocked, hm, Rz.noAnswer, hb]

/-- The record of an outcome leaves what is shown of forwards. -/
theorem outcomeFields_ne_win (f : Fld) (code : Nat) : ∀ g ∈ outcomeFields, g.key ≠ (f.win (code + 1)).key := by
  have plain : ∀ g ∈ outcomeFields, g.key < 2 ^ 29 := by decide
  exact fun g hg => (win_key_ne (plain g hg) code).symm

theorem recorded_forward_single {s : State} {src : Src} {dst : Nat} {bs : List Byte} (cmd : Nat) (h0 : 0 < bs.length)
    (h : bs.length ≤ 50) (hb : s.on (R.RZ_FWDCFG_BCAST.win (src.code + 1)) = false) (hr : s.get R.RZ_STAT_ROLE = 1)
    {t : State} (ht : t = recorded (Rz.forward s src.code dst bs) src cmd) :
    t.rz.txq = s.rz.txq ++ [(Rz.CMD, { Rz.mkCell s dst false bs with tag := BitVec.ofNat 8 s.rz.tag })] ∧
      t.get (R.RZ_FWDSTAT_DONE.win (src.code + 1)) = 0 ∧
      t = { s with regs := t.regs, acc := withAnswers s t
                   rz := { s.rz with txq := t.rz.txq, tag := (s.rz.tag + 1) % 256, fwd := t.rz.fwd } } := by
  obtain ⟨done, parts⟩ := forward_single (dst := dst) h0 h hb hr
  have kept : t.get (R.RZ_FWDSTAT_DONE.win (src.code + 1)) = 0 := by
    rw [ht, recorded_get _ _ _ _ (outcomeFields_ne_win _ _), done]
  have rest := recorded_parts (Rz.forward s src.code dst bs) src cmd
  rw [← ht] at rest
  generalize Rz.forward s src.code dst bs = u at rest parts
  refine ⟨?_, kept, ?_⟩ <;> rw [rest, parts]
  rfl

/-- Settles O20, clause by clause: the transfers, the accepted forward, that of RZ, FWD_RESULT, and the forward
without an answer. -/
theorem forwarding : Obligations.Forwarding := by
  refine ⟨ofSetup_setupOf, fun s src dst bs => ⟨fun hs hd hp ready => ?_, fun ready => ?_,
    fun off n ready hl ho hd hn => ?_, fun hm hb => ?_⟩⟩
  · have run := run_applied ready rfl (applyPacket_rzForward hs hd hp)
      ((forward_fullrst _ _ _ _).trans ready.2.2.1)
    exact ⟨_, congrArg Host.Outcome.next run, by simp [recorded, Arb.answer], fun short single member =>
      recorded_forward_single _ (parse_length hp).1 short single member rfl⟩
  · have run := run_rejected_as ready (applyPacket_rzForward_rz s dst bs)
    refine ⟨_, congrArg Host.Outcome.next run, rejectedAs_reply s .rz _ 9 0, ?_⟩
    rw [rejectedAs_parts]
  · exact congrArg Host.Outcome.next (run_data ready rfl (applyPacket_fwdResult_ctl hl ho hd hn) ready.2.2.1)
  · obtain ⟨done, status, len, flag⟩ := fwdDone_values s src.code 3 0 []
    exact ⟨_, exec_forwardNoAnswer hm hb, done, status, len, flag, fwdDone_parts s src.code 3 0 [],
      fwdDone_kept s src.code 3 0 []⟩

end Sys2Proof.Laws
end

section
/-! What the arbiter does with PING (R381): the runs with a PEC (R382), of a source that is not served (R7, R401), and of
a command that is no last CTL command (R380). -/
namespace Sys2Proof.Laws
open Sys2Proof Sys2Proof.Machine Sys2Proof.Safety

/-- Only CTL has a PEC: the runs of the other sources do not depend on it. -/
theorem run_pec_other (s : State) {src : Src} (hs : src ≠ .ctl) (pec : Pec) (p : Packet) :
    Arb.run s src pec p = Arb.run s src .none p := by
  cases src with
  | ctl => exact absurd rfl hs
  | usb | rz | eng => rfl

theorem run_unserved {s : State} {src : Src} (h : Arb.served s src = false) (pec : Pec) (p : Packet) :
    Arb.run s src pec p = Arb.answer s src .refused := by
  cases src <;> simp [Arb.run, Arb.runCtl, Arb.runOther, h]

theorem served_off {s : State} (h : s.mode = 0) (src : Src) : Arb.served s src = false := by
  simp [Arb.served, h]

theorem served_ctl {s : State} (h : Cbus.hears s = true) : Arb.served s .ctl = true := by
  have powered : (!s.pwr.booting) = true ∧ (s.mode != 0) = true := by
    simp only [Cbus.hears, Bool.and_eq_true] at h
    exact h.1.1
  simp [Arb.served, h, powered]

/-- The commands that R380 excepts leave the record of the last CTL command alone. -/
theorem note_silent {cmd : Nat} (h : Cbus.silent cmd = true) (s : State) (w : Bool) (res reason : Nat) :
    Cbus.note s cmd w res reason = s := by
  simp [Cbus.note, h]

theorem readOut_silent {cmd : Nat} (h : Cbus.silent cmd = true) (s : State) (src : Src) (bs : List Byte) :
    readOut s src cmd bs = Arb.answer s src (.data bs) := by
  simp [readOut, note_silent h]

/-- The PEC follows the bytes of a read that are all taken (R382). -/
theorem withPec_byte (s : State) (b : Byte) (p : Packet) (bs : List Byte) (hf : ∀ a n t, p ≠ .fifoRead a n t) :
    Arb.withPec s (.byte b) p (.data bs) = .data (bs ++ [BitVec.ofNat 8 (pec (Arb.written s (.byte b) p ++
      BitVec.ofNat 8 (2 * s.get R.CBUS_STAT_ACTIVE + 1) :: bs))]) := by
  cases p with
  | fifoRead a n t => exact absurd rfl (hf a n t)
  | _ => rfl

/-- A served read of CTL with CMD bit 7 set: noted, and answered with its PEC (R380, R382). -/
theorem run_data_pec {s u : State} {p : Packet} {bs : List Byte} (h : Ready s .ctl p) (hw : Arb.isWrite p = false)
    (ap : Arb.applyPacket s .ctl p = ⟨u, .data bs, none, 0⟩) (hf : u.on R.SYS_CTRL_FULLRST = false) (b : Byte) :
    Arb.run s .ctl (.byte b) p = Arb.answer (Cbus.note u (Arb.codeOf p + 0x80) false Cbus.APPLIED 0) .ctl
      (Arb.withPec u (.byte b) p (.data bs)) := by
  have none_held := ready_held h
  obtain ⟨served, direct, -, low⟩ := h
  have unrefused : ¬ (s.lowPower = true ∧ (!Arb.lowCmd p) = true) := by
    rintro ⟨hl, hn⟩
    simp [(low rfl).2 hl] at hn
  have unasked : (Arb.answer (Cbus.note u (Arb.codeOf p + 0x80) false Cbus.APPLIED 0) .ctl
      (Arb.withPec u (.byte b) p (.data bs))).on R.SYS_CTRL_FULLRST = false :=
    (congrArg (· != 0) (note_get u _ _ _ _ R.SYS_CTRL_FULLRST (by decide))).trans hf
  simp only [Arb.run, Arb.runCtl, served, none_held, unrefused, ap, Arb.pecOk, hw, direct]
  simpa [Arb.ctlDone, Arb.cmdByte, hw] using acted_of _ unasked

/-! PING. -/

theorem applyPacket_ping (s : State) (src : Src) :
    Arb.applyPacket s src .ping = ⟨s, .data (Arb.pingBytes s), none, 0⟩ := rfl

theorem run_ping {s : State} {src : Src} (h : Ready s src .ping) :
    Arb.run s src .none .ping = Arb.answer s src (.data (Arb.pingBytes s)) := by
  rw [run_data h rfl (applyPacket_ping s src) h.2.2.1, readOut_silent (by decide)]

theorem run_ping_pec {s : State} (h : Ready s .ctl .ping) (b : Byte) : Arb.run s .ctl (.byte b) .ping =
    Arb.answer s .ctl (.data (Arb.pingBytes s ++ [readPec s 0x8A (Arb.pingBytes s)])) := by
  rw [run_data_pec h rfl (applyPacket_ping s .ctl) h.2.2.1, note_silent (by decide), withPec_byte _ _ _ _ (by simp)]
  rfl

/-- PING stages no word and is served in STANDBY and LISTEN (R376). -/
theorem ready_ping {s : State} (hears : Cbus.hears s = true) (held : s.acc.held = [])
    (unasked : s.on R.SYS_CTRL_FULLRST = false) (free : s.on R.CBUS_CFG_PECREQ = false) : Ready s .ctl .ping := by
  have direct : Arb.holds s .ping = false := by simp [Arb.holds, held, Arb.writesMxt, Arb.wordsOf]
  exact ⟨served_ctl hears, direct, unasked, fun _ => ⟨free, fun _ => rfl⟩⟩

/-- Settles O12: the answer without and with PEC, when CTL is served, and the answer in OFF. -/
theorem ping : Obligations.Ping := by
  rintro s src pec bs rfl
  refine ⟨fun ready plain => ?_, fun b ready => congrArg Host.Outcome.next (run_ping_pec ready b),
    fun _ hears held unasked free => ready_ping hears held unasked free,
    fun off => congrArg Host.Outcome.next (run_unserved (served_off off src) pec .ping)⟩
  have without : Arb.run s src pec .ping = Arb.run s src .none .ping := by
    rcases plain with other | rfl
    · exact run_pec_other s other pec .ping
    · rfl
  exact congrArg Host.Outcome.next (without.trans (run_ping ready))

end Sys2Proof.Laws
end
